-- ==== Sys2Proof/Word.lean ====
section
/-!
DEFINITION. Bytes, the slot and socket indexes, and the two fixed-size containers of the FZ128 model.

`PerSlot` holds one value for each of the slots A to D, `Table n` holds `n` values in a list whose length
is carried with it, so that a table of 32 socket records cannot lose or gain a record.
-/

namespace Sys2Proof

/-- One byte of the host link (R185). -/
abbrev Byte := BitVec 8

/-- A board slot of the zone (chapter 1). -/
inductive Slot | A | B | C | D
deriving DecidableEq, Repr

/-- A socket number within a board, 0 to 31 (section 1.5). -/
abbrev Socket := Fin 32

/-- Code of a slot on the link, A as 0 (R190). -/
def Slot.code : Slot → Nat
  | .A => 0 | .B => 1 | .C => 2 | .D => 3

/-- The four slots in order. -/
def Slot.all : List Slot := [.A, .B, .C, .D]

/-- The 32 sockets of a board in order. -/
def Socket.all : List Socket := List.finRange 32

/-- One value for each slot. -/
structure PerSlot (α : Type) where
  a : α
  b : α
  c : α
  d : α
deriving DecidableEq, Repr

def PerSlot.get {α : Type} (p : PerSlot α) : Slot → α
  | .A => p.a | .B => p.b | .C => p.c | .D => p.d

def PerSlot.set {α : Type} (p : PerSlot α) (k : Slot) (x : α) : PerSlot α :=
  match k with
  | .A => { p with a := x }
  | .B => { p with b := x }
  | .C => { p with c := x }
  | .D => { p with d := x }

def PerSlot.fill {α : Type} (x : α) : PerSlot α := ⟨x, x, x, x⟩

def PerSlot.map {α β : Type} (f : α → β) (p : PerSlot α) : PerSlot β := ⟨f p.a, f p.b, f p.c, f p.d⟩

/-- `n` values, numbered from 0. -/
structure Table (n : Nat) (α : Type) where
  toList : List α
  length_eq : toList.length = n
deriving DecidableEq, Repr

def Table.fill (n : Nat) {α : Type} (x : α) : Table n α := ⟨List.replicate n x, by simp⟩

def Table.get {n : Nat} {α : Type} (t : Table n α) (i : Fin n) : α :=
  t.toList[i.val]'(by rw [t.length_eq]; exact i.isLt)

def Table.set {n : Nat} {α : Type} (t : Table n α) (i : Fin n) (x : α) : Table n α :=
  ⟨t.toList.set i.val x, by simp [t.length_eq]⟩

def Table.map {n : Nat} {α β : Type} (f : α → β) (t : Table n α) : Table n β :=
  ⟨t.toList.map f, by simp [t.length_eq]⟩

/-- Like `map`, with each value's number. -/
def Table.mapIdx {n : Nat} {α β : Type} (f : Fin n → α → β) (t : Table n α) : Table n β :=
  ⟨List.zipWith f (List.finRange n) t.toList, by simp [t.length_eq]⟩

/-- The table whose `i`-th value is `f i`. -/
def Table.ofFn {n : Nat} {α : Type} (f : Fin n → α) : Table n α :=
  ⟨(List.finRange n).map f, by simp⟩

/-- Add 1, held at the maximum `m`: the manual's saturating counters. -/
def satInc (m n : Nat) : Nat := if n < m then n + 1 else m

end Sys2Proof
end

