-- ==== Sys2Proof/Machine/Types.lean ====
section
/-!
DEFINITION. The enumerations and records of the manual: what each block of the FZ128 holds, field by field.
Enumerations list their values in the code order of R191.
-/

namespace Sys2Proof.Machine

/-! ## Boards and slots (chapter 1) -/

/-- Board state of a slot (R1). -/
inductive BoardState | empty | ident | present | ramping | powered | draining | tripped
deriving DecidableEq, Repr

/-- Descriptor status with its cause (R1, R191). -/
inductive DescStatus | absent | valid | noAnswer | outOfRange
deriving DecidableEq, Repr

/-- Board identity; also the tag of an account set (R3, R5). -/
structure Identity where
  typeCode : Nat
  serial : Nat
deriving DecidableEq, Repr

/-- Board descriptor (R3). Rail maxima in mV, current limits in units of 10 mA. -/
structure Descriptor where
  socketCount : Nat
  vcoreMax : Nat
  vioMax : Nat
  vcoreLimit : Nat
  vioLimit : Nat
deriving DecidableEq, Repr

/-! ## Settings, rails and sockets (chapter 2) -/

inductive FailPolicy | keep | drop
deriving DecidableEq, Repr

inductive RailOrder | vioFirst | vcoreFirst
deriving DecidableEq, Repr

inductive LaneMode | normal | invert | forceLow | forceHigh
deriving DecidableEq, Repr

/-- One entry of a lane map (R65). -/
structure LaneEntry where
  source : Nat
  mode : LaneMode
deriving DecidableEq, Repr

/-- One copy of a board's settings (R18). A setpoint of 0 is off (R19). -/
structure Settings where
  vcore : Nat
  vio : Nat
  fullScale : Nat
  currentLimit : Nat
  strikeLimit : Nat
  retryDelay : Nat
  policy : FailPolicy
  dwell : Nat
  window : Nat
  slew : Nat
  order : RailOrder
  laneMap : Table 16 LaneEntry
  phases : Table 4 Nat
  devLimit : Nat
deriving DecidableEq, Repr

inductive Rail | vcore | vio
deriving DecidableEq, Repr

inductive RailCond | off | settling | held | lowering
deriving DecidableEq, Repr

/-- Cause of a board trip (R27). -/
inductive TripCause | railTimeout | overcurrent | undervoltage
deriving DecidableEq, Repr

/-- A timer: `none` while stopped, `some n` with `n` references still to come, `some 0` when due. -/
abbrev Timer := Option Nat

/-- A rail of a slot (R20). -/
structure RailState where
  command : Nat
  target : Nat
  cond : RailCond
  windowMiss : Nat
  overRun : Nat
  settle : Timer
deriving DecidableEq, Repr

/-- Socket power state (R29). -/
inductive PowerState | masked | off | on | tripWait | quarantined
deriving DecidableEq, Repr

/-- A socket's power record (R29). The overcurrent run count is 1 exactly while `overCode` is present; it
then holds the first over-limit code, which the log entry of a trip carries (R32). -/
structure SocketPower where
  power : PowerState
  strikes : Nat
  overCode : Option Nat
  retry : Timer
deriving DecidableEq, Repr

/-- Where a ramp stands (R23, R24). -/
inductive RampStage | first | second | inrush (step : Nat)
deriving DecidableEq, Repr

/-- A ramp in progress, with the rail order recorded at its start (R22). -/
structure Ramp where
  order : RailOrder
  stage : RampStage
deriving DecidableEq, Repr

/-- A drain in progress: the rail being lowered, whether it is the second, and whether it was already OFF
when its lowering began (R25). -/
structure Drain where
  rail : Rail
  last : Bool
  wasOff : Bool
deriving DecidableEq, Repr

/-- A slot controller (R1, R20, R29). -/
structure SlotCtl where
  board : BoardState
  identity : Option Identity
  descriptor : Option Descriptor
  status : DescStatus
  active : Settings
  staged : Settings
  sockets : Table 32 SocketPower
  railTrip : Bool
  socketTrip : Bool
  burstDone : Bool
  applyDone : Bool
  abandoned : Nat
  applyDeferred : Bool
  vcore : RailState
  vio : RailState
  ramp : Option Ramp
  dwell : Timer
  drain : Option Drain
  drainLimit : Timer
  identLimit : Timer
deriving DecidableEq, Repr

/-! ## Sense scanner (chapter 3) -/

/-- Socket sample record (R48). -/
structure SampleRecord where
  code : Nat
  codeValid : Bool
  temp : Int
  tempValid : Bool
  fault : Bool
  age : Nat
deriving DecidableEq, Repr

/-- Rail sample record (R52). -/
structure RailRecord where
  voltage : Nat
  current : Nat
  valid : Bool
deriving DecidableEq, Repr

/-- An entry of the capture list: a held set waiting for conversion, with the burst that made the hold (R46). -/
structure CaptureEntry where
  point : Fin 8
  burst : Nat
deriving DecidableEq, Repr

/-- The capture set being converted (R46, R47): the socket whose conversion is in progress, the number of
sockets of the set, the burst that conversion belongs to and the burst the later ones belong to, each with
the mark that its conversions are discarded. -/
structure CaptureSet where
  point : Fin 8
  socket : Nat
  count : Nat
  burst : Nat
  discard : Bool
  restBurst : Nat
  restDiscard : Bool
deriving DecidableEq, Repr

/-- The conversion in progress: the socket full-scale in force when it began (R48), and whether its result
is discarded (R56). What is converted is the capture set's socket where a set is being converted, and the
round's position otherwise. -/
structure Conversion where
  fullScale : Nat
  discard : Bool
deriving DecidableEq, Repr

/-- A sense scanner (R43). `partialResult` is the result of the first conversion of the pair in progress
(rail voltage or socket current), absent where it gave none. -/
structure Scanner where
  running : Bool
  records : Table 32 SampleRecord
  vcore : RailRecord
  vio : RailRecord
  faults : Table 32 Nat
  captures : List CaptureEntry
  converting : Option CaptureSet
  conversion : Option Conversion
  position : Nat
  setsBegun : Nat
  roundCount : Nat
  partialResult : Option Nat
deriving DecidableEq, Repr

/-! ## Pattern store, channels and compare units (chapters 4 to 6) -/

/-- A vector of the store (R57). -/
structure PatVector where
  drive : BitVec 16
  expect : Bool
  strobe : Bool
deriving DecidableEq, Repr

/-- The expected profile of a pattern with its deviation limit (R59). -/
structure Profile where
  codes : Table 8 Nat
  limit : Nat
deriving DecidableEq, Repr

/-- A defined pattern record (R59). -/
structure PatternRecord where
  start : Nat
  length : Nat
  period : Nat
  tolerance : Nat
  profile : Option Profile
deriving DecidableEq, Repr

/-- The pattern store: the vectors that are not cleared, by rising index, and the 32 records. -/
structure PatternStore where
  cells : List (Nat × PatVector)
  records : Table 32 (Option PatternRecord)
deriving DecidableEq, Repr

inductive ChannelState | idle | wait | burst | gap | done
deriving DecidableEq, Repr

inductive BurstMode | continuous | periodic | single | triggered
deriving DecidableEq, Repr

/-- A burst configuration (R75). -/
structure BurstConfig where
  pattern : Fin 32
  mode : BurstMode
  passes : Nat
  gap : Nat
deriving DecidableEq, Repr

/-- The pulse of a clock group for one driven vector, until its falling edge: what the compare unit needs
of the vector at the sample instant (R69, R90). -/
structure Pulse where
  expect : Bool
  strobe : Bool
deriving DecidableEq, Repr

/-- What a channel holds while in BURST (R73): the burst record, pass number and position, and the vector
the lanes carry. -/
structure Play where
  record : PatternRecord
  pass : Nat
  position : Nat
  driven : PatVector
deriving DecidableEq, Repr

/-- A pattern channel (R73). PERIOD-PENDING is set exactly while `pending` is present. `burst` numbers the
bursts, so that a capture names its burst (R46); `pulses` are, per clock group, the pulses whose sample
instant has not come, oldest first. -/
structure Channel where
  state : ChannelState
  active : Option BurstConfig
  pending : Option BurstConfig
  play : Option Play
  rateStep : Nat
  gap : Timer
  burst : Nat
  pulses : Table 4 (List Pulse)
deriving DecidableEq, Repr

inductive PointState | awaited | complete | lost
deriving DecidableEq, Repr

/-- A profile record of one burst (R95). A sample is `none` while MISSING. -/
structure ProfileRecord where
  burst : Nat
  codes : Table 8 Nat
  limit : Nat
  phases : Table 4 Nat
  points : Table 8 PointState
  samples : Table 32 (Table 8 (Option Nat))
  members : Table 32 Bool
  strikeLimit : Option Nat
deriving DecidableEq, Repr

/-- A compare unit (R74, R95). -/
structure Compare where
  mismatch : Table 32 Nat
  member : Table 32 Bool
  phases : Table 4 Nat
  collecting : Option ProfileRecord
  closing : Option ProfileRecord
  devStrikes : Table 32 Nat
deriving DecidableEq, Repr

/-! ## Zone thermal controller (chapter 7) -/

inductive ZoneState | idle | ramp | settle | soak | cool | safe
deriving DecidableEq, Repr

inductive SafeCause | sensorsLost | airOvertemp | hostAbort
deriving DecidableEq, Repr

inductive SensorSource | primary | secondary
deriving DecidableEq, Repr

/-- An air-sensor record (R105, R106). -/
structure SensorRecord where
  temp : Int
  valid : Bool
  faults : Nat
deriving DecidableEq, Repr

/-- The control temperature with its source (R107). -/
structure ControlTemp where
  temp : Int
  source : SensorSource
deriving DecidableEq, Repr

/-- The tuning values of ZONE-TUNE (R115). -/
structure Tuning where
  kp : Int
  ki : Int
  band : Int
  settleTime : Int
  fanFloor : Int
  zoneCutoff : Int
  socketCutoff : Int
  throttle : Int
  hysteresis : Int
  coolTarget : Int
deriving DecidableEq, Repr

/-- Throttle state of one board (R119). -/
structure Throttle where
  step : Nat
  hold : Timer
  fall : Timer
deriving DecidableEq, Repr

/-- The zone thermal controller (R105). `output` is the loop output held until the next interval (R116);
`interval` is the time to the next control interval, in 1 s references. -/
structure Zone where
  state : ZoneState
  target : Option Int
  rampRate : Int
  effective : Option Int
  integ : Int
  output : Int
  heater : Int
  fan : Int
  heatEn : Bool
  safeLine : Bool
  primary : SensorRecord
  secondary : SensorRecord
  control : Option ControlTemp
  lastValid : Option Int
  discCount : Nat
  discNote : Bool
  settleCount : Nat
  excCount : Nat
  excNote : Bool
  safeCause : Option SafeCause
  tuning : Tuning
  throttle : PerSlot Throttle
  interval : Timer
deriving DecidableEq, Repr

/-! ## Account unit (chapter 8) -/

inductive FailCause | quarantine | functional | currentProfile
deriving DecidableEq, Repr

inductive Verdict | good | failed
deriving DecidableEq, Repr

/-- A first-failure record (R140); the detail is laid out as in the log entry of the same cause (R193). -/
structure FirstFailure where
  cause : FailCause
  stress : Nat
  epoch : Nat
  runSeconds : Nat
  detail : List Byte
deriving DecidableEq, Repr

/-- A socket account record (R129). -/
structure AcctRecord where
  verdict : Verdict
  stress : Nat
  residue : Nat
  powered : Nat
  exercised : Nat
  peak : Option Int
  trips : Nat
  failing : Nat
  reports : Nat
  loggedQuarantine : Bool
  loggedFunctional : Bool
  loggedProfile : Bool
  estimated : Bool
  untimed : Bool
  saturated : Bool
  interrupted : Bool
  first : Option FirstFailure
deriving DecidableEq, Repr

/-- A slot set: an optional tag and 32 records (R128). -/
structure AcctSet where
  tag : Option Identity
  recs : Table 32 AcctRecord
deriving DecidableEq, Repr

/-- Open-interval counters m_on and m_ex of a socket (R132). -/
structure OpenCount where
  on : Nat
  ex : Nat
deriving DecidableEq, Repr

/-- A breakpoint of the acceleration table (R130). -/
structure Breakpoint where
  temp : Int
  factor : Nat
deriving DecidableEq, Repr

/-- The copy a held snapshot keeps (R144). -/
structure SnapCopy where
  sets : PerSlot AcctSet
  devStrikes : PerSlot (Table 32 Nat)
  epoch : Nat
  runSeconds : Nat
  pages : Table 32 Bool
deriving DecidableEq, Repr

inductive Snapshot | absent | waiting | held (copy : SnapCopy)
deriving DecidableEq, Repr

/-- The account unit (R128). -/
structure Account where
  sets : PerSlot AcctSet
  accel : List Breakpoint
  wEx : Nat
  wSt : Nat
  interval : Timer
  counts : PerSlot (Table 32 OpenCount)
  holdover : Bool
  snapshot : Snapshot
deriving DecidableEq, Repr

/-! ## Failure log and alert unit (chapters 9 and 10) -/

/-- The fourteen log causes (R151). -/
inductive LogCause
  | overcurrent | switchFault | overtemp | tempSensor | quarantine | functional | currentProfile | reinstated
  | boardRail | boardPulled | slotRetagged | zoneSafe | powerRestored | retentionLost
deriving DecidableEq, Repr

/-- A log entry (R150). -/
structure LogEntry where
  epoch : Nat
  runSeconds : Nat
  slot : Option Slot
  socket : Option Socket
  cause : LogCause
  zoneTemp : Option Int
  socketTemp : Option Int
  stress : Option Nat
  detail : List Byte
deriving DecidableEq, Repr

/-- The failure log (R149). -/
structure FailLog where
  entries : List LogEntry
  discarded : Nat
  epoch : Nat
  armed : Bool
deriving DecidableEq, Repr

inductive PriorityMode | fixed | rotating
deriving DecidableEq, Repr

inductive DeliveryMode | frame | polled
deriving DecidableEq, Repr

/-- The alert unit (R162). A set of sources is a byte in which bit x stands for source x (R185). -/
structure AlertUnit where
  raised : Byte
  inService : Byte
  mask : Byte
  priority : PriorityMode
  base : Nat
  delivery : DeliveryMode
deriving DecidableEq, Repr

/-! ## Time base, retention and link (chapters 11 and 12) -/

inductive ClockSource | refclk | internal
deriving DecidableEq, Repr

inductive ClockState | locked | holdover
deriving DecidableEq, Repr

inductive CheckOutcome | valid | lost
deriving DecidableEq, Repr

/-- Time base and clock monitor (R174, R175, R178). `msCount` counts the 1 ms references since the last 1 s
reference; `outcome` is that of the last retention check (R183). -/
structure Clock where
  source : ClockSource
  live : ClockState
  qualifying : Bool
  sticky : Bool
  msCount : Nat
  runSeconds : Nat
  outcome : CheckOutcome
deriving DecidableEq, Repr

/-- What a commit copies (R181). -/
structure Image where
  sets : PerSlot AcctSet
  entries : List LogEntry
  discarded : Nat
  epoch : Nat
deriving DecidableEq, Repr

/-- Retention memory (R181). The stored checksum is named by the image it was computed over: `some i` is the
CRC-32 of `i`, `none` is the checksum made invalid. -/
structure Retention where
  image : Image
  checksum : Option Image
  mark : Bool
deriving DecidableEq, Repr

inductive RxState | hunt | receiving
deriving DecidableEq, Repr

/-- A frame less its start byte, length and CRC, which follow from these (R185). -/
structure Frame where
  kind : Byte
  payload : List Byte
deriving DecidableEq, Repr

/-- A frame in the transmitter: a reply or an alert frame (R188). -/
structure TxFrame where
  isReply : Bool
  frame : Frame
deriving DecidableEq, Repr

/-- The link controller (R186, R188). `buffer` holds the bytes of the frame being received, its start byte
among them; `composed` is a reply waiting for the transmitter and `sending` the frame going out. -/
structure Link where
  rx : RxState
  buffer : List Byte
  owed : Bool
  composed : Option Frame
  sending : Option TxFrame
deriving DecidableEq, Repr

/-- What the part as a whole is doing: unpowered; held by RESET#; running the retention check of a start;
running; committing; RETAINED (R179, R182, R183). -/
inductive Phase | unpowered | resetHeld | checking | running | commit | retained
deriving DecidableEq, Repr

/-- The phase, the RESET# kept from during a commit, and whether POWER-FAIL# was asserted during the
retention check of this start (R179). -/
structure Part where
  phase : Phase
  resetKept : Bool
  failSeen : Bool
deriving DecidableEq, Repr

/-- Levels of the input lines: board-present and switch-fault per slot, RESET# and POWER-FAIL# (section 12.6). -/
structure Lines where
  present : PerSlot Bool
  switchFault : PerSlot (Table 32 Bool)
  reset : Bool
  powerFail : Bool
deriving DecidableEq, Repr

end Sys2Proof.Machine
end

