-- ==== Sys2Proof/Syntax.lean ====
section
/-!
DEFINITION. The commands of the FZ128: one constructor for each row of spec/opcode_table.json.

A request carries its payload's fields as numbers of the width the catalogue gives them (R190); a slot byte,
a record number or a code may therefore be out of range, and the request's rule answers that. An event of
the boards, the oven, the time base or the link carries what the part reads at that moment.
-/

namespace Sys2Proof

open Machine

/-- An item of BOARD-STAGE (R19, section 12.3): a setting of R18 with its value, the readout, or an item code
that names nothing. -/
inductive StageItem
  | vcore (mv : Nat)
  | vio (mv : Nat)
  | fullScale (ma : Nat)
  | currentLimit (code : Nat)
  | strikeLimit (n : Nat)
  | retryDelay (s : Nat)
  | policy (code : Nat)
  | dwell (ms : Nat)
  | window (percent : Nat)
  | slew (rate : Nat)
  | order (code : Nat)
  | laneMap (entries : Table 16 (Nat × Nat))
  | phases (packed : Nat)
  | devLimit (n : Nat)
  | readout
  | unknown (code : Nat)
deriving DecidableEq, Repr

/-- A vector of PATTERN-LOAD: its 16 drive bits and its third byte (section 12.3). -/
structure RawVector where
  drive : BitVec 16
  marks : Byte
deriving DecidableEq, Repr

/-- An item of ZONE-TUNE: a value code in the order of R115's table, and the value. -/
structure TuneItem where
  code : Nat
  value : Int
deriving DecidableEq, Repr

/-- A command to the block: a request taken from the link, or an event. -/
inductive Instr
  -- requests of the zone
  | identify
  | zoneReset
  | zoneSetpoint (target : Int) (rate : Nat)
  | zoneTune (items : List TuneItem)
  | zoneCool
  | zoneAbort
  | zoneStatus
  -- requests of boards and sockets
  | boardPowerUp (slot : Nat)
  | boardPowerDown (slot : Nat)
  | boardStage (slot : Nat) (items : List StageItem)
  | boardApply (slot : Nat)
  | boardStatus (slot : Nat)
  | socketSetMask (slot : Nat) (sockets : List Nat)
  | socketSetUnmask (slot : Nat) (sockets : List Nat)
  | socketSetReinstate (slot : Nat) (sockets : List Nat)
  | socketStatus (slot : Nat) (sockets : List Nat)
  -- requests of patterns and bursts
  | patternLoad (start : Nat) (vectors : List RawVector)
  | patternDefineWrite (record start length period tolerance : Nat) (profile : Option Profile)
  | patternDefineClear (record : Nat)
  | patternDefineQuery (record : Nat)
  | burstConfigSet (slot pattern mode passes gap : Nat)
  | burstConfigQuery (slot : Nat)
  | exerciseStart (slot : Nat)
  | exerciseStop (slot : Nat)
  | burstTrigger (slot : Nat)
  -- requests of the accounts
  | accelTableLoad (points : List Breakpoint)
  | weightsSet (wEx wSt : Nat)
  | accountSnapshot
  | accountRead (page : Nat)
  | snapshotRelease
  | accountClear (slot : Nat)
  -- requests of the log, the alerts and the clock
  | logRead (position count : Nat)
  | logRetire (count : Nat)
  | logStatus
  | alertMask (toMask toUnmask : Byte)
  | alertConfig (priority delivery : Nat)
  | alertPoll
  | alertDone (source : Nat)
  | clockStatus
  | clockClear
  -- the link
  | unknownKindRequest (kind : Byte) (payload : List Byte)
  | frameDiscarded
  | receiveTimeout
  | frameSent
  | alertFrame
  -- boards
  | boardInserted (slot : Slot)
  | boardRemoved (slot : Slot)
  | identityAnswer (slot : Slot) (identity : Identity) (descriptor : Descriptor)
  | identityTimeout (slot : Slot)
  -- rails and sockets
  | settleLimitExpiry (slot : Slot) (rail : Rail)
  | inrushDwellExpiry (slot : Slot)
  | drainLimitExpiry (slot : Slot)
  | switchFault (slot : Slot) (socket : Socket) (active : Bool)
  | retryExpiry (slot : Slot) (socket : Socket)
  -- sensing and throttling
  | conversionEnd (slot : Slot) (reading : Option Int)
  | riseHoldExpiry (slot : Slot)
  | throttleFallExpiry (slot : Slot)
  -- bursts
  | vectorBoundary (slot : Slot)
  | burstEnd (slot : Slot)
  | gapExpiry (slot : Slot)
  -- intervals and references
  | controlInterval (primary secondary : Option Int)
  | accountIntervalExpiry
  | reference1ms
  | reference1s
  -- clock monitor
  | holdoverDetection
  | qualificationStart
  | qualificationFail
  | qualificationSuccess
  -- power and starts
  | powerFailAssert (level : Bool)
  | resetAssert
  | commitComplete
  | resetRelease
  | powerOnReset (backup : Bool)
  | backupSupplyLoss
  | retentionCheckEnd
  -- compare and link bytes
  | sampleInstant (slot : Slot) (group : Fin 4) (levels : Byte)
  | byteArrival (byte : Byte) (stopBit : Bool)
  | powerLoss
deriving DecidableEq, Repr

end Sys2Proof
end

