-- ==== Sys2Proof/Decode.lean ====
section
/-!
DEFINITION. The command that a word spells. The table gives no row any bits: a request is a frame of the link
and an event is no word at all (log entry 2), so no word spells a command.
-/

namespace Sys2Proof

/-- No row of the table has bits (log entry 2). -/
def decodeTableWord (_nbits _w : Nat) : Option Instr := none

end Sys2Proof
end

