-- ==== Sys2Proof/Config.lean ====
section
/-!
DEFINITION. What the manual fixes for every FZ128, and the free values: constants with no body, about which
nothing can be proved, for what the manual leaves open.
-/

namespace Sys2Proof.Config

open Machine

/-- FREE VALUE (log entry 7). Which of two events that reach one object at the same moment is taken first,
where the manual gives no order: applied to a counter of such races, `true` puts the second-named first. -/
opaque raceFirst : Nat → Bool

/-- FREE VALUE (log entry 8). Whether a kind byte with its top bit set is found as soon as it arrives, as a
length byte above 240 is, or with the CRC at the end of the frame (R186). -/
opaque kindFoundAtOnce : Bool

/-- FREE VALUE (log entry 22). The layout of the retention image, over which its CRC-32 is computed: R181
names the image's contents and not their bytes. -/
opaque imageBytes : Image → List Byte

/-! ## Fixed numbers -/

/-- Settle limit of a rail, in ms (R21). -/
def settleLimit : Nat := 200
/-- Drain limit of a rail, in ms (R25). -/
def drainLimit : Nat := 200
/-- A rail being lowered is done below this voltage, in mV (R25). -/
def drainedBelow : Nat := 100
/-- Limit of an identity read, in ms (R2). -/
def identLimit : Nat := 50
/-- Rise-hold and fall timers, in ms (R119). -/
def throttleTime : Nat := 10000
/-- A temperature is stale above this age, in ms (R54). -/
def staleAge : Nat := 100
/-- Most entries of the failure log (R149). -/
def logSize : Nat := 256
/-- Occupancy at which an armed log raises LOG (R155). -/
def logMark : Nat := 192
/-- Occupancy below which the log is armed again (R156). -/
def logRearm : Nat := 128
/-- Vectors of the pattern store (R57). -/
def storeSize : Nat := 8192
/-- Limits of the valid sensor range, in 1/16 °C (section 1.5). -/
def tempMin : Int := -640
def tempMax : Int := 3200
/-- Largest stress, powered time and exercised time, 2^40 - 1 (R129). -/
def max40 : Nat := 2 ^ 40 - 1
/-- Largest run-seconds, 2^32 - 1 (R178). -/
def max32 : Nat := 2 ^ 32 - 1
/-- Largest payload of a frame (R185). -/
def maxPayload : Nat := 240

/-- Power-on settings of a board (R18, R65, R68). -/
def settings : Settings :=
  { vcore := 0, vio := 0, fullScale := 10000, currentLimit := 230, strikeLimit := 3, retryDelay := 30,
    policy := .keep, dwell := 10, window := 5, slew := 10, order := .vioFirst,
    laneMap := Table.ofFn fun l => ⟨l.val, .normal⟩, phases := Table.fill 4 0, devLimit := 4 }

/-- Default tuning values (R115). -/
def tuning : Tuning :=
  { kp := 400, ki := 50, band := 32, settleTime := 300, fanFloor := 200, zoneCutoff := 2400,
    socketCutoff := 2400, throttle := 2080, hysteresis := 48, coolTarget := 560 }

/-- Default acceleration table (R130). -/
def accel : List Breakpoint := [⟨0, 256⟩]

/-- A cleared vector (R57). -/
def clearedVector : PatVector := ⟨0, false, false⟩

/-- A zeroed account record (R129). -/
def zeroRecord : AcctRecord :=
  { verdict := .good, stress := 0, residue := 0, powered := 0, exercised := 0, peak := none, trips := 0,
    failing := 0, reports := 0, loggedQuarantine := false, loggedFunctional := false, loggedProfile := false,
    estimated := false, untimed := false, saturated := false, interrupted := false, first := none }

/-- A slot set as a failed check leaves it: untagged and all zero (R128). -/
def blankSet : AcctSet := ⟨none, Table.fill 32 zeroRecord⟩

/-- A socket sample record set invalid (R56). -/
def invalidSample : SampleRecord := ⟨0, false, 0, false, false, 65535⟩

/-- A rail sample record set invalid (R56). -/
def invalidRail : RailRecord := ⟨0, 0, false⟩

/-- A rail with its command at 0 mV and nothing running (R20, R42). -/
def railOff : RailState := ⟨0, 0, .off, 0, 0, none⟩

/-- A socket OFF with no strike (R42). -/
def socketOff : SocketPower := ⟨.off, 0, none, none⟩

end Sys2Proof.Config
end

