-- ==== Sys2Proof/Machine/Resets.lean ====
section
/-!
DEFINITION. The values each block takes at a power-on reset and at RESET#.
-/

namespace Sys2Proof.Machine

/-- A slot controller at a start (R15, R42). -/
def slotReset : SlotCtl :=
  { board := .empty, identity := none, descriptor := none, status := .absent
    active := Config.settings, staged := Config.settings
    sockets := Table.fill 32 Config.socketOff
    railTrip := false, socketTrip := false, burstDone := false, applyDone := false
    abandoned := 0, applyDeferred := false
    vcore := Config.railOff, vio := Config.railOff
    ramp := none, dwell := none, drain := none, drainLimit := none, identLimit := none }

/-- A STOPPED scanner: every record invalid, no capture, no round (R56). -/
def scannerStopped : Scanner :=
  { running := false, records := Table.fill 32 Config.invalidSample
    vcore := Config.invalidRail, vio := Config.invalidRail, faults := Table.fill 32 0
    captures := [], converting := none, conversion := none
    position := 0, setsBegun := 0, roundCount := 0, partialResult := none }

/-- The store and records at a start (R71). -/
def storeReset : PatternStore := ⟨[], Table.fill 32 none⟩

/-- A pattern channel at a start (R93). -/
def channelReset : Channel :=
  { state := .idle, active := none, pending := none, play := none, rateStep := 0, gap := none, burst := 0
    pulses := Table.fill 4 [] }

/-- A compare unit at a start (R93, R104). -/
def compareReset : Compare :=
  { mismatch := Table.fill 32 0, member := Table.fill 32 false, phases := Table.fill 4 0
    collecting := none, closing := none, devStrikes := Table.fill 32 0 }

/-- The zone thermal controller at a start (R127). -/
def zoneReset : Zone :=
  { state := .idle, target := none, rampRate := 16, effective := none, integ := 0, output := 0
    heater := 0, fan := Config.tuning.fanFloor, heatEn := false, safeLine := false
    primary := ⟨0, false, 0⟩, secondary := ⟨0, false, 0⟩, control := none, lastValid := none
    discCount := 0, discNote := false, settleCount := 0, excCount := 0, excNote := false, safeCause := none
    tuning := Config.tuning, throttle := PerSlot.fill ⟨0, none, none⟩, interval := none }

/-- The account unit at a start, before the retention check gives it its sets (R148). -/
def accountReset : Account :=
  { sets := PerSlot.fill Config.blankSet, accel := Config.accel, wEx := 256, wSt := 64, interval := none
    counts := PerSlot.fill (Table.fill 32 ⟨0, 0⟩), holdover := false, snapshot := .absent }

/-- The failure log at a start, before the retention check gives it its contents (R161). -/
def logReset : FailLog := ⟨[], 0, 0, true⟩

/-- The alert unit at a start and at ZONE-RESET (R173). -/
def alertReset : AlertUnit := ⟨0, 0, 0xFF, .fixed, 0, .frame⟩

/-- Time base and clock monitor at a start (R175, R177, R178). -/
def clockReset : Clock := ⟨.refclk, .locked, false, false, 0, 0, .lost⟩

/-- Retention memory that holds no commit (R181, R183). -/
def retentionBlank : Retention := ⟨⟨PerSlot.fill Config.blankSet, [], 0, 0⟩, none, false⟩

/-- The link controller when it begins to take requests (R189). -/
def linkReset : Link := ⟨.hunt, [], false, none, none⟩

/-- No board present, no switch fault, RESET# and POWER-FAIL# not asserted. -/
def linesQuiet : Lines := ⟨PerSlot.fill false, PerSlot.fill (Table.fill 32 false), false, false⟩

end Sys2Proof.Machine
end

