-- ==== Sys2Proof/Machine/State.lean ====
section
/-!
DEFINITION. The state of the FZ128, its faults and refusals, and the state right after a power-on reset.
-/

namespace Sys2Proof.Machine

/-- Everything the manual gives the part, block by block, with the queue of commands that wait. -/
structure State where
  /-- Phase of the part as a whole (R179, R182, R183). -/
  part : Part
  /-- Levels of the input lines. -/
  lines : Lines
  /-- The four slot controllers. -/
  slots : PerSlot SlotCtl
  /-- The four sense scanners. -/
  scan : PerSlot Scanner
  /-- The pattern store and records. -/
  store : PatternStore
  /-- The four pattern channels. -/
  chan : PerSlot Channel
  /-- The four compare units. -/
  cmp : PerSlot Compare
  /-- The zone thermal controller. -/
  zone : Zone
  /-- The account unit. -/
  acct : Account
  /-- The failure log. -/
  log : FailLog
  /-- The alert unit. -/
  alert : AlertUnit
  /-- The time base and clock monitor. -/
  clock : Clock
  /-- Retention memory. -/
  ret : Retention
  /-- The link controller. -/
  link : Link
  /-- The model's own: how many races `Config.raceFirst` has decided (log entry 7). -/
  races : Nat
  /-- Commands that wait, first in, first out. -/
  pending : List Instr
deriving DecidableEq, Repr

/-- The part stops with no fault: every command has an effect in every state, if only to be ignored. -/
inductive Fault
deriving DecidableEq, Repr

/-- Why a command has no meaning. -/
inductive Refusal
  /-- Raised by an arm of `exec` whose command has no meaning yet; safe, since the run stops. -/
  | notModelled (mnemonic : String)
deriving DecidableEq, Repr

/-- The part right after a power-on reset (R15, R42, R56, R71, R93, R104, R127, R148, R161, R173, R175,
R189): every block at its reset value, the clock monitor running, the retention check about to read a memory
that holds no commit, no board in any slot and no command waiting. -/
def State.reset : State :=
  { part := ⟨.checking, false, false⟩
    lines := linesQuiet
    slots := PerSlot.fill slotReset
    scan := PerSlot.fill scannerStopped
    store := storeReset
    chan := PerSlot.fill channelReset
    cmp := PerSlot.fill compareReset
    zone := zoneReset
    acct := accountReset
    log := logReset
    alert := alertReset
    clock := clockReset
    ret := retentionBlank
    link := linkReset
    races := 0
    pending := [] }

end Sys2Proof.Machine
end

