-- ==== Sys2Proof/Machine/Operands.lean ====
section
/-!
DEFINITION. Codes and byte layouts of the link: how each field is written in a reply, and how each is read
from a payload (R185, R190 to R193).
-/

namespace Sys2Proof.Machine

/-! ## Fields written -/

/-- `n` in `w` bytes, least significant byte first (R185). -/
def leBytes : Nat → Nat → List Byte
  | 0, _ => []
  | w + 1, n => BitVec.ofNat 8 n :: leBytes w (n / 256)

def u8 (n : Nat) : List Byte := leBytes 1 n
def u16 (n : Nat) : List Byte := leBytes 2 n
def u24 (n : Nat) : List Byte := leBytes 3 n
def u32 (n : Nat) : List Byte := leBytes 4 n
def u40 (n : Nat) : List Byte := leBytes 5 n

/-- A temperature: two bytes, two's complement, in 1/16 °C (R185). -/
def s16 (t : Int) : List Byte := u16 (t.emod 65536).toNat

/-- A signed 32-bit value (R105, R185). -/
def s32 (t : Int) : List Byte := u32 (t.emod 4294967296).toNat

/-- A truth value (R185). -/
def flag (b : Bool) : List Byte := [if b then 1 else 0]

/-- An optional field of `w` bytes: its presence byte, then the field, or zeros of its full width (R190). -/
def optional {α : Type} (w : Nat) (enc : α → List Byte) : Option α → List Byte
  | some x => 1 :: enc x
  | none => 0 :: List.replicate w 0

/-! ## Codes (R191) -/

def BoardState.code : BoardState → Nat
  | .empty => 0 | .ident => 1 | .present => 2 | .ramping => 3 | .powered => 4 | .draining => 5 | .tripped => 6

def DescStatus.code : DescStatus → Nat
  | .absent => 0 | .valid => 1 | .noAnswer => 2 | .outOfRange => 3

def FailPolicy.code : FailPolicy → Nat
  | .keep => 0 | .drop => 1

def RailOrder.code : RailOrder → Nat
  | .vioFirst => 0 | .vcoreFirst => 1

def LaneMode.code : LaneMode → Nat
  | .normal => 0 | .invert => 1 | .forceLow => 2 | .forceHigh => 3

def Rail.code : Rail → Nat
  | .vcore => 0 | .vio => 1

def TripCause.code : TripCause → Nat
  | .railTimeout => 0 | .overcurrent => 1 | .undervoltage => 2

def PowerState.code : PowerState → Nat
  | .masked => 0 | .off => 1 | .on => 2 | .tripWait => 3 | .quarantined => 4

def ChannelState.code : ChannelState → Nat
  | .idle => 0 | .wait => 1 | .burst => 2 | .gap => 3 | .done => 4

def BurstMode.code : BurstMode → Nat
  | .continuous => 0 | .periodic => 1 | .single => 2 | .triggered => 3

def ZoneState.code : ZoneState → Nat
  | .idle => 0 | .ramp => 1 | .settle => 2 | .soak => 3 | .cool => 4 | .safe => 5

def SafeCause.code : SafeCause → Nat
  | .sensorsLost => 0 | .airOvertemp => 1 | .hostAbort => 2

def SensorSource.code : SensorSource → Nat
  | .primary => 0 | .secondary => 1

def PriorityMode.code : PriorityMode → Nat
  | .fixed => 0 | .rotating => 1

def DeliveryMode.code : DeliveryMode → Nat
  | .frame => 0 | .polled => 1

def ClockState.code : ClockState → Nat
  | .locked => 0 | .holdover => 1

def ClockSource.code : ClockSource → Nat
  | .refclk => 0 | .internal => 1

def CheckOutcome.code : CheckOutcome → Nat
  | .valid => 0 | .lost => 1

def LogCause.code : LogCause → Nat
  | .overcurrent => 0 | .switchFault => 1 | .overtemp => 2 | .tempSensor => 3 | .quarantine => 4
  | .functional => 5 | .currentProfile => 6 | .reinstated => 7 | .boardRail => 8 | .boardPulled => 9
  | .slotRetagged => 10 | .zoneSafe => 11 | .powerRestored => 12 | .retentionLost => 13

/-- The log cause of a failure report (R151). -/
def FailCause.logCause : FailCause → LogCause
  | .quarantine => .quarantine | .functional => .functional | .currentProfile => .currentProfile

/-- Detail code of LIMIT-LOWERED in a QUARANTINE entry (R191). -/
def limitLoweredCode : Nat := 4

/-- Code of NONE as a REINSTATED detail or as the source of an ALERT-POLL reply (R191). -/
def noneCode : Nat := 0xFF

/-! ## Codes read -/

def FailPolicy.ofCode : Nat → Option FailPolicy
  | 0 => some .keep | 1 => some .drop | _ => none

def RailOrder.ofCode : Nat → Option RailOrder
  | 0 => some .vioFirst | 1 => some .vcoreFirst | _ => none

def LaneMode.ofCode : Nat → Option LaneMode
  | 0 => some .normal | 1 => some .invert | 2 => some .forceLow | 3 => some .forceHigh | _ => none

def BurstMode.ofCode : Nat → Option BurstMode
  | 0 => some .continuous | 1 => some .periodic | 2 => some .single | 3 => some .triggered | _ => none

def PriorityMode.ofCode : Nat → Option PriorityMode
  | 0 => some .fixed | 1 => some .rotating | _ => none

def DeliveryMode.ofCode : Nat → Option DeliveryMode
  | 0 => some .frame | 1 => some .polled | _ => none

/-- The slot a slot byte names (R187, R190). -/
def slotOfCode : Nat → Option Slot
  | 0 => some .A | 1 => some .B | 2 => some .C | 3 => some .D | _ => none

/-- A socket number of a request already found to be at most 31. -/
def socketOf (n : Nat) : Socket := Fin.ofNat 32 n

/-! ## Reply statuses (R187) -/

/-- The status of a reply. -/
inductive Status
  | ok | deferred | clamped | refusedState | refusedRange | refusedLength | refusedKind | refusedSafe
  | refusedHeld | noBoard
deriving DecidableEq, Repr

def Status.code : Status → Nat
  | .ok => 0 | .deferred => 1 | .clamped => 2 | .refusedState => 3 | .refusedRange => 4 | .refusedLength => 5
  | .refusedKind => 6 | .refusedSafe => 7 | .refusedHeld => 8 | .noBoard => 9

/-- What a request's rule gives: the state it leaves and the payload of its reply. -/
structure Served where
  state : State
  payload : List Byte
deriving DecidableEq, Repr

/-- A reply that carries contents after its status (R187). -/
def reply (s : State) (st : Status) (contents : List Byte) : Served := ⟨s, u8 st.code ++ contents⟩

/-- A reply of the status byte alone. -/
def answer (s : State) (st : Status) : Served := reply s st []

/-- The slot a request names, or REFUSED-RANGE (R187, check 3). -/
def withSlot (s : State) (slot : Nat) (f : Slot → Served) : Served :=
  match slotOfCode slot with
  | some k => f k
  | none => answer s .refusedRange

/-! ## Records in replies -/

/-- One copy of the settings, in R18's order, each item as BOARD-STAGE lays its value out (section 12.3). -/
def packPhases (p : Table 4 Nat) : Nat :=
  p.get 0 % 4 + 4 * (p.get 1 % 4) + 16 * (p.get 2 % 4) + 64 * (p.get 3 % 4)

def settingsBytes (c : Settings) : List Byte :=
  u16 c.vcore ++ u16 c.vio ++ u16 c.fullScale ++ u8 c.currentLimit ++ u8 c.strikeLimit ++ u8 c.retryDelay
    ++ u8 c.policy.code ++ u8 c.dwell ++ u8 c.window ++ u8 c.slew ++ u8 c.order.code
    ++ c.laneMap.toList.flatMap (fun e => u8 e.source ++ u8 e.mode.code)
    ++ u8 (packPhases c.phases) ++ u8 c.devLimit

/-- Type code and serial; R185 gives the serial no width, and it is sent in three bytes (log entry 19). -/
def identityBytes (i : Identity) : List Byte := u8 i.typeCode ++ u24 i.serial

def descriptorBytes (d : Descriptor) : List Byte :=
  u8 d.socketCount ++ u16 d.vcoreMax ++ u16 d.vioMax ++ u16 d.vcoreLimit ++ u16 d.vioLimit

def railRecordBytes (r : RailRecord) : List Byte := u16 r.voltage ++ u16 r.current ++ flag r.valid

def burstConfigBytes (c : BurstConfig) : List Byte :=
  u8 c.pattern.val ++ u8 c.mode.code ++ u16 c.passes ++ u16 c.gap

/-- A vector in its PATTERN-LOAD layout (section 12.3). -/
def vectorBytes (v : PatVector) : List Byte :=
  u16 v.drive.toNat ++ u8 ((if v.expect then 1 else 0) + (if v.strobe then 2 else 0))

/-- The fields of a defined pattern record, in R59's order; zeros where it is undefined (R61, R190). -/
def patternRecordBytes : Option PatternRecord → List Byte
  | none => List.replicate 20 0
  | some r => u16 r.start ++ u16 r.length ++ u16 r.period ++ u16 r.tolerance
      ++ optional 8 (fun p => p.codes.toList.flatMap u8) r.profile
      ++ optional 2 (fun p => u16 p.limit) r.profile

def sensorBytes (r : SensorRecord) : List Byte := s16 r.temp ++ flag r.valid ++ u8 r.faults

def controlBytes (c : ControlTemp) : List Byte := s16 c.temp ++ u8 c.source.code

def tuningBytes (t : Tuning) : List Byte :=
  s16 t.kp ++ s16 t.ki ++ s16 t.band ++ s16 t.settleTime ++ s16 t.fanFloor ++ s16 t.zoneCutoff
    ++ s16 t.socketCutoff ++ s16 t.throttle ++ s16 t.hysteresis ++ s16 t.coolTarget

def throttleBytes (t : Throttle) : List Byte := u8 t.step ++ flag t.hold.isSome ++ flag t.fall.isSome

def accelBytes (a : List Breakpoint) : List Byte := a.flatMap fun p => s16 p.temp ++ u16 p.factor

/-- Bits packed into one byte, the first as bit 0. -/
def bitsByte (bs : List Bool) : Byte :=
  BitVec.ofNat 8 (bs.foldr (fun b n => (if b then 1 else 0) + 2 * n) 0)

/-- A field whose presence is told elsewhere: zeros of `w` bytes where it is absent (R192, R193). -/
def orZeros {α : Type} (w : Nat) (enc : α → List Byte) : Option α → List Byte
  | some x => enc x
  | none => List.replicate w 0

/-- A detail of 0 to 8 bytes, its unused bytes 0 (R192). -/
def detailBytes (d : List Byte) : List Byte := d.take 8 ++ List.replicate (8 - d.length) 0

/-- A log entry, 27 bytes (R192). -/
def entryBytes (e : LogEntry) : List Byte :=
  u8 e.epoch ++ u32 e.runSeconds
    ++ [bitsByte [e.slot.isSome, e.socket.isSome, e.zoneTemp.isSome, e.socketTemp.isSome, e.stress.isSome]]
    ++ orZeros 1 (fun k : Slot => u8 k.code) e.slot ++ orZeros 1 (fun i : Socket => u8 i.val) e.socket
    ++ u8 e.cause.code ++ orZeros 2 s16 e.zoneTemp ++ orZeros 2 s16 e.socketTemp ++ orZeros 5 u40 e.stress
    ++ u8 (min 8 e.detail.length) ++ detailBytes e.detail

def firstFailureBytes (f : FirstFailure) : List Byte :=
  u8 f.cause.logCause.code ++ u40 f.stress ++ u8 f.epoch ++ u32 f.runSeconds ++ detailBytes f.detail

/-- An account record with its deviation strikes, 46 bytes (R193). -/
def acctRecordBytes (r : AcctRecord) (dev : Nat) : List Byte :=
  [bitsByte [r.verdict == .failed, r.peak.isSome, r.first.isSome, r.loggedQuarantine, r.loggedFunctional,
      r.loggedProfile],
   bitsByte [r.estimated, r.untimed, r.saturated, r.interrupted]]
    ++ u40 r.stress ++ u8 r.residue ++ u40 r.powered ++ u40 r.exercised ++ orZeros 2 s16 r.peak
    ++ u16 r.trips ++ u16 r.failing ++ u16 r.reports ++ u8 dev ++ orZeros 19 firstFailureBytes r.first

/-- A SOCKET-STATUS entry, 10 bytes (section 12.3). -/
def socketStatusBytes (r : SampleRecord) (p : SocketPower) (v : Verdict) : List Byte :=
  u8 r.code ++ [bitsByte [r.codeValid, r.tempValid, r.fault]] ++ s16 r.temp ++ u16 r.age
    ++ u8 p.power.code ++ u8 p.strikes
    ++ u8 (if p.power = .tripWait then p.retry.getD 0 else 0)
    ++ flag (v == .failed)

/-! ## Checksums -/

/-- One bit of the CRC-16 of R185: polynomial 1021h, register shifted left. -/
def crc16Bit (reg : BitVec 16) : BitVec 16 :=
  if reg.getLsbD 15 then (reg <<< 1) ^^^ 0x1021#16 else reg <<< 1

/-- Apply `f` `n` times. -/
def times {α : Type} : Nat → (α → α) → α → α
  | 0, _, x => x
  | n + 1, f, x => times n f (f x)

/-- One byte, most significant bit first (R185). -/
def crc16Byte (reg : BitVec 16) (b : Byte) : BitVec 16 :=
  times 8 crc16Bit (reg ^^^ (b.setWidth 16 <<< 8))

/-- CRC-16 with polynomial 1021h and initial value FFFFh, not reflected, no final value (R185). -/
def crc16 (bs : List Byte) : BitVec 16 := bs.foldl crc16Byte 0xFFFF#16

/-- One bit of the CRC-32 of R181. -/
def crc32Bit (reg : BitVec 32) : BitVec 32 :=
  if reg.getLsbD 31 then (reg <<< 1) ^^^ 0x04C11DB7#32 else reg <<< 1

def crc32Byte (reg : BitVec 32) (b : Byte) : BitVec 32 :=
  times 8 crc32Bit (reg ^^^ (b.setWidth 32 <<< 24))

/-- CRC-32 with polynomial 04C11DB7h and initial value FFFFFFFFh (R181); the bit order is that of R185's CRC
(log entry 22). -/
def crc32 (bs : List Byte) : BitVec 32 := bs.foldl crc32Byte 0xFFFFFFFF#32

/-- The CRC-32 of an image (R181). -/
def imageCrc (i : Image) : BitVec 32 := crc32 (Config.imageBytes i)

/-- The bytes of a frame on the link (R185). -/
def Frame.bytes (f : Frame) : List Byte :=
  let body := BitVec.ofNat 8 f.payload.length :: f.kind :: f.payload
  0xA5#8 :: body ++ u16 (crc16 body).toNat

/-- The kind of a request's reply: the request's kind plus 80h (R185). -/
def replyKind (kind : Byte) : Byte := kind + 0x80#8

/-- Kind of an alert frame (R185). -/
def alertKind : Byte := 0xFF#8

end Sys2Proof.Machine
end

