-- ==== Sys2Proof/Machine/Flags.lean ====
section
/-!
DEFINITION. What is read from the state: the parts of a slot, eligibility of sockets and of alert sources,
patterns in use, and the output lines that follow the state.
-/

namespace Sys2Proof.Machine

/-! ## Parts of a slot -/

def State.slot (s : State) (k : Slot) : SlotCtl := s.slots.get k
def State.scanner (s : State) (k : Slot) : Scanner := s.scan.get k
def State.channel (s : State) (k : Slot) : Channel := s.chan.get k
def State.compare (s : State) (k : Slot) : Compare := s.cmp.get k
def State.throttle (s : State) (k : Slot) : Throttle := s.zone.throttle.get k

/-- A socket's power record (R29). -/
def State.socket (s : State) (k : Slot) (i : Socket) : SocketPower := (s.slot k).sockets.get i

/-- A socket's account record (R129). -/
def State.record (s : State) (k : Slot) (i : Socket) : AcctRecord := (s.acct.sets.get k).recs.get i

/-- The part is running (R179). -/
def State.running (s : State) : Bool := s.part.phase == .running

def Rail.of (c : SlotCtl) : Rail → RailState
  | .vcore => c.vcore | .vio => c.vio

/-- The active setpoint of a rail (R18). -/
def Settings.setpoint (c : Settings) : Rail → Nat
  | .vcore => c.vcore | .vio => c.vio

/-- The rail's current limit from the descriptor (R26). -/
def SlotCtl.railLimit (c : SlotCtl) (r : Rail) : Nat :=
  match c.descriptor, r with
  | some d, .vcore => d.vcoreLimit
  | some d, .vio => d.vioLimit
  | none, _ => 0

def Rail.other : Rail → Rail
  | .vcore => .vio | .vio => .vcore

/-- The first rail of a ramp's order (R23). -/
def RailOrder.first : RailOrder → Rail
  | .vioFirst => .vio | .vcoreFirst => .vcore

/-- The socket count in force: the descriptor's while the status is VALID, 0 otherwise (R43). -/
def SlotCtl.countInForce (c : SlotCtl) : Nat :=
  match c.status, c.descriptor with
  | .valid, some d => d.socketCount
  | _, _ => 0

/-- Board states in which rails or switches may be live: those a hard-off leaves (R16, R17, R124). -/
def BoardState.live : BoardState → Bool
  | .ramping | .powered | .draining | .tripped => true
  | .empty | .ident | .present => false

/-- The rail trips and checks of R26 to R28 are made in these states. -/
def BoardState.checked : BoardState → Bool
  | .ramping | .powered => true
  | .empty | .ident | .present | .draining | .tripped => false

/-- The window of a rail in mV (R20). -/
def railWindow (setpoint percent : Nat) : Nat := setpoint * percent / 100

/-- A voltage inside the window of a setpoint (R20). -/
def insideWindow (setpoint percent v : Nat) : Bool :=
  decide (v ≤ setpoint + railWindow setpoint percent ∧ setpoint ≤ v + railWindow setpoint percent)

/-! ## Samples -/

/-- A sample temperature that is valid and not stale (R54). -/
def SampleRecord.fresh (r : SampleRecord) : Option Int :=
  if r.tempValid && decide (r.age ≤ Config.staleAge) then some r.temp else none

/-! ## Sockets -/

/-- R30: a socket that its slot controller may switch on. -/
def State.eligible (s : State) (k : Slot) (i : Socket) : Bool :=
  let c := s.slot k
  let p := (c.sockets.get i).power
  decide (p ≠ .masked) && decide (p ≠ .quarantined)
    && (match c.descriptor with
        | some d => decide (i.val < d.socketCount)
        | none => false)
    && !(decide ((s.record k i).verdict = .failed) && decide (c.active.policy = .drop))

/-- A socket's switch is closed while its power state is ON (R29). -/
def State.switchClosed (s : State) (k : Slot) (i : Socket) : Bool := decide ((s.socket k i).power = .on)

/-! ## The pattern store -/

/-- The vector the store holds at an index (R57). -/
def lookupCell : List (Nat × PatVector) → Nat → PatVector
  | [], _ => Config.clearedVector
  | (j, v) :: rest, i => if j = i then v else lookupCell rest i

def PatternStore.read (p : PatternStore) (i : Nat) : PatVector := lookupCell p.cells i

/-- Indexes strictly rising, all above `lo` where given, within the store, and no cleared vector listed. -/
def cellsWf : Option Nat → List (Nat × PatVector) → Bool
  | _, [] => true
  | lo, (j, v) :: rest =>
      (match lo with
        | some l => decide (l < j)
        | none => true)
        && decide (j < Config.storeSize) && decide (v ≠ Config.clearedVector) && cellsWf (some j) rest

/-- The canonical form of the store. -/
def PatternStore.wf (p : PatternStore) : Bool := cellsWf none p.cells

/-- R62: a record is in use by a slot. -/
def Channel.uses (c : Channel) (r : Fin 32) : Bool :=
  let names (o : Option BurstConfig) : Bool :=
    match o with
    | some b => decide (b.pattern = r)
    | none => false
  match c.state with
  | .wait => names c.active
  | .burst | .gap => names c.active || names c.pending
  | .idle | .done => false

/-- R62: the slots by which a record is in use. -/
def State.users (s : State) (r : Fin 32) : List Slot := Slot.all.filter fun k => (s.channel k).uses r

/-- R62: a record is in use by at least one slot. -/
def State.inUse (s : State) (r : Fin 32) : Bool := Slot.all.any fun k => (s.channel k).uses r

/-- The vector range of a defined record holds an index (R59). -/
def PatternRecord.covers (r : PatternRecord) (i : Nat) : Bool :=
  decide (r.start ≤ i) && decide (i < r.start + r.length)

/-- R62: a vector is protected when it lies within the range of a record in use. -/
def State.protectedVector (s : State) (i : Nat) : Bool :=
  (List.finRange 32).any fun r =>
    s.inUse r && (match s.store.records.get r with
      | some rec => rec.covers i
      | none => false)

/-- R61: the store check of a record. -/
def State.storeCheck (s : State) (r : Fin 32) : BitVec 16 :=
  match s.store.records.get r with
  | some rec => crc16 ((List.range rec.length).flatMap fun j => vectorBytes (s.store.read (rec.start + j)))
  | none => 0xFFFF#16

/-! ## Lanes and clock groups -/

/-- The level of one lane for a vector's drive bits (R66). -/
def laneLevel (e : LaneEntry) (drive : BitVec 16) : Bool :=
  match e.mode with
  | .normal => drive.getLsbD e.source
  | .invert => !drive.getLsbD e.source
  | .forceLow => false
  | .forceHigh => true

/-- The drive bits a channel gives its lanes: the driven vector's in BURST, and all 0, the idle word, elsewhere
(R66, R67). -/
def Channel.drive (c : Channel) : BitVec 16 :=
  match c.state, c.play with
  | .burst, some p => p.driven.drive
  | _, _ => 0

/-- The sixteen lanes of a board (R66, R67): `none` while released to high impedance. -/
def State.lanes (s : State) (k : Slot) : Option (Table 16 Bool) :=
  if (s.slot k).board = .powered then
    some ((s.slot k).active.laneMap.map fun e => laneLevel e (s.channel k).drive)
  else none

/-- What a board's clock groups do (R67). -/
inductive ClockGroups | released | heldLow | pulsing
deriving DecidableEq, Repr

def State.clockGroups (s : State) (k : Slot) : ClockGroups :=
  if (s.slot k).board = .powered then
    if (s.channel k).state = .burst then .pulsing else .heldLow
  else .released

/-- Effective vector period in units of 50 ns (R64). -/
def PatternRecord.effectivePeriod (r : PatternRecord) (step : Nat) : Nat := r.period * 2 ^ step

/-- Rise of a group's pulse after its vector's boundary, in quarters of a unit of T (R69). -/
def pulseRise (period phase : Nat) : Nat := phase * period

/-- Fall of a group's pulse, the sample instant, in the same units (R69). -/
def pulseFall (period phase : Nat) : Nat := phase * period + 2 * period

/-- Duration of the pass after the current one begins, in units of 50 ns (R64). -/
def PatternRecord.passTime (r : PatternRecord) (step : Nat) : Nat := r.length * r.effectivePeriod step

/-- The clock group of a socket (R68). -/
def clockGroup (i : Socket) : Fin 4 := Fin.ofNat 4 (i.val / 8)

/-! ## Alerts -/

/-- An alert source (R163). -/
inductive Source | zone | clock | boardA | boardB | boardC | boardD | log | burst
deriving DecidableEq, Repr

def Source.number : Source → Nat
  | .zone => 0 | .clock => 1 | .boardA => 2 | .boardB => 3 | .boardC => 4 | .boardD => 5 | .log => 6
  | .burst => 7

/-- The alert source of a slot (R154). -/
def boardSource : Slot → Source
  | .A => .boardA | .B => .boardB | .C => .boardC | .D => .boardD

/-- The set of one source number (R185). -/
def sourceBit (n : Nat) : Byte := 1#8 <<< n

/-- Rank of a source under a rotation base (R165). -/
def sourceRank (base n : Nat) : Nat := (n + 8 - base) % 8

/-- The rotation base in force: 0 in FIXED mode (R165). -/
def AlertUnit.baseInForce (a : AlertUnit) : Nat :=
  match a.priority with
  | .fixed => 0
  | .rotating => a.base

/-- R165: a source that the alert unit may deliver. -/
def AlertUnit.eligible (a : AlertUnit) (n : Nat) : Bool :=
  a.raised.getLsbD n && !a.mask.getLsbD n && !a.inService.getLsbD n
    && (List.range 8).all fun m =>
        !(a.inService.getLsbD m && decide (sourceRank a.baseInForce m ≤ sourceRank a.baseInForce n))

/-- The eligible source of lowest rank (R167, R168). -/
def AlertUnit.choose (a : AlertUnit) : Option Nat :=
  (List.range 8).findSome? fun rank =>
    let n := (a.baseInForce + rank) % 8
    if a.eligible n then some n else none

/-- ALERT# is driven low (R172, R173, R182). -/
def State.alertLow (s : State) : Bool :=
  match s.part.phase with
  | .checking | .running => s.alert.choose.isSome
  | .unpowered | .resetHeld | .commit | .retained => false

/-! ## Timers -/

/-- A timer is due: running with no reference still to come (log entry 3). -/
def Timer.due (t : Timer) : Bool := t == some 0

/-- A running timer counts one reference; a stopped or due timer stays. -/
def Timer.count : Timer → Timer
  | some (n + 1) => some n
  | t => t

end Sys2Proof.Machine
end

