-- ==== Sys2Proof/Machine/Ops.lean ====
section
/-!
DEFINITION. The shared operations: alerts and log appends, account reports, socket trips and switch-ons, rail
commands, applies, abandonments and hard-offs, and the taking of a request from the link.
-/

namespace Sys2Proof.Machine

/-! ## Updates of a slot's parts -/

def State.setSlot (s : State) (k : Slot) (c : SlotCtl) : State := { s with slots := s.slots.set k c }
def State.setScanner (s : State) (k : Slot) (c : Scanner) : State := { s with scan := s.scan.set k c }
def State.setChannel (s : State) (k : Slot) (c : Channel) : State := { s with chan := s.chan.set k c }
def State.setCompare (s : State) (k : Slot) (c : Compare) : State := { s with cmp := s.cmp.set k c }
def State.setThrottle (s : State) (k : Slot) (t : Throttle) : State :=
  { s with zone.throttle := s.zone.throttle.set k t }

def State.setSocket (s : State) (k : Slot) (i : Socket) (p : SocketPower) : State :=
  s.setSlot k { s.slot k with sockets := (s.slot k).sockets.set i p }

def State.setRecord (s : State) (k : Slot) (i : Socket) (r : AcctRecord) : State :=
  let set := s.acct.sets.get k
  { s with acct.sets := s.acct.sets.set k { set with recs := set.recs.set i r } }

def SlotCtl.setRail (c : SlotCtl) (r : Rail) (x : RailState) : SlotCtl :=
  match r with
  | .vcore => { c with vcore := x }
  | .vio => { c with vio := x }

/-- Do `f` for each socket of a list, in order. -/
def forSockets (l : List Socket) (f : Socket → State → State) (s : State) : State :=
  l.foldl (fun s i => f i s) s

/-- Do `f` for each slot, A to D. -/
def forSlots (f : Slot → State → State) (s : State) : State := Slot.all.foldl (fun s k => f k s) s

/-! ## Alerts and the failure log -/

/-- R164: a raise adds the source to the raised set. -/
def raiseSource (src : Source) (s : State) : State :=
  { s with alert.raised := s.alert.raised ||| sourceBit src.number }

/-- R153: an entry is placed at the newest end; a full log first loses its oldest, which is counted. -/
def FailLog.push (l : FailLog) (e : LogEntry) : FailLog :=
  if Config.logSize ≤ l.entries.length then
    { l with entries := l.entries.drop 1 ++ [e], discarded := satInc 65535 l.discarded }
  else { l with entries := l.entries ++ [e] }

/-- R155, R156: an ARMED log at 192 entries or more raises LOG and is DISARMED. -/
def logCompare (s : State) : State :=
  if s.log.armed && decide (Config.logMark ≤ s.log.entries.length) then
    raiseSource .log { s with log.armed := false }
  else s

/-- R150: the fields of an entry as they stand at its append. -/
def entryNow (s : State) (slot : Option Slot) (socket : Option Socket) (cause : LogCause)
    (detail : List Byte) : LogEntry :=
  { epoch := s.log.epoch, runSeconds := s.clock.runSeconds, slot := slot, socket := socket, cause := cause
    zoneTemp := s.zone.lastValid
    socketTemp := match slot, socket with
      | some k, some i => ((s.scanner k).records.get i).fresh
      | _, _ => none
    stress := match slot, socket with
      | some k, some i => some (s.record k i).stress
      | _, _ => none
    detail := detail }

/-- R154: an append whose entry names a slot raises that slot's source. -/
def raiseSlot (slot : Option Slot) (s : State) : State :=
  match slot with
  | some k => raiseSource (boardSource k) s
  | none => s

/-- R152: an append, taken whole. -/
def appendEntry (slot : Option Slot) (socket : Option Socket) (cause : LogCause) (detail : List Byte)
    (s : State) : State :=
  logCompare (raiseSlot slot { s with log := s.log.push (entryNow s slot socket cause detail) })

def appendSocket (k : Slot) (i : Socket) (cause : LogCause) (detail : List Byte) (s : State) : State :=
  appendEntry (some k) (some i) cause detail s

def appendBoard (k : Slot) (cause : LogCause) (detail : List Byte) (s : State) : State :=
  appendEntry (some k) none cause detail s

def appendZone (cause : LogCause) (detail : List Byte) (s : State) : State :=
  appendEntry none none cause detail s

/-! ## Socket power -/

/-- A socket takes a power state. Its overcurrent run count is 0 outside ON (R32), and a member of the
verdict set that leaves ON loses its membership and its count (R91). -/
def setPower (k : Slot) (i : Socket) (p : PowerState) (retry : Timer) (s : State) : State :=
  let r := s.socket k i
  let s1 := s.setSocket k i { r with power := p, retry := retry, overCode := if p = .on then r.overCode else none }
  if p = .on then s1
  else
    let c := s.compare k
    s1.setCompare k { c with member := c.member.set i false, mismatch := c.mismatch.set i 0 }

/-- R35: a DROP notice switches an ON socket OFF and cancels a retry. -/
def dropNotice (k : Slot) (i : Socket) (s : State) : State :=
  match (s.socket k i).power with
  | .on | .tripWait => setPower k i .off none s
  | .masked | .off | .quarantined => s

/-! ## Failure reports -/

def AcctRecord.logged (r : AcctRecord) : FailCause → Bool
  | .quarantine => r.loggedQuarantine
  | .functional => r.loggedFunctional
  | .currentProfile => r.loggedProfile

def AcctRecord.markLogged (r : AcctRecord) : FailCause → AcctRecord
  | .quarantine => { r with loggedQuarantine := true }
  | .functional => { r with loggedFunctional := true }
  | .currentProfile => { r with loggedProfile := true }

/-- R139, step 1: the count of a failure report. -/
def AcctRecord.countReport (r : AcctRecord) : FailCause → AcctRecord
  | .quarantine => r
  | .functional => { r with failing := satInc 65535 r.failing }
  | .currentProfile => { r with reports := satInc 65535 r.reports }

/-- R139, step 2: a cause not yet logged for the socket gives an entry. -/
def logFailure (k : Slot) (i : Socket) (cause : FailCause) (detail : List Byte) (s : State) : State :=
  if (s.record k i).logged cause then s
  else
    let s1 := appendSocket k i cause.logCause detail s
    s1.setRecord k i ((s1.record k i).markLogged cause)

/-- R139, steps 3 and 4: a GOOD socket turns FAILED, with its first-failure record (R140), and on a DROP
board gets a DROP notice. -/
def turnFailed (k : Slot) (i : Socket) (cause : FailCause) (detail : List Byte) (s : State) : State :=
  let r := s.record k i
  match r.verdict with
  | .failed => s
  | .good =>
    let s1 := s.setRecord k i
      { r with verdict := .failed
               first := some ⟨cause, r.stress, s.log.epoch, s.clock.runSeconds, detail⟩ }
    if (s1.slot k).active.policy = .drop then dropNotice k i s1 else s1

/-- R139: the account unit takes a failure report. -/
def reportFailure (k : Slot) (i : Socket) (cause : FailCause) (detail : List Byte) (s : State) : State :=
  turnFailed k i cause detail
    (logFailure k i cause detail (s.setRecord k i ((s.record k i).countReport cause)))

/-! ## Socket trips -/

/-- R33: a trip of an ON socket; a request for any other socket is ignored (R32). -/
def tripSocket (k : Slot) (i : Socket) (cause : LogCause) (detail : List Byte) (s : State) : State :=
  let p := s.socket k i
  if p.power = .on then
    let quarantine := decide (p.strikes + 1 = (s.slot k).active.strikeLimit)
    let s1 := s.setSocket k i { p with strikes := p.strikes + 1 }
    let s2 := setPower k i (if quarantine then .quarantined else .tripWait)
      (if quarantine then none else some (s.slot k).active.retryDelay) s1
    let r := s2.record k i
    let s3 := s2.setRecord k i { r with trips := satInc 65535 r.trips }
    let s4 := appendSocket k i cause detail s3
    let s5 := s4.setSlot k { s4.slot k with socketTrip := true }
    if quarantine then reportFailure k i .quarantine (u8 cause.code) s5 else s5
  else s

/-- R31, R32: a socket that is OFF and eligible goes ON, and is tripped at once where its switch-fault input
is active. -/
def switchOn (k : Slot) (i : Socket) (s : State) : State :=
  if (s.socket k i).power = .off ∧ s.eligible k i = true then
    let s1 := setPower k i .on none s
    if (s.lines.switchFault.get k).get i then tripSocket k i .switchFault [] s1 else s1
  else s

/-- R33: two requests made by one arrival; which is taken first is a free value (log entry 7), and the second
then finds the socket not ON. -/
def tripEither (k : Slot) (i : Socket) (first second : Option (LogCause × List Byte)) (s : State) : State :=
  match first, second with
  | none, none => s
  | some a, none => tripSocket k i a.1 a.2 s
  | none, some b => tripSocket k i b.1 b.2 s
  | some a, some b =>
    let s1 := { s with races := s.races + 1 }
    if Config.raceFirst s.races then tripSocket k i b.1 b.2 s1 else tripSocket k i a.1 a.2 s1

/-! ## Applies -/

/-- R41: what a changed setpoint does to a rail of a RAMPING or POWERED board. -/
def RailState.retarget (r : RailState) (live : Bool) (before now : Nat) : RailState :=
  match live, r.cond with
  | true, .held =>
    if before = now then r
    else { r with target := now, cond := .settling, settle := some Config.settleLimit, windowMiss := 0 }
  | true, .settling => { r with target := now }
  | _, _ => r

/-- R41: a strike limit lowered to `limit` sets the count of a socket that is already QUARANTINED to it, and
quarantines any other socket that has as many strikes. -/
def lowerLimit (k : Slot) (limit : Nat) (i : Socket) (s : State) : State :=
  let p := s.socket k i
  if p.power = .quarantined ∨ limit ≤ p.strikes then
    let s1 := s.setSocket k i { p with strikes := limit }
    if p.power = .quarantined then s1
    else reportFailure k i .quarantine (u8 limitLoweredCode) (setPower k i .quarantined none s1)
  else s

/-- R41: a fail policy changed to DROP treats each FAILED socket as on a DROP notice. -/
def dropFailed (k : Slot) (i : Socket) (s : State) : State :=
  if (s.record k i).verdict = .failed then dropNotice k i s else s

/-- R40: the staged copy becomes active, the apply-deferred flag clears and APPLY-DONE is set; the rails
follow R41. -/
def copyStaged (k : Slot) (s : State) : State :=
  let c := s.slot k
  let live := c.board.checked
  s.setSlot k
    { c with active := c.staged, applyDeferred := false, applyDone := true
             vcore := c.vcore.retarget live c.active.vcore c.staged.vcore
             vio := c.vio.retarget live c.active.vio c.staged.vio }

/-- R41: the strike limit's effect. -/
def applyLimit (k : Slot) (before : Nat) (s : State) : State :=
  let now := (s.slot k).active.strikeLimit
  if now < before then forSockets Socket.all (lowerLimit k now) s else s

/-- R41: the fail policy's effect; sockets that go ON do so in rising order (log entry 41). -/
def applyPolicy (k : Slot) (before : FailPolicy) (s : State) : State :=
  match before, (s.slot k).active.policy with
  | .drop, .keep => if (s.slot k).board = .powered then forSockets Socket.all (switchOn k) s else s
  | .keep, .drop => forSockets Socket.all (dropFailed k) s
  | _, _ => s

/-- R40, R41: an apply is taken. Where one apply lowers the strike limit and changes the fail policy, the
limit's effect comes first (log entry 39). -/
def takeApply (k : Slot) (s : State) : State :=
  let c := s.slot k
  applyPolicy k c.active.policy (applyLimit k c.active.strikeLimit (copyStaged k s))

/-! ## Bursts abandoned and channels stopped -/

/-- R46: the scanner drops an abandoned burst's entries and discards its conversions. -/
def Scanner.forget (c : Scanner) (burst : Nat) : Scanner :=
  { c with
    captures := c.captures.filter fun e => e.burst != burst
    converting := c.converting.map fun t =>
      { t with discard := t.discard || t.burst == burst, restDiscard := t.restDiscard || t.restBurst == burst } }

/-- R74: mismatch counts 0 and no member. -/
def Compare.clearBurst (c : Compare) : Compare :=
  { c with mismatch := Table.fill 32 0, member := Table.fill 32 false }

/-- R88: what is discarded and counted when a burst is abandoned. -/
def discardBurst (k : Slot) (s : State) : State :=
  let ch := s.channel k
  let s1 := s.setCompare k { (s.compare k).clearBurst with collecting := none }
  let s2 := s1.setScanner k ((s1.scanner k).forget ch.burst)
  let s3 := s2.setChannel k { ch with state := .idle, play := none, pulses := Table.fill 4 [] }
  s3.setSlot k { s3.slot k with abandoned := satInc 255 (s3.slot k).abandoned }

/-- R88: a deferred apply is taken at an abandonment, or cancelled at ZONE-RESET and at a commit. -/
def endDeferred (k : Slot) (cancel : Bool) (s : State) : State :=
  if (s.slot k).applyDeferred then
    if cancel then s.setSlot k { s.slot k with applyDeferred := false } else takeApply k s
  else s

/-- R88: a burst in flight is abandoned. -/
def abandonBurst (k : Slot) (cancel : Bool) (s : State) : State :=
  if (s.channel k).state = .burst then endDeferred k cancel (discardBurst k s) else s

/-- R87, R89: the channel enters IDLE from whatever state it is in. -/
def stopChannel (k : Slot) (cancel : Bool) (s : State) : State :=
  let s1 := abandonBurst k cancel s
  s1.setChannel k { s1.channel k with state := .idle, play := none, gap := none }

/-! ## Hard-off -/

/-- A socket whose switch opens and whose retry is cancelled (R20, R28, R34). -/
def SocketPower.release (p : SocketPower) : SocketPower :=
  match p.power with
  | .on | .tripWait => { p with power := .off, retry := none, overCode := none }
  | .masked | .off | .quarantined => p

/-- R20: both rails at 0 mV at once, every switch open, and every stage, dwell and limit ended. -/
def SlotCtl.hardOff (c : SlotCtl) : SlotCtl :=
  { c with vcore := Config.railOff, vio := Config.railOff, sockets := c.sockets.map SocketPower.release
           ramp := none, dwell := none, drain := none, drainLimit := none }

/-- R121: the board left POWERED: rate step 0, both timers stopped. -/
def resetThrottle (k : Slot) (s : State) : State := s.setThrottle k ⟨0, none, none⟩

/-- A board is taken hard-off into a state; its channel stops and its rate step returns to 0 (R10, R16, R28,
R89, R121, R124). -/
def takeDown (k : Slot) (board : BoardState) (cancel : Bool) (s : State) : State :=
  resetThrottle k (stopChannel k cancel (s.setSlot k { (s.slot k).hardOff with board := board }))

/-- R16, R17, R124: a board that may be powered is taken hard-off to PRESENT. -/
def lockOut (cancel : Bool) (k : Slot) (s : State) : State :=
  if (s.slot k).board.live then takeDown k .present cancel s else s

/-- R28: a board trip. -/
def tripBoard (k : Slot) (r : Rail) (cause : TripCause) (s : State) : State :=
  if (s.slot k).board.checked then
    let s1 := takeDown k .tripped false s
    let s2 := appendBoard k .boardRail (u8 r.code ++ u8 cause.code) s1
    s2.setSlot k { s2.slot k with railTrip := true }
  else s

/-! ## The transmitter and the taking of requests -/

/-- R188: a composed reply is begun where the transmitter is free, and waits otherwise. -/
def Link.compose (l : Link) (f : Frame) : Link :=
  match l.sending with
  | none => { l with owed := true, sending := some ⟨true, f⟩ }
  | some _ => { l with owed := true, composed := some f }

/-- R186, R187: a request whose last byte arrives. It is not received unless the part is running, it is
discarded while a reply is owed, and it is otherwise taken and answered. -/
def takeRequest (kind : Byte) (serve : State → Served) (s : State) : State :=
  if s.running then
    let s1 := { s with link.rx := .hunt, link.buffer := [] }
    if s.link.owed then s1
    else
      let v := serve s1
      { v.state with link := v.state.link.compose ⟨replyKind kind, v.payload⟩ }
  else s

/-- R167: the eligible source of lowest rank leaves the raised set and joins the in-service set. -/
def AlertUnit.deliver (a : AlertUnit) (n : Nat) : AlertUnit :=
  { a with raised := a.raised &&& ~~~(sourceBit n), inService := a.inService ||| sourceBit n }

/-- R167, R188: an alert frame is begun where the transmitter is free, no reply waits, the mode is FRAME and
a source is eligible. -/
def beginAlert (s : State) : State :=
  match s.link.sending, s.link.composed, s.alert.delivery, s.alert.choose with
  | none, none, .frame, some n =>
    { s with alert := s.alert.deliver n
             link.sending := some ⟨false, ⟨alertKind, u8 n ++ u16 s.log.entries.length ++ u8 s.zone.state.code⟩⟩ }
  | _, _, _, _ => s

/-- A step that occurs only while the part is running (R179). -/
def whenRunning (f : State → State) (s : State) : State := if s.running then f s else s

end Sys2Proof.Machine
end

