-- ==== Sys2Proof/Machine/Profile.lean ====
section
/-!
DEFINITION. Current profile deviation: deliveries to a profile record, its finish, the deviation ratio and
the deviation strikes (chapter 6).
-/

namespace Sys2Proof.Machine

/-- Apply `f` to the records of a burst, collecting or closing (R97). -/
def Compare.onBurst (c : Compare) (burst : Nat) (f : ProfileRecord → ProfileRecord) : Compare :=
  let upd (o : Option ProfileRecord) : Option ProfileRecord :=
    o.map fun r => if r.burst = burst then f r else r
  { c with collecting := upd c.collecting, closing := upd c.closing }

/-- Sample k of a socket becomes a code (R97). -/
def ProfileRecord.store (i : Socket) (k : Fin 8) (code : Nat) (r : ProfileRecord) : ProfileRecord :=
  { r with samples := r.samples.set i ((r.samples.get i).set k (some code)) }

/-- Point k becomes COMPLETE if it is AWAITED (R97). -/
def ProfileRecord.complete (k : Fin 8) (r : ProfileRecord) : ProfileRecord :=
  if r.points.get k = .awaited then { r with points := r.points.set k .complete } else r

/-- Point k becomes LOST, and every socket's sample k MISSING (R97). -/
def ProfileRecord.lose (k : Fin 8) (r : ProfileRecord) : ProfileRecord :=
  { r with points := r.points.set k .lost, samples := r.samples.map fun t => t.set k none }

/-- No point is AWAITED (R99). -/
def ProfileRecord.finished (r : ProfileRecord) : Bool := r.points.toList.all fun p => decide (p ≠ .awaited)

/-- Any point is LOST (R100). -/
def ProfileRecord.anyLost (r : ProfileRecord) : Bool := r.points.toList.any fun p => decide (p = .lost)

/-- The eight codes of a socket, where none is MISSING (R100). -/
def ProfileRecord.codesOf (r : ProfileRecord) (i : Socket) : Option (Table 8 Nat) :=
  if (r.samples.get i).toList.all Option.isSome then some ((r.samples.get i).map fun o => o.getD 0) else none

/-- Absolute difference of two codes. -/
def absDiff (a b : Nat) : Nat := (a - b) + (b - a)

/-- The expected value at point i, rotated by twice the phase (R100). -/
def rotated (e : Table 8 Nat) (phase : Nat) (i : Fin 8) : Nat := e.get (Fin.ofNat 8 (i.val + 2 * phase))

/-- Sum of the absolute differences over some points (R100). -/
def sumDiff (smp e : Table 8 Nat) (phase : Nat) (points : List (Fin 8)) : Nat :=
  (points.map fun i => absDiff (smp.get i) (rotated e phase i)).sum

/-- H1, over the first four points (R100). -/
def halfOne (smp e : Table 8 Nat) (phase : Nat) : Nat := sumDiff smp e phase [0, 1, 2, 3]

/-- H2, over the last four points (R100). -/
def halfTwo (smp e : Table 8 Nat) (phase : Nat) : Nat := sumDiff smp e phase [4, 5, 6, 7]

/-- The deviation ratio (R101). -/
def deviationRatio (sad e : Nat) : Nat := if e = 0 then 65535 else min 65535 (sad * 256 / e)

/-- R102: one socket's profile verdict. -/
def judgeSocket (k : Slot) (rec : ProfileRecord) (i : Socket) (s : State) : State :=
  match rec.members.get i, rec.codesOf i with
  | true, some smp =>
    let phase := rec.phases.get (clockGroup i)
    let h1 := halfOne smp rec.codes phase
    let h2 := halfTwo smp rec.codes phase
    let ratio := deviationRatio (h1 + h2) rec.codes.toList.sum
    if rec.limit < ratio then
      let c := s.compare k
      let strikes := satInc 15 (c.devStrikes.get i)
      let s1 := s.setCompare k { c with devStrikes := c.devStrikes.set i strikes }
      if rec.strikeLimit.getD 0 ≤ strikes then
        reportFailure k i .currentProfile (u16 ratio ++ u16 h1 ++ u16 h2) s1
      else s1
    else s
  | _, _ => s

/-- R100: the verdict of a finished profile record, sockets 0 to 31; none where a point is LOST. -/
def profileVerdict (k : Slot) (rec : ProfileRecord) (s : State) : State :=
  if rec.anyLost then s else forSockets Socket.all (judgeSocket k rec) s

/-- R99: a closing record with no AWAITED point takes its verdict and is discarded. -/
def finishClosing (k : Slot) (s : State) : State :=
  match (s.compare k).closing with
  | some r =>
    if r.finished then profileVerdict k r (s.setCompare k { s.compare k with closing := none }) else s
  | none => s

/-- A delivery from the scanner for a named burst (R97). -/
def deliver (k : Slot) (burst : Nat) (f : ProfileRecord → ProfileRecord) (s : State) : State :=
  finishClosing k (s.setCompare k ((s.compare k).onBurst burst f))

/-- R96: a collecting record is opened at the start of a burst whose record has an expected profile. -/
def openRecord (burst : Nat) (phases : Table 4 Nat) (rec : PatternRecord) : Option ProfileRecord :=
  rec.profile.map fun p =>
    { burst := burst, codes := p.codes, limit := p.limit, phases := phases
      points := Table.fill 8 .awaited, samples := Table.fill 32 (Table.fill 8 none)
      members := Table.fill 32 false, strikeLimit := none }

/-- R98: what a completed burst does with its collecting record. -/
def completeRecord (k : Slot) (passes : Nat) (members : Table 32 Bool) (s : State) : State :=
  match (s.compare k).collecting with
  | none => s
  | some r =>
    let s1 := s.setCompare k { s.compare k with collecting := none }
    if passes < 8 then s1
    else
      let r1 := { r with members := members, strikeLimit := some (s.slot k).active.devLimit }
      finishClosing k (s1.setCompare k { s1.compare k with closing := some r1 })

/-! ## Capture requests -/

/-- R46: a request for the point of the set being converted. -/
def captureIntoSet (k : Slot) (t : CaptureSet) (burst : Nat) (s : State) : State :=
  let s1 := s.setScanner k
    { s.scanner k with converting := some { t with restBurst := burst, restDiscard := false } }
  deliver k t.restBurst (ProfileRecord.lose t.point) s1

/-- R46: a request that is listed; an older entry of the point is removed and reported lost. -/
def captureIntoList (k : Slot) (point : Fin 8) (burst : Nat) (s : State) : State :=
  let c := s.scanner k
  let older := c.captures.filter fun e => e.point == point
  let s1 := s.setScanner k
    { c with captures := (c.captures.filter fun e => e.point != point) ++ [⟨point, burst⟩] }
  older.foldl (fun s e => deliver k e.burst (ProfileRecord.lose e.point) s) s1

/-- R46: a capture request for a point of the burst in progress. The missing samples that R46 reports for
sockets converted before the hold leave their samples MISSING, as they are (R96, R97). -/
def requestCapture (k : Slot) (point : Fin 8) (burst : Nat) (s : State) : State :=
  match (s.scanner k).converting with
  | some t => if t.point = point then captureIntoSet k t burst s else captureIntoList k point burst s
  | none => captureIntoList k point burst s

end Sys2Proof.Machine
end

