-- ==== Sys2Proof/Machine/Rails.lean ====
section
/-!
DEFINITION. Rails: ramps with their inrush steps, drains, the checks of rail samples, and the commands and
expiries that drive them (chapter 2).
-/

namespace Sys2Proof.Machine

/-! ## Ramps -/

/-- R21, R23: a rail takes its active setpoint as its target and enters SETTLING with a new settle limit. -/
def startRail (k : Slot) (r : Rail) (s : State) : State :=
  let c := s.slot k
  s.setSlot k (c.setRail r
    { r.of c with target := c.active.setpoint r, cond := .settling, settle := some Config.settleLimit })

/-- The sockets of an inrush step (R24). -/
def stepSockets (step : Nat) : List Socket := [0, 1, 2, 3].map fun j => Fin.ofNat 32 (4 * step + j)

/-- R24: an inrush step starts, with the dwell in force. Its sockets go ON in rising order (log entry 41). -/
def startStep (k : Slot) (step : Nat) (s : State) : State :=
  let c := s.slot k
  let s1 := s.setSlot k
    { c with ramp := c.ramp.map fun m => { m with stage := .inrush step }, dwell := some c.active.dwell }
  forSockets (stepSockets step) (switchOn k) s1

/-- R24: the board enters POWERED, and every OFF eligible socket goes ON, in rising order (log entry 41). -/
def enterPowered (k : Slot) (s : State) : State :=
  let s1 := s.setSlot k { s.slot k with board := .powered, ramp := none, dwell := none }
  forSockets Socket.all (switchOn k) s1

/-- R23: what a rail becoming HELD does to the ramp. -/
def rampAdvance (k : Slot) (s : State) : State :=
  let c := s.slot k
  match c.ramp with
  | none => s
  | some m =>
    match m.stage with
    | .first =>
      if (m.order.first.of c).cond = .held then
        startRail k m.order.first.other (s.setSlot k { c with ramp := some { m with stage := .second } })
      else s
    | .second => if c.vcore.cond = .held ∧ c.vio.cond = .held then startStep k 0 s else s
    | .inrush _ => s

/-- R22: the ramp starts, with the rail order in force. -/
def startRamp (k : Slot) (s : State) : State :=
  let c := s.slot k
  let m : Ramp := ⟨c.active.order, .first⟩
  startRail k m.order.first (s.setSlot k { c with board := .ramping, ramp := some m })

/-- BOARD-POWER-UP (R22, R125). -/
def serveBoardPowerUp (slot : Nat) (s : State) : Served :=
  withSlot s slot fun k =>
    let c := s.slot k
    if c.board = .empty then answer s .noBoard
    else if s.zone.state = .safe then answer s .refusedSafe
    else
      match c.board with
      | .present =>
        if c.status = .valid ∧ c.active.vcore ≠ 0 ∧ c.active.vio ≠ 0 then answer (startRamp k s) .ok
        else answer s .refusedState
      | .ramping | .powered => answer s .ok
      | .ident | .draining | .tripped | .empty => answer s .refusedState

/-- BOARD-POWER-UP (kind 10h, R22). -/
def execBoardPowerUp (slot : Nat) (s : State) : Host.Outcome State Fault Refusal :=
  .next (takeRequest 0x10 (serveBoardPowerUp slot) s)

/-! ## Drains -/

/-- R25, step 4: the lowering of a rail begins. -/
def beginLowering (k : Slot) (r : Rail) (last : Bool) (s : State) : State :=
  let c := s.slot k
  let x := r.of c
  let c1 := c.setRail r { x with target := 0, cond := .lowering }
  s.setSlot k { c1 with drain := some ⟨r, last, decide (x.cond = .off)⟩, drainLimit := some Config.drainLimit }

/-- R25, step 5: the rail being lowered is done. -/
def railDone (k : Slot) (d : Drain) (s : State) : State :=
  let s1 := s.setSlot k ((s.slot k).setRail d.rail Config.railOff)
  if d.last then
    s1.setSlot k { s1.slot k with board := .present, drain := none, drainLimit := none }
  else beginLowering k d.rail.other true s1

/-- R25, step 3: a settle limit cancelled and both counts 0. -/
def RailState.quiet (r : RailState) : RailState := { r with windowMiss := 0, overRun := 0, settle := none }

/-- R25: a drain is taken, in the reverse of the rail order in force at that moment. -/
def startDrain (k : Slot) (s : State) : State :=
  let c := s.slot k
  let firstDown := c.active.order.first.other
  let c1 := { c with board := .draining, sockets := c.sockets.map SocketPower.release, ramp := none
                     dwell := none, vcore := c.vcore.quiet, vio := c.vio.quiet }
  beginLowering k firstDown false (resetThrottle k (stopChannel k false (s.setSlot k c1)))

/-- BOARD-POWER-DOWN (R25). -/
def serveBoardPowerDown (slot : Nat) (s : State) : Served :=
  withSlot s slot fun k =>
    match (s.slot k).board with
    | .empty => answer s .noBoard
    | .ident | .present | .draining => answer s .ok
    | .ramping | .powered | .tripped => answer (startDrain k s) .ok

/-- BOARD-POWER-DOWN (kind 11h, R25). -/
def execBoardPowerDown (slot : Nat) (s : State) : Host.Outcome State Fault Refusal :=
  .next (takeRequest 0x11 (serveBoardPowerDown slot) s)

/-! ## Rail samples -/

/-- A rail after the counts of one sample (R26): overcurrent in every condition, the window while HELD. -/
def RailState.count (r : RailState) (high inside : Bool) : RailState :=
  { r with overRun := if high then satInc 2 r.overRun else 0
           windowMiss := if r.cond = .held ∧ inside = false then satInc 3 r.windowMiss else 0 }

/-- R21: an in-window sample taken after the command has reached the setpoint makes a SETTLING rail HELD. -/
def settleCheck (k : Slot) (r : Rail) (inside : Bool) (s : State) : State :=
  let c := s.slot k
  let x := r.of c
  if x.cond = .settling ∧ x.command = x.target ∧ inside = true then
    rampAdvance k (s.setSlot k (c.setRail r { x with cond := .held, settle := none, windowMiss := 0 }))
  else s

/-- R26: the trip conditions of one sample; where both hold, which is taken is a free value (log entry 7). -/
def tripByCounts (k : Slot) (r : Rail) (high under : Bool) (s : State) : State :=
  if high && under then
    let s1 := { s with races := s.races + 1 }
    tripBoard k r (if Config.raceFirst s.races then .undervoltage else .overcurrent) s1
  else if high then tripBoard k r .overcurrent s
  else if under then tripBoard k r .undervoltage s
  else s

/-- R21, R26: a rail sample of a RAMPING or POWERED board. The overcurrent check comes before the settle
check (log entry 10). -/
def checkRail (k : Slot) (r : Rail) (voltage current : Nat) (s : State) : State :=
  let c := s.slot k
  let inside := insideWindow (c.active.setpoint r) c.active.window voltage
  let x := (r.of c).count (decide (c.railLimit r < current)) inside
  let s1 := s.setSlot k (c.setRail r x)
  let high := decide (x.overRun = 2)
  let under := decide (x.windowMiss = 3)
  if high || under then tripByCounts k r high under s1 else settleCheck k r inside s1

/-- R25: a rail sample of a DRAINING board. -/
def drainSample (k : Slot) (r : Rail) (voltage : Nat) (s : State) : State :=
  match (s.slot k).drain with
  | some d =>
    if d.rail = r ∧ (voltage < Config.drainedBelow ∨ d.wasOff = true) then railDone k d s else s
  | none => s

/-- R52: a rail sample reaches the slot controller. -/
def railSample (k : Slot) (r : Rail) (voltage current : Nat) (s : State) : State :=
  match (s.slot k).board with
  | .ramping | .powered => checkRail k r voltage current s
  | .draining => drainSample k r voltage s
  | .empty | .ident | .present | .tripped => s

/-! ## Expiries -/

/-- R21: a settle limit expires while the rail is SETTLING. -/
def settleExpired (k : Slot) (r : Rail) (s : State) : State :=
  let x := r.of (s.slot k)
  if x.cond = .settling ∧ Timer.due x.settle = true then tripBoard k r .railTimeout s else s

/-- SETTLE_LIMIT_EXPIRY (R21). -/
def execSettleLimitExpiry (k : Slot) (r : Rail) (s : State) : Host.Outcome State Fault Refusal :=
  .next (whenRunning (settleExpired k r) s)

/-- R24: a dwell ends. -/
def dwellExpired (k : Slot) (s : State) : State :=
  let c := s.slot k
  match c.board, c.ramp with
  | .ramping, some ⟨_, .inrush step⟩ =>
    if Timer.due c.dwell then
      if step < 7 then startStep k (step + 1) s else enterPowered k s
    else s
  | _, _ => s

/-- INRUSH_DWELL_EXPIRY (R24). -/
def execInrushDwellExpiry (k : Slot) (s : State) : Host.Outcome State Fault Refusal :=
  .next (whenRunning (dwellExpired k) s)

/-- R25: 200 ms have passed since the lowering of a rail began. -/
def drainExpired (k : Slot) (s : State) : State :=
  let c := s.slot k
  match c.board, c.drain with
  | .draining, some d => if Timer.due c.drainLimit then railDone k d s else s
  | _, _ => s

/-- DRAIN_LIMIT_EXPIRY (R25). -/
def execDrainLimitExpiry (k : Slot) (s : State) : Host.Outcome State Fault Refusal :=
  .next (whenRunning (drainExpired k) s)

/-- R20: the command moves toward the target by the slew rate, and lands on it. -/
def RailState.slew (rate : Nat) (r : RailState) : RailState :=
  { r with command := if r.command < r.target then min r.target (r.command + rate)
                      else max r.target (r.command - rate) }

end Sys2Proof.Machine
end

