-- ==== Sys2Proof/Machine/Sense.lean ====
section
/-!
DEFINITION. The sense scanner: the round and its arbitration, the arrival of socket and rail samples, the
capture sets, and board throttling at the end of a round (chapter 3, section 7.5, R122, R137).
-/

namespace Sys2Proof.Machine

/-! ## Choosing conversions -/

/-- A conversion begins, with the socket full-scale in force (R48). -/
def beginConversion (k : Slot) (s : State) : State :=
  s.setScanner k { s.scanner k with conversion := some ⟨(s.slot k).active.fullScale, false⟩ }

/-- R43, R45: a round begins, with the socket count in force. -/
def beginRound (k : Slot) (s : State) : State :=
  s.setScanner k
    { s.scanner k with position := 0, setsBegun := 0, roundCount := (s.slot k).countInForce
                       partialResult := none }

/-- R45, R47: the oldest capture set is begun where the list and the round allow one; a set of no sockets is
not reached (log entry 30). -/
def beginSet (k : Slot) (s : State) : State :=
  let c := s.scanner k
  match c.converting, c.captures with
  | none, e :: rest =>
    if c.setsBegun < 2 then
      let n := (s.slot k).countInForce
      let t : CaptureSet := ⟨e.point, 0, n, e.burst, false, e.burst, false⟩
      s.setScanner k
        { c with captures := rest, setsBegun := c.setsBegun + 1, converting := if n = 0 then none else some t }
    else s
  | _, _ => s

/-- R45: the converter is free, and its next conversion is chosen and begun. -/
def chooseNext (k : Slot) (s : State) : State := beginConversion k (beginSet k s)

/-- R43: the scanner enters RUNNING and begins its first round. -/
def startScanner (k : Slot) (s : State) : State :=
  chooseNext k (beginRound k (s.setScanner k { s.scanner k with running := true }))

/-- R43, R56: the scanner enters STOPPED. -/
def stopScanner (k : Slot) (s : State) : State := s.setScanner k scannerStopped

/-! ## Readings -/

/-- A reading as an unsigned number: one below 0 is taken as 0 (log entry 6). -/
def unsigned (limit : Nat) (reading : Int) : Nat := min limit reading.toNat

/-- R48: the current code of a current in mA. -/
def currentCode (fullScale : Nat) (reading : Int) : Nat := min 255 (reading.toNat * 255 / fullScale)

/-- R49: a temperature within the valid range. -/
def tempInRange (t : Int) : Bool := decide (Config.tempMin ≤ t ∧ t ≤ Config.tempMax)

/-- R49: a temperature clamped to the valid range. -/
def clampTemp (t : Int) : Int := max Config.tempMin (min Config.tempMax t)

/-! ## Socket samples -/

/-- The record an arrival writes (R50). -/
def arrivalRecord (code : Nat) (t : Int) : SampleRecord :=
  ⟨code, true, clampTemp t, tempInRange t, !tempInRange t, 0⟩

/-- R50, R51: the record and the sensor-fault count of an arrival. -/
def Scanner.arrive (c : Scanner) (i : Socket) (r : SampleRecord) : Scanner :=
  { c with records := c.records.set i r
           faults := c.faults.set i (if r.fault then satInc 3 (c.faults.get i) else 0) }

/-- R137: the peak temperature of an ON socket follows a valid sample. -/
def AcctRecord.raisePeak (r : AcctRecord) (t : Int) : AcctRecord :=
  { r with peak := match r.peak with
      | some p => some (max p t)
      | none => some t }

/-- R32: the OVERCURRENT check of a routine sample of an ON socket: the run count after it, as the first
over-limit code, and the request it makes. -/
def overcurrentCheck (limit code : Nat) (run : Option Nat) : Option Nat × Option (LogCause × List Byte) :=
  if limit < code then
    match run with
    | some first => (some first, some (.overcurrent, u8 first ++ u8 code ++ u8 limit))
    | none => (some code, none)
  else (none, none)

/-- The request a sample's temperature makes for an ON socket: TEMP-SENSOR by R51, or OVERTEMP by R122. -/
def temperatureRequest (cutoff : Int) (faults : Nat) (r : SampleRecord) : Option (LogCause × List Byte) :=
  if r.fault then
    if faults = 3 then some (.tempSensor, s16 r.temp) else none
  else if r.tempValid = true ∧ cutoff ≤ r.temp then some (.overtemp, s16 r.temp)
  else none

/-- R50: what the users of a sample do for an ON socket. -/
def sampleOn (k : Slot) (i : Socket) (r : SampleRecord) (s : State) : State :=
  let s1 := if r.tempValid then s.setRecord k i ((s.record k i).raisePeak r.temp) else s
  let p := s1.socket k i
  let check := overcurrentCheck (s1.slot k).active.currentLimit r.code p.overCode
  let s2 := s1.setSocket k i { p with overCode := check.1 }
  tripEither k i check.2 (temperatureRequest s2.zone.tuning.socketCutoff ((s2.scanner k).faults.get i) r) s2

/-- R50: a socket sample arrives. -/
def socketSample (k : Slot) (i : Socket) (code : Nat) (t : Int) (s : State) : State :=
  let r := arrivalRecord code t
  let s1 := s.setScanner k ((s.scanner k).arrive i r)
  if (s1.socket k i).power = .on then sampleOn k i r s1 else s1

/-! ## Throttling -/

/-- The larger of two optional temperatures. -/
def maxTemp : Option Int → Option Int → Option Int
  | some a, some b => some (max a b)
  | some a, none => some a
  | none, b => b

/-- R119: Tmax, the highest fresh temperature among the ON sockets. -/
def hottest (k : Slot) (s : State) : Option Int :=
  Socket.all.foldl
    (fun m i => maxTemp m (if (s.socket k i).power = .on then ((s.scanner k).records.get i).fresh else none))
    none

/-- R119: a Tmax at or above the threshold raises the step, no sooner than the rise-hold timer lets it. -/
def Throttle.rise (t : Throttle) (hot : Bool) : Throttle :=
  if hot = true ∧ t.step < 3 ∧ t.hold = none then ⟨t.step + 1, some Config.throttleTime, none⟩ else t

/-- R120: a Tmax below the fall level starts the fall timer; any other stops it. -/
def Throttle.cool (t : Throttle) (cold : Bool) : Throttle :=
  if cold then
    if 0 < t.step ∧ t.fall = none then { t with fall := some Config.throttleTime } else t
  else { t with fall := none }

/-- R119, R120: the round-end signal of a POWERED board. -/
def roundEndSignal (k : Slot) (s : State) : State :=
  if (s.slot k).board = .powered then
    let tmax := hottest k s
    let threshold := s.zone.tuning.throttle
    let level := threshold - s.zone.tuning.hysteresis
    let hot := match tmax with
      | some t => decide (threshold ≤ t)
      | none => false
    let cold := match tmax with
      | some t => decide (t < level)
      | none => false
    s.setThrottle k (((s.throttle k).rise hot).cool cold)
  else s

/-- R119: the rise-hold timer ends. -/
def riseHoldExpired (k : Slot) (s : State) : State :=
  let t := s.throttle k
  if Timer.due t.hold then s.setThrottle k { t with hold := none } else s

/-- RISE_HOLD_EXPIRY (R119). -/
def execRiseHoldExpiry (k : Slot) (s : State) : Host.Outcome State Fault Refusal :=
  .next (whenRunning (riseHoldExpired k) s)

/-- R120: the fall timer expires. -/
def fallExpired (k : Slot) (s : State) : State :=
  let t := s.throttle k
  if Timer.due t.fall then
    let step := t.step - 1
    s.setThrottle k { t with step := step, fall := if 0 < step then some Config.throttleTime else none }
  else s

/-- THROTTLE_FALL_EXPIRY (R120). -/
def execThrottleFallExpiry (k : Slot) (s : State) : Host.Outcome State Fault Refusal :=
  .next (whenRunning (fallExpired k) s)

/-! ## The end of a conversion -/

/-- The first conversion of a pair ends: its result, or none, is kept for the second. -/
def keepPartial (k : Slot) (v : Option Nat) (s : State) : State :=
  s.setScanner k { s.scanner k with partialResult := v }

/-- R52: a rail's current conversion ends. -/
def railArrival (k : Slot) (r : Rail) (reading : Option Int) (s : State) : State :=
  match (s.scanner k).partialResult, reading with
  | some v, some x =>
    let c := s.scanner k
    let current := unsigned 65535 x
    let s1 := s.setScanner k (match r with
      | .vcore => { c with vcore := ⟨v, current, true⟩ }
      | .vio => { c with vio := ⟨v, current, true⟩ })
    railSample k r v current s1
  | _, _ => s

/-- R50: a socket's temperature conversion ends. -/
def socketArrival (k : Slot) (i : Socket) (reading : Option Int) (s : State) : State :=
  match (s.scanner k).partialResult, reading with
  | some code, some t => socketSample k i code t s
  | _, _ => s

/-- R44: what the routine conversion at a position of the round does with its reading. -/
def routineResult (k : Slot) (position fullScale : Nat) (reading : Option Int) (s : State) : State :=
  match position with
  | 0 | 2 => keepPartial k (reading.map (unsigned 4095)) s
  | 1 => keepPartial k none (railArrival k .vcore reading s)
  | 3 => keepPartial k none (railArrival k .vio reading s)
  | n + 4 =>
    if n % 2 = 0 then keepPartial k (reading.map (currentCode fullScale)) s
    else keepPartial k none (socketArrival k (Fin.ofNat 32 (n / 2)) reading s)

/-- R44, R55: the round goes on to its next position, or ends and a new one begins. -/
def advanceRound (k : Slot) (s : State) : State :=
  let c := s.scanner k
  if c.position + 1 < 4 + 2 * c.roundCount then s.setScanner k { c with position := c.position + 1 }
  else beginRound k (roundEndSignal k s)

/-- R44, R45: a routine conversion ends. One begun before a ZONE-RESET is discarded, and the new round begins
(R56). -/
def routineEnd (k : Slot) (cv : Conversion) (reading : Option Int) (s : State) : State :=
  if cv.discard then beginRound k s
  else advanceRound k (routineResult k (s.scanner k).position cv.fullScale reading s)

/-- R47: the code of a capture conversion is delivered; no result leaves the sample MISSING. -/
def captureResult (k : Slot) (t : CaptureSet) (fullScale : Nat) (reading : Option Int) (s : State) : State :=
  match reading with
  | some x =>
    if t.discard then s
    else deliver k t.burst (ProfileRecord.store (Fin.ofNat 32 t.socket) t.point (currentCode fullScale x)) s
  | none => s

/-- R46, R47: the set goes on to its next socket, whose conversion belongs to the burst whose hold it reads,
or is finished. -/
def advanceSet (k : Slot) (t : CaptureSet) (s : State) : State :=
  let c := s.scanner k
  if t.socket + 1 < t.count then
    s.setScanner k
      { c with converting := some { t with socket := t.socket + 1, burst := t.restBurst, discard := t.restDiscard } }
  else
    let s1 := s.setScanner k { c with converting := none }
    if t.restDiscard then s1 else deliver k t.restBurst (ProfileRecord.complete t.point) s1

/-- R45: a conversion ends, and the converter's next task is chosen. -/
def conversionEnd (k : Slot) (reading : Option Int) (s : State) : State :=
  let c := s.scanner k
  match c.running, c.conversion with
  | true, some cv =>
    let s1 := match c.converting with
      | some t => advanceSet k t (captureResult k t cv.fullScale reading s)
      | none => routineEnd k cv reading s
    chooseNext k s1
  | _, _ => s

/-- CONVERSION_END (R45). -/
def execConversionEnd (k : Slot) (reading : Option Int) (s : State) : Host.Outcome State Fault Refusal :=
  .next (whenRunning (conversionEnd k reading) s)

/-- R54: a record's age at a 1 ms reference. -/
def SampleRecord.older (r : SampleRecord) : SampleRecord := { r with age := satInc 65535 r.age }

/-- R54: the ages rise while the scanner is RUNNING. -/
def Scanner.tick (c : Scanner) : Scanner :=
  if c.running then { c with records := c.records.map SampleRecord.older } else c

end Sys2Proof.Machine
end

