-- ==== Sys2Proof/Machine/Boards.lean ====
section
/-!
DEFINITION. Presence and identity of boards: insertion, removal, the identity read with its tagging, and
BOARD-STATUS (chapter 1).
-/

namespace Sys2Proof.Machine

/-! ## Insertion and removal -/

/-- The event flags and the abandoned-burst count cleared (R2, R14, R16). -/
def SlotCtl.clearEvents (c : SlotCtl) : SlotCtl :=
  { c with railTrip := false, socketTrip := false, burstDone := false, applyDone := false, abandoned := 0 }

/-- R2: the slot enters IDENT, the read starts and the scanner runs. -/
def enterIdent (k : Slot) (s : State) : State :=
  startScanner k
    (s.setSlot k { (s.slot k).clearEvents with board := .ident, identLimit := some Config.identLimit })

/-- The level of a board-present input. -/
def setPresent (k : Slot) (level : Bool) (s : State) : State :=
  { s with lines.present := s.lines.present.set k level }

/-- R2: the board-present input becomes active while the slot is EMPTY. -/
def boardInserted (k : Slot) (s : State) : State :=
  if (s.slot k).board = .empty then enterIdent k s else s

/-- BOARD_INSERTED (R2); before the end of the check and from a commit on only the line changes (R17). -/
def execBoardInserted (k : Slot) (s : State) : Host.Outcome State Fault Refusal :=
  .next (whenRunning (boardInserted k) (setPresent k true s))

/-- R10: a removal in these states appends BOARD-PULLED. -/
def BoardState.logsPull : BoardState → Bool
  | .ramping | .powered | .draining => true
  | .empty | .ident | .present | .tripped => false

/-- R1: identity and descriptor absent, status NONE, no read in progress. -/
def SlotCtl.forgetBoard (c : SlotCtl) : SlotCtl :=
  { c with identity := none, descriptor := none, status := .absent, identLimit := none }

/-- R99: the closing record discarded with no verdict. -/
def dropClosing (k : Slot) (s : State) : State := s.setCompare k { s.compare k with closing := none }

/-- R8 to R11: the slot is made safe and enters EMPTY, in the order of log entry 12. -/
def removeBoard (k : Slot) (s : State) : State :=
  let left := (s.slot k).board
  let s1 := dropClosing k (takeDown k .empty false s)
  let s2 := stopScanner k (s1.setSlot k (s1.slot k).forgetBoard)
  if left.logsPull then appendBoard k .boardPulled (u8 left.code) s2 else s2

/-- R8 to R10: the board-present input becomes inactive. -/
def boardRemoved (k : Slot) (s : State) : State :=
  if (s.slot k).board = .empty then s else removeBoard k s

/-- BOARD_REMOVED (R8, R9, R10, R17). -/
def execBoardRemoved (k : Slot) (s : State) : Host.Outcome State Fault Refusal :=
  .next (whenRunning (boardRemoved k) (setPresent k false s))

/-! ## The identity read -/

/-- R3: every field of the descriptor is in range. -/
def Descriptor.inRange (d : Descriptor) : Bool :=
  decide (1 ≤ d.socketCount ∧ d.socketCount ≤ 32) && decide (400 ≤ d.vcoreMax ∧ d.vcoreMax ≤ 2500)
    && decide (1000 ≤ d.vioMax ∧ d.vioMax ≤ 3600) && decide (1 ≤ d.vcoreLimit ∧ d.vcoreLimit ≤ 65535)
    && decide (1 ≤ d.vioLimit ∧ d.vioLimit ≤ 65535)

/-- The deviation strikes of a board's sockets become 0 (R103). -/
def clearDevStrikes (k : Slot) (s : State) : State :=
  s.setCompare k { s.compare k with devStrikes := Table.fill 32 0 }

/-- The 32 records of a slot's set zeroed (R129). -/
def zeroRecords (k : Slot) (s : State) : State :=
  let set := s.acct.sets.get k
  { s with acct.sets := s.acct.sets.set k { set with recs := Table.fill 32 Config.zeroRecord } }

/-- The tag of a slot's set. -/
def setTag (k : Slot) (i : Identity) (s : State) : State :=
  { s with acct.sets := s.acct.sets.set k { s.acct.sets.get k with tag := some i } }

/-- R6: the slot prepared for a board it has not held. -/
def prepareSlot (k : Slot) (s : State) : State :=
  s.setSlot k { s.slot k with sockets := Table.fill 32 Config.socketOff, active := Config.settings
                              staged := Config.settings, applyDeferred := false }

/-- R94: both burst configurations removed. -/
def clearConfigs (k : Slot) (s : State) : State :=
  s.setChannel k { s.channel k with active := none, pending := none }

/-- R5, RETAG: the account unit's part, with the compare unit's strikes. -/
def retagSet (k : Slot) (i : Identity) (old : Identity) (s : State) : State :=
  appendBoard k .slotRetagged (u24 old.serial) (clearDevStrikes k (setTag k i (zeroRecords k s)))

/-- R5, R6, R94: the tagging outcomes SET, CONTINUE and RETAG. -/
def tagBoard (k : Slot) (i : Identity) (s : State) : State :=
  match (s.acct.sets.get k).tag with
  | none => setTag k i s
  | some old => if old = i then s else clearConfigs k (prepareSlot k (retagSet k i old s))

/-- R7: unpopulated sockets MASKED with no strike. -/
def maskUnpopulated (count : Nat) (i : Socket) (p : SocketPower) : SocketPower :=
  if count ≤ i.val then { p with power := .masked, strikes := 0, retry := none, overCode := none } else p

/-- R7: a copy's setpoints lowered to the maxima of the board. -/
def Settings.lowerTo (t : Settings) (d : Descriptor) : Settings :=
  { t with vcore := min t.vcore d.vcoreMax, vio := min t.vio d.vioMax }

/-- R7: the descriptor applied to the slot. -/
def applyDescriptor (k : Slot) (d : Descriptor) (s : State) : State :=
  let c := s.slot k
  s.setSlot k { c with sockets := c.sockets.mapIdx (maskUnpopulated d.socketCount)
                       active := c.active.lowerTo d, staged := c.staged.lowerTo d }

/-- R3, R4: an answer is recorded and the slot enters PRESENT. -/
def recordAnswer (k : Slot) (i : Identity) (d : Descriptor) (s : State) : State :=
  s.setSlot k
    { s.slot k with identity := some i, descriptor := some d, board := .present, identLimit := none
                    status := if d.inRange then .valid else .outOfRange }

/-- R3 to R7: the identity device answers. -/
def identityAnswer (k : Slot) (i : Identity) (d : Descriptor) (s : State) : State :=
  if (s.slot k).board = .ident then
    let s1 := recordAnswer k i d s
    if d.inRange then applyDescriptor k d (tagBoard k i s1) else s1
  else s

/-- IDENTITY_ANSWER (R3). -/
def execIdentityAnswer (k : Slot) (i : Identity) (d : Descriptor) (s : State) :
    Host.Outcome State Fault Refusal :=
  .next (whenRunning (identityAnswer k i d) s)

/-- R4: the 50 ms limit expires without an answer. -/
def identityTimeout (k : Slot) (s : State) : State :=
  let c := s.slot k
  if c.board = .ident ∧ Timer.due c.identLimit = true then
    s.setSlot k { c with board := .present, status := .noAnswer, identLimit := none }
  else s

/-- IDENTITY_TIMEOUT (R4). -/
def execIdentityTimeout (k : Slot) (s : State) : Host.Outcome State Fault Refusal :=
  .next (whenRunning (identityTimeout k) s)

/-! ## BOARD-STATUS -/

/-- Contents of a BOARD-STATUS reply (R14). -/
def boardStatusReply (k : Slot) (s : State) : List Byte :=
  let c := s.slot k
  u8 c.board.code ++ u8 c.status.code ++ optional 4 identityBytes c.identity
    ++ optional 9 descriptorBytes c.descriptor
    ++ flag c.railTrip ++ flag c.socketTrip ++ flag c.burstDone ++ flag c.applyDone ++ u8 c.abandoned
    ++ flag c.applyDeferred ++ u8 (s.channel k).state.code ++ u8 (s.throttle k).step
    ++ railRecordBytes (s.scanner k).vcore ++ railRecordBytes (s.scanner k).vio

/-- BOARD-STATUS (R14). -/
def serveBoardStatus (slot : Nat) (s : State) : Served :=
  withSlot s slot fun k =>
    if (s.slot k).board = .empty then answer s .noBoard
    else reply (s.setSlot k (s.slot k).clearEvents) .ok (boardStatusReply k s)

/-- BOARD-STATUS (kind 14h, R14). -/
def execBoardStatus (slot : Nat) (s : State) : Host.Outcome State Fault Refusal :=
  .next (takeRequest 0x14 (serveBoardStatus slot) s)

end Sys2Proof.Machine
end

