-- ==== Sys2Proof/Machine/Bursts.lean ====
section
/-!
DEFINITION. The pattern channel and the compare unit: burst configurations, burst starts and ends, vector
boundaries, sample instants, the gap and the trigger (chapter 5).
-/

namespace Sys2Proof.Machine

/-! ## Driving vectors -/

/-- R81: pass k + 1 asks for point k at the vector start + floor(k * length / 8). -/
def capturePoint (rec : PatternRecord) (pass position : Nat) : Option (Fin 8) :=
  if rec.profile.isSome ∧ 1 ≤ pass ∧ pass ≤ 8 ∧ position = rec.start + (pass - 1) * rec.length / 8 then
    some (Fin.ofNat 8 (pass - 1))
  else none

/-- R64, R66, R69, R81: the vector at a position is read and driven; each clock group has its pulse to give,
and a capture is requested where the vector is the pass's capture point. -/
def driveVector (k : Slot) (rec : PatternRecord) (pass position : Nat) (s : State) : State :=
  let ch := s.channel k
  let v := s.store.read position
  let s1 := s.setChannel k
    { ch with play := some ⟨rec, pass, position, v⟩
              pulses := ch.pulses.map fun q => q ++ [⟨v.expect, v.strobe⟩] }
  match capturePoint rec pass position with
  | some point => requestCapture k point ch.burst s1
  | none => s1

/-- R80: a pass takes the board's rate step and begins at the record's start. -/
def startPass (k : Slot) (rec : PatternRecord) (pass : Nat) (s : State) : State :=
  driveVector k rec pass rec.start (s.setChannel k { s.channel k with rateStep := (s.throttle k).step })

/-! ## Burst starts -/

/-- R77: a pending configuration replaces the active one. -/
def Channel.adopt (c : Channel) : Channel :=
  match c.pending with
  | some p => { c with active := some p, pending := none }
  | none => c

/-- The record a configuration names, where it is defined. -/
def State.recordOf (s : State) (c : Option BurstConfig) : Option PatternRecord :=
  match c with
  | some b => s.store.records.get b.pattern
  | none => none

/-- R79, step 3: counts 0, the ON sockets marked, the phase order read; R96: the profile record opened. -/
def Compare.begin (c : Compare) (on : Table 32 Bool) (phases : Table 4 Nat) (burst : Nat)
    (rec : PatternRecord) : Compare :=
  { c with mismatch := Table.fill 32 0, member := on, phases := phases
           collecting := openRecord burst phases rec }

/-- R79: a burst start. Its record is defined wherever a rule starts a burst (R64); where it is not, nothing
is done (log entry 29). -/
def startBurst (k : Slot) (s : State) : State :=
  let ch := (s.channel k).adopt
  match s.recordOf ch.active with
  | none => s
  | some rec =>
    let burst := ch.burst + 1
    let s1 := s.setChannel k { ch with state := .burst, burst := burst }
    let on := (s1.slot k).sockets.map fun p => decide (p.power = .on)
    let s2 := s1.setCompare k ((s1.compare k).begin on (s1.slot k).active.phases burst rec)
    startPass k rec 1 s2

/-- R77: a burst-start point other than a trigger: the configuration now active starts a burst, or sends the
channel to WAIT in TRIGGERED. -/
def burstPoint (k : Slot) (s : State) : State :=
  let ch := (s.channel k).adopt
  let s1 := s.setChannel k ch
  match ch.active with
  | some b => if b.mode = .triggered then s1.setChannel k { ch with state := .wait } else startBurst k s1
  | none => s1

/-! ## BURST-CONFIG -/

/-- Contents of a BURST-CONFIG reply (R76; presence bytes by R190, log entry 19). -/
def burstConfigReply (c : Channel) : List Byte :=
  u8 c.state.code ++ optional 6 burstConfigBytes c.active ++ optional 6 burstConfigBytes c.pending
    ++ flag c.pending.isSome
    ++ optional 2 (fun p : Play => u16 p.pass) c.play ++ optional 2 (fun p : Play => u16 p.position) c.play
    ++ optional 1 (fun _ : Play => u8 c.rateStep) c.play

/-- What the fields of a SET name, where all are in range (R75). -/
def burstConfigOf (pattern mode passes gap : Nat) : Option BurstConfig :=
  match BurstMode.ofCode mode with
  | none => none
  | some m =>
    if 31 < pattern ∨ passes = 0 ∨ gap = 0 then none
    else some ⟨Fin.ofNat 32 pattern, m, passes, gap⟩

/-- R76: a configuration in range, by the channel's state. -/
def setBurstConfig (k : Slot) (b : BurstConfig) (s : State) : Served :=
  let ch := s.channel k
  match ch.state with
  | .idle | .done =>
    let s1 := s.setChannel k { ch with active := some b, pending := none }
    reply s1 .ok (burstConfigReply (s1.channel k))
  | .wait =>
    if s.recordOf (some b) = none then answer s .refusedState
    else
      let s1 := s.setChannel k { ch with active := some b, pending := none }
      let s2 := if b.mode = .triggered then s1 else startBurst k s1
      reply s2 .ok (burstConfigReply (s2.channel k))
  | .burst | .gap =>
    if s.recordOf (some b) = none then answer s .refusedState
    else
      let s1 := s.setChannel k { ch with pending := some b }
      reply s1 .deferred (burstConfigReply (s1.channel k))

/-- BURST-CONFIG SET (R75, R76). -/
def serveBurstConfigSet (slot pattern mode passes gap : Nat) (s : State) : Served :=
  withSlot s slot fun k =>
    if (s.slot k).board = .empty then answer s .noBoard
    else
      match burstConfigOf pattern mode passes gap with
      | none => answer s .refusedRange
      | some b => setBurstConfig k b s

/-- BURST-CONFIG QUERY (R76). -/
def serveBurstConfigQuery (slot : Nat) (s : State) : Served :=
  withSlot s slot fun k =>
    if (s.slot k).board = .empty then answer s .noBoard
    else reply s .ok (burstConfigReply (s.channel k))

/-- BURST-CONFIG with a form code that names neither form (R75). -/
def serveBurstConfigOther (slot : Nat) (s : State) : Served :=
  withSlot s slot fun k =>
    if (s.slot k).board = .empty then answer s .noBoard else answer s .refusedRange

/-- BURST-CONFIG SET (kind 22h, R75, R76). -/
def execBurstConfigSet (slot pattern mode passes gap : Nat) (s : State) : Host.Outcome State Fault Refusal :=
  .next (takeRequest 0x22 (serveBurstConfigSet slot pattern mode passes gap) s)

/-- BURST-CONFIG QUERY (kind 22h, R76). -/
def execBurstConfigQuery (slot : Nat) (s : State) : Host.Outcome State Fault Refusal :=
  .next (takeRequest 0x22 (serveBurstConfigQuery slot) s)

/-! ## EXERCISE-START, EXERCISE-STOP and BURST-TRIGGER -/

/-- The configuration EXERCISE-START would use: the pending one where held, the active one otherwise (R78). -/
def Channel.next (c : Channel) : Option BurstConfig := c.adopt.active

/-- EXERCISE-START (R78), with the conditions in the order of its table. -/
def serveExerciseStart (slot : Nat) (s : State) : Served :=
  withSlot s slot fun k =>
    let ch := s.channel k
    if (s.slot k).board = .empty then answer s .noBoard
    else if s.zone.state = .safe then answer s .refusedSafe
    else if (s.slot k).board ≠ .powered then answer s .refusedState
    else
      match ch.state with
      | .wait | .burst | .gap => answer s .refusedState
      | .idle | .done =>
        if s.recordOf ch.next = none then answer s .refusedState
        else answer (burstPoint k s) .ok

/-- EXERCISE-STOP (R87). -/
def serveExerciseStop (slot : Nat) (s : State) : Served :=
  withSlot s slot fun k =>
    if (s.slot k).board = .empty then answer s .noBoard else answer (stopChannel k false s) .ok

/-- R77: at BURST-TRIGGER in WAIT a pending configuration whose record is undefined is discarded. -/
def dropUndefined (k : Slot) (s : State) : State :=
  if s.recordOf (s.channel k).pending = none then s.setChannel k { s.channel k with pending := none } else s

/-- BURST-TRIGGER (R85, R86). -/
def serveBurstTrigger (slot : Nat) (s : State) : Served :=
  withSlot s slot fun k =>
    let ch := s.channel k
    if (s.slot k).board = .empty then answer s .noBoard
    else if s.zone.state = .safe then answer s .refusedSafe
    else
      match ch.state with
      | .wait => answer (startBurst k (dropUndefined k s)) .ok
      | .burst =>
        match ch.active with
        | some b =>
          if b.mode = .triggered then answer (startBurst k (abandonBurst k false s)) .ok
          else answer s .refusedState
        | none => answer s .refusedState
      | .idle | .gap | .done => answer s .refusedState

/-- EXERCISE-START (kind 23h, R78). -/
def execExerciseStart (slot : Nat) (s : State) : Host.Outcome State Fault Refusal :=
  .next (takeRequest 0x23 (serveExerciseStart slot) s)

/-- EXERCISE-STOP (kind 24h, R87). -/
def execExerciseStop (slot : Nat) (s : State) : Host.Outcome State Fault Refusal :=
  .next (takeRequest 0x24 (serveExerciseStop slot) s)

/-- BURST-TRIGGER (kind 25h, R85). -/
def execBurstTrigger (slot : Nat) (s : State) : Host.Outcome State Fault Refusal :=
  .next (takeRequest 0x25 (serveBurstTrigger slot) s)

/-! ## Vector boundaries and sample instants -/

/-- Passes per burst of the active configuration (R80). -/
def Channel.passes (c : Channel) : Nat :=
  match c.active with
  | some b => b.passes
  | none => 0

/-- The position is that of the pass's last vector (R80). -/
def Play.passOver (p : Play) : Bool := decide (p.record.start + p.record.length ≤ p.position + 1)

/-- R80: the next vector of the pass, or the first of the next pass; none after the last of the last. -/
def vectorBoundary (k : Slot) (s : State) : State :=
  let ch := s.channel k
  match ch.state, ch.play with
  | .burst, some p =>
    if p.passOver then
      if p.pass < ch.passes then startPass k p.record (p.pass + 1) s else s
    else driveVector k p.record p.pass (p.position + 1) s
  | _, _ => s

/-- VECTOR_BOUNDARY (R80). -/
def execVectorBoundary (k : Slot) (s : State) : Host.Outcome State Fault Refusal :=
  .next (whenRunning (vectorBoundary k) s)

/-- R90: one socket of the group; `levels` holds the response lines of its eight sockets. -/
def compareSocket (pulse : Pulse) (group : Fin 4) (levels : Byte) (c : Compare) (i : Socket) : Nat :=
  let count := c.mismatch.get i
  if clockGroup i = group ∧ c.member.get i = true ∧ levels.getLsbD (i.val % 8) ≠ pulse.expect then
    satInc 65535 count
  else count

/-- R90: the sample instant of a pulse. -/
def Compare.sample (c : Compare) (pulse : Pulse) (group : Fin 4) (levels : Byte) : Compare :=
  if pulse.strobe then { c with mismatch := Table.ofFn (compareSocket pulse group levels c) } else c

/-- R69, R90: the oldest pulse of a group falls; without one no sample instant occurs (log entry 32). -/
def sampleInstant (k : Slot) (group : Fin 4) (levels : Byte) (s : State) : State :=
  let ch := s.channel k
  match ch.state, ch.pulses.get group with
  | .burst, pulse :: rest =>
    (s.setChannel k { ch with pulses := ch.pulses.set group rest }).setCompare k
      ((s.compare k).sample pulse group levels)
  | _, _ => s

/-- SAMPLE_INSTANT (R69, R90). -/
def execSampleInstant (k : Slot) (group : Fin 4) (levels : Byte) (s : State) :
    Host.Outcome State Fault Refusal :=
  .next (whenRunning (sampleInstant k group levels) s)

/-! ## Burst end and gap -/

/-- R80, R69: the last vector of the last pass is driven and every group's last pulse has fallen. -/
def Channel.atEnd (c : Channel) : Bool :=
  match c.state, c.play with
  | .burst, some p =>
    p.passOver && decide (c.passes ≤ p.pass) && c.pulses.toList.all List.isEmpty
  | _, _ => false

/-- R92: the functional verdict of one socket. -/
def functionalVerdict (k : Slot) (members : Table 32 Bool) (tolerance : Nat) (pattern : Fin 32) (i : Socket)
    (s : State) : State :=
  let count := (s.compare k).mismatch.get i
  if members.get i = true ∧ tolerance < count then
    reportFailure k i .functional (u16 count ++ u8 pattern.val) s
  else s

/-- R82, step 1: the verdicts of a burst of a record under a configuration. -/
def burstVerdicts (k : Slot) (rec : PatternRecord) (b : BurstConfig) (s : State) : State :=
  let members := (s.compare k).member
  let s1 := forSockets Socket.all (functionalVerdict k members rec.tolerance b.pattern) s
  let s2 := completeRecord k b.passes members s1
  s2.setCompare k (s2.compare k).clearBurst

/-- R82, step 3: the state after a burst, by mode. -/
def afterBurst (k : Slot) (b : BurstConfig) (s : State) : State :=
  let ch := { s.channel k with play := none }
  match b.mode with
  | .continuous => burstPoint k (s.setChannel k { ch with state := .idle })
  | .periodic => s.setChannel k { ch with state := .gap, gap := some b.gap }
  | .single =>
    let s1 := s.setChannel k { ch with state := .done }
    raiseSource .burst (s1.setSlot k { s1.slot k with burstDone := true })
  | .triggered => s.setChannel k { ch with state := .wait }

/-- R82: a completed burst. -/
def burstEnd (k : Slot) (s : State) : State :=
  let ch := s.channel k
  match ch.atEnd, ch.play, ch.active with
  | true, some p, some b =>
    afterBurst k b (endDeferred k false (burstVerdicts k p.record b s))
  | _, _, _ => s

/-- BURST_END (R82). -/
def execBurstEnd (k : Slot) (s : State) : Host.Outcome State Fault Refusal :=
  .next (whenRunning (burstEnd k) s)

/-- R83: the gap ends. -/
def gapExpired (k : Slot) (s : State) : State :=
  let ch := s.channel k
  if ch.state = .gap ∧ Timer.due ch.gap = true then burstPoint k (s.setChannel k { ch with gap := none })
  else s

/-- GAP_EXPIRY (R83). -/
def execGapExpiry (k : Slot) (s : State) : Host.Outcome State Fault Refusal :=
  .next (whenRunning (gapExpired k) s)

end Sys2Proof.Machine
end

