-- ==== Sys2Proof/Machine/Patterns.lean ====
section
/-!
DEFINITION. The pattern store and the pattern records: PATTERN-LOAD and PATTERN-DEFINE in its three forms
(chapter 4).
-/

namespace Sys2Proof.Machine

/-! ## Writing the store -/

/-- One vector written to a list of rising indexes; a cleared vector is not listed. -/
def writeCell (i : Nat) (v : PatVector) : List (Nat × PatVector) → List (Nat × PatVector)
  | [] => if v = Config.clearedVector then [] else [(i, v)]
  | (j, w) :: rest =>
    if i < j then
      if v = Config.clearedVector then (j, w) :: rest else (i, v) :: (j, w) :: rest
    else if i = j then
      if v = Config.clearedVector then rest else (i, v) :: rest
    else (j, w) :: writeCell i v rest

def PatternStore.write (p : PatternStore) (i : Nat) (v : PatVector) : PatternStore :=
  { p with cells := writeCell i v p.cells }

/-- R58: vector j of a run is written to index start + j. -/
def PatternStore.writeRun (p : PatternStore) (start : Nat) : List PatVector → PatternStore
  | [] => p
  | v :: rest => (p.write start v).writeRun (start + 1) rest

/-- The vector of three bytes of a load (section 12.3). -/
def RawVector.vector (r : RawVector) : PatVector := ⟨r.drive, r.marks.getLsbD 0, r.marks.getLsbD 1⟩

/-- Bits 2 to 7 of a vector's third byte are 0 (section 12.3). -/
def RawVector.unusedClear (r : RawVector) : Bool := r.marks.toNat < 4

/-- PATTERN-LOAD (R58). -/
def servePatternLoad (start : Nat) (vectors : List RawVector) (s : State) : Served :=
  let count := vectors.length
  if count = 0 ∨ 64 < count then answer s .refusedLength
  else if 8191 < start ∨ Config.storeSize < start + count ∨ (vectors.all RawVector.unusedClear) = false then
    answer s .refusedRange
  else if (List.range count).any (fun j => s.protectedVector (start + j)) then answer s .refusedState
  else answer { s with store := s.store.writeRun start (vectors.map RawVector.vector) } .ok

/-- PATTERN-LOAD (kind 20h, R58). -/
def execPatternLoad (start : Nat) (vectors : List RawVector) (s : State) : Host.Outcome State Fault Refusal :=
  .next (takeRequest 0x20 (servePatternLoad start vectors) s)

/-! ## PATTERN-DEFINE -/

/-- The slots by which a record is in use, as a set (R61, R185). -/
def usersByte (s : State) (r : Fin 32) : Byte := bitsByte (Slot.all.map fun k => (s.channel k).uses r)

/-- Contents of a PATTERN-DEFINE reply (R61); the defined mark is the presence byte of start, length, period and
tolerance (log entry 19). -/
def patternReply (s : State) (r : Fin 32) : List Byte :=
  flag (s.store.records.get r).isSome ++ patternRecordBytes (s.store.records.get r) ++ [usersByte s r]
    ++ u16 (s.storeCheck r).toNat

/-- A record number above 31 is refused first (R60). -/
def withRecord (s : State) (record : Nat) (f : Fin 32 → Served) : Served :=
  if 31 < record then answer s .refusedRange else f (Fin.ofNat 32 record)

/-- A record replaced. -/
def State.setPattern (s : State) (r : Fin 32) (rec : Option PatternRecord) : State :=
  { s with store := { s.store with records := s.store.records.set r rec } }

/-- The fields of a WRITE are in range (R60). -/
def patternFieldsOk (start length period : Nat) : Bool :=
  decide (start ≤ 8191) && decide (1 ≤ length) && decide (length ≤ 8192)
    && decide (start + length ≤ 8192) && decide (1 ≤ period)

/-- PATTERN-DEFINE WRITE (R60). -/
def servePatternDefineWrite (record start length period tolerance : Nat) (profile : Option Profile)
    (s : State) : Served :=
  withRecord s record fun r =>
    if patternFieldsOk start length period = false then answer s .refusedRange
    else if s.inUse r then answer s .refusedState
    else
      let s1 := s.setPattern r (some ⟨start, length, period, tolerance, profile⟩)
      reply s1 .ok (patternReply s1 r)

/-- PATTERN-DEFINE CLEAR (R61). -/
def servePatternDefineClear (record : Nat) (s : State) : Served :=
  withRecord s record fun r =>
    if s.inUse r then answer s .refusedState
    else
      let s1 := s.setPattern r none
      reply s1 .ok (patternReply s1 r)

/-- PATTERN-DEFINE QUERY (R61). -/
def servePatternDefineQuery (record : Nat) (s : State) : Served :=
  withRecord s record fun r => reply s .ok (patternReply s r)

/-- PATTERN-DEFINE WRITE (kind 21h, R60). -/
def execPatternDefineWrite (record start length period tolerance : Nat) (profile : Option Profile)
    (s : State) : Host.Outcome State Fault Refusal :=
  .next (takeRequest 0x21 (servePatternDefineWrite record start length period tolerance profile) s)

/-- PATTERN-DEFINE CLEAR (kind 21h, R61). -/
def execPatternDefineClear (record : Nat) (s : State) : Host.Outcome State Fault Refusal :=
  .next (takeRequest 0x21 (servePatternDefineClear record) s)

/-- PATTERN-DEFINE QUERY (kind 21h, R61). -/
def execPatternDefineQuery (record : Nat) (s : State) : Host.Outcome State Fault Refusal :=
  .next (takeRequest 0x21 (servePatternDefineQuery record) s)

end Sys2Proof.Machine
end

