-- ==== Sys2Proof/Machine/Accounts.lean ====
section
/-!
DEFINITION. The account unit: the update of an account interval, the snapshot, and the account requests
(chapter 8).
-/

namespace Sys2Proof.Machine

/-! ## The update at an expiry -/

/-- R133: the temperature of a socket and whether it is an estimate. -/
def stressTemp (r : SampleRecord) (air : Option Int) (accel : List Breakpoint) : Int × Bool :=
  match r.fresh, air with
  | some t, _ => (t, false)
  | none, some t => (t, true)
  | none, none => ((accel.head?.map Breakpoint.temp).getD 0, true)

/-- R134: the factor of a temperature; the table has at least one breakpoint (R130). -/
def accelFactor : List Breakpoint → Int → Nat
  | [], _ => 0
  | [p], _ => p.factor
  | p :: q :: rest, t =>
    if t ≤ p.temp then p.factor
    else if t < q.temp then
      ((p.factor : Int) + (((q.factor : Int) - p.factor) * (t - p.temp)).tdiv (q.temp - p.temp)).toNat
    else accelFactor (q :: rest) t

/-- R135: the weight of an interval. -/
def stressWeight (wEx wSt step : Nat) (c : OpenCount) : Nat :=
  ((wEx / 2 ^ step) * c.ex + wSt * (c.on - c.ex)) / 1000

/-- R135, R136: stress, residue, times and flags after an increment of `n` 65,536ths of a second. -/
def AcctRecord.accrue (r : AcctRecord) (n : Nat) (c : OpenCount) (estimated holdover : Bool) : AcctRecord :=
  let sum := r.stress + n / 256
  { r with stress := min Config.max40 sum, residue := n % 256
           saturated := r.saturated || decide (Config.max40 < sum)
           powered := min Config.max40 (r.powered + c.on)
           exercised := min Config.max40 (r.exercised + c.ex)
           estimated := r.estimated || (estimated && decide (0 < c.on))
           untimed := r.untimed || (holdover && decide (0 < c.on)) }

/-- R133 to R136: one socket's update. -/
def accrueSocket (s : State) (k : Slot) (i : Socket) (r : AcctRecord) : AcctRecord :=
  let c := (s.acct.counts.get k).get i
  let t := stressTemp ((s.scanner k).records.get i) s.zone.lastValid s.acct.accel
  let w := stressWeight s.acct.wEx s.acct.wSt (s.throttle k).step c
  r.accrue (accelFactor s.acct.accel t.1 * w + r.residue) c t.2 s.acct.holdover

/-- R133: the set of a slot is updated when it is tagged and the slot is not EMPTY. -/
def accrueSet (s : State) (k : Slot) : AcctSet :=
  let set := s.acct.sets.get k
  if set.tag.isSome ∧ (s.slot k).board ≠ .empty then { set with recs := set.recs.mapIdx (accrueSocket s k) }
  else set

/-- Four values, one for each slot. -/
def perSlot {α : Type} (f : Slot → α) : PerSlot α := ⟨f .A, f .B, f .C, f .D⟩

/-- R144: the copy a capture takes. -/
def snapshotNow (s : State) : SnapCopy :=
  { sets := s.acct.sets, devStrikes := s.cmp.map Compare.devStrikes, epoch := s.log.epoch
    runSeconds := s.clock.runSeconds, pages := Table.fill 32 false }

/-- R144: a pending snapshot is captured. -/
def captureSnapshot (s : State) : State :=
  match s.acct.snapshot with
  | .waiting => { s with acct.snapshot := .held (snapshotNow s) }
  | .absent | .held _ => s

/-- R133 to R136, R144: an account-interval expiry. -/
def accountInterval (s : State) : State :=
  if Timer.due s.acct.interval then
    let s1 := { s with acct.sets := perSlot (accrueSet s)
                       acct.counts := PerSlot.fill (Table.fill 32 ⟨0, 0⟩) }
    let s2 := captureSnapshot s1
    { s2 with acct.holdover := decide (s2.clock.live = .holdover), acct.interval := some 1 }
  else s

/-- ACCOUNT_INTERVAL_EXPIRY (R133). -/
def execAccountIntervalExpiry (s : State) : Host.Outcome State Fault Refusal :=
  .next (whenRunning accountInterval s)

/-- R132: the counters of one socket at a 1 ms reference. -/
def OpenCount.tick (c : OpenCount) (on inBurst : Bool) : OpenCount :=
  if on then ⟨satInc 1000 c.on, if inBurst then satInc 1000 c.ex else c.ex⟩ else c

/-! ## Table and weights -/

/-- Temperatures in range and strictly increasing (R130). -/
def accelOk : List Breakpoint → Bool
  | [] => true
  | [p] => decide (Config.tempMin ≤ p.temp ∧ p.temp ≤ Config.tempMax)
  | p :: q :: rest =>
    decide (Config.tempMin ≤ p.temp ∧ p.temp ≤ Config.tempMax) && decide (p.temp < q.temp) && accelOk (q :: rest)

/-- ACCEL-TABLE-LOAD (R130). -/
def serveAccelTableLoad (points : List Breakpoint) (s : State) : Served :=
  if 16 < points.length then answer s .refusedLength
  else if accelOk points = false then answer s .refusedRange
  else
    let table := if points = [] then s.acct.accel else points
    reply { s with acct.accel := table } .ok (accelBytes table)

/-- ACCEL-TABLE-LOAD (kind 30h, R130). -/
def execAccelTableLoad (points : List Breakpoint) (s : State) : Host.Outcome State Fault Refusal :=
  .next (takeRequest 0x30 (serveAccelTableLoad points) s)

/-- WEIGHTS-SET (R131). -/
def serveWeightsSet (wEx wSt : Nat) (s : State) : Served :=
  reply { s with acct.wEx := min 256 wEx, acct.wSt := min 256 wSt }
    (if 256 < wEx ∨ 256 < wSt then .clamped else .ok) (u16 (min 256 wEx) ++ u16 (min 256 wSt))

/-- WEIGHTS-SET (kind 31h, R131). -/
def execWeightsSet (wEx wSt : Nat) (s : State) : Host.Outcome State Fault Refusal :=
  .next (takeRequest 0x31 (serveWeightsSet wEx wSt) s)

/-! ## Snapshot -/

/-- ACCOUNT-SNAPSHOT (R144). -/
def serveAccountSnapshot (s : State) : Served :=
  match s.acct.snapshot with
  | .absent => answer { s with acct.snapshot := .waiting } .ok
  | .waiting | .held _ => answer s .refusedHeld

/-- ACCOUNT-SNAPSHOT (kind 32h, R144). -/
def execAccountSnapshot (s : State) : Host.Outcome State Fault Refusal :=
  .next (takeRequest 0x32 serveAccountSnapshot s)

/-- The slot of a page (R145). -/
def pageSlot (page : Nat) : Slot := (slotOfCode (page / 8)).getD .D

/-- The sockets of a page (R145). -/
def pageSockets (page : Nat) : List Socket := [0, 1, 2, 3].map fun j => socketOf (4 * (page % 8) + j)

/-- Contents of a page of the copy (R193). -/
def pageReply (c : SnapCopy) (page : Nat) : List Byte :=
  let k := pageSlot page
  let set := c.sets.get k
  u8 page ++ u8 c.epoch ++ u32 c.runSeconds ++ optional 4 identityBytes set.tag
    ++ (pageSockets page).flatMap fun i => acctRecordBytes (set.recs.get i) ((c.devStrikes.get k).get i)

/-- R145, R146: the snapshot after a page is read: released when every page has been. -/
def SnapCopy.afterRead (c : SnapCopy) (page : Nat) : Snapshot :=
  let pages := c.pages.set (socketOf page) true
  if pages.toList.all id then .absent else .held { c with pages := pages }

/-- ACCOUNT-READ (R145). -/
def serveAccountRead (page : Nat) (s : State) : Served :=
  if 31 < page then answer s .refusedRange
  else
    match s.acct.snapshot with
    | .absent | .waiting => answer s .refusedState
    | .held c => reply { s with acct.snapshot := c.afterRead page } .ok (pageReply c page)

/-- ACCOUNT-READ (kind 33h, R145). -/
def execAccountRead (page : Nat) (s : State) : Host.Outcome State Fault Refusal :=
  .next (takeRequest 0x33 (serveAccountRead page) s)

/-- SNAPSHOT-RELEASE (R146). -/
def serveSnapshotRelease (s : State) : Served := answer { s with acct.snapshot := .absent } .ok

/-- SNAPSHOT-RELEASE (kind 34h, R146). -/
def execSnapshotRelease (s : State) : Host.Outcome State Fault Refusal :=
  .next (takeRequest 0x34 serveSnapshotRelease s)

/-- ACCOUNT-CLEAR (R142). -/
def serveAccountClear (slot : Nat) (s : State) : Served :=
  withSlot s slot fun k =>
    if (s.slot k).board = .empty then answer s .noBoard
    else answer (clearDevStrikes k (zeroRecords k s)) .ok

/-- ACCOUNT-CLEAR (kind 35h, R142). -/
def execAccountClear (slot : Nat) (s : State) : Host.Outcome State Fault Refusal :=
  .next (takeRequest 0x35 (serveAccountClear slot) s)

end Sys2Proof.Machine
end

