-- ==== Sys2Proof/Machine/Clocks.lean ====
section
/-!
DEFINITION. The time base and the clock monitor: the 1 ms and 1 s references, holdover and qualification,
CLOCK-STATUS and CLOCK-CLEAR (chapter 11).
-/

namespace Sys2Proof.Machine

/-! ## Requests -/

/-- Contents of a CLOCK-STATUS reply (R177). -/
def clockReply (c : Clock) : List Byte :=
  u8 c.live.code ++ u8 c.source.code ++ flag c.qualifying ++ flag c.sticky ++ u32 c.runSeconds
    ++ u8 c.outcome.code

/-- CLOCK-STATUS (R177). -/
def serveClockStatus (s : State) : Served := reply s .ok (clockReply s.clock)

/-- CLOCK-STATUS (kind 60h, R177). -/
def execClockStatus (s : State) : Host.Outcome State Fault Refusal :=
  .next (takeRequest 0x60 serveClockStatus s)

/-- CLOCK-CLEAR (R177). -/
def serveClockClear (s : State) : Served :=
  let c := { s.clock with sticky := false }
  reply { s with clock := c } .ok (clockReply c)

/-- CLOCK-CLEAR (kind 61h, R177). -/
def execClockClear (s : State) : Host.Outcome State Fault Refusal := .next (takeRequest 0x61 serveClockClear s)

/-! ## References -/

/-- What counts on the 1 ms reference in a slot controller (R2, R20, R21, R24, R25). -/
def SlotCtl.tickMs (c : SlotCtl) : SlotCtl :=
  let rail (r : RailState) : RailState := { r.slew c.active.slew with settle := Timer.count r.settle }
  { c with vcore := rail c.vcore, vio := rail c.vio, dwell := Timer.count c.dwell
           drainLimit := Timer.count c.drainLimit, identLimit := Timer.count c.identLimit }

/-- R83: the gap timer. -/
def Channel.tickMs (c : Channel) : Channel := { c with gap := Timer.count c.gap }

/-- R119: the throttle timers. -/
def Throttle.tickMs (t : Throttle) : Throttle := { t with hold := Timer.count t.hold, fall := Timer.count t.fall }

/-- R132: the open-interval counters of a slot. -/
def tickCounts (s : State) (k : Slot) : Table 32 OpenCount :=
  (s.acct.counts.get k).mapIdx fun i c =>
    c.tick (decide ((s.socket k i).power = .on)) (decide ((s.channel k).state = .burst))

/-- R174: a 1 ms reference. -/
def tickMs (s : State) : State :=
  { s with clock.msCount := s.clock.msCount + 1
           slots := s.slots.map SlotCtl.tickMs
           chan := s.chan.map Channel.tickMs
           scan := s.scan.map Scanner.tick
           zone.throttle := s.zone.throttle.map Throttle.tickMs
           acct.counts := perSlot (tickCounts s) }

/-- REFERENCE_1MS (R174). -/
def execReference1ms (s : State) : Host.Outcome State Fault Refusal := .next (whenRunning tickMs s)

/-- R33: the retry timers. -/
def SlotCtl.tickSec (c : SlotCtl) : SlotCtl :=
  { c with sockets := c.sockets.map fun p => { p with retry := Timer.count p.retry } }

/-- R174, R178: a 1 s reference, given once 1,000 references of 1 ms have been. -/
def tickSec (s : State) : State :=
  if 1000 ≤ s.clock.msCount then
    { s with clock.msCount := s.clock.msCount - 1000
             clock.runSeconds := satInc Config.max32 s.clock.runSeconds
             slots := s.slots.map SlotCtl.tickSec
             zone.interval := Timer.count s.zone.interval
             acct.interval := Timer.count s.acct.interval }
  else s

/-- REFERENCE_1S (R174). -/
def execReference1s (s : State) : Host.Outcome State Fault Refusal := .next (whenRunning tickSec s)

/-! ## The clock monitor -/

/-- The clock monitor watches REFCLK from a start's reset values on (R175, R180). -/
def Phase.watches : Phase → Bool
  | .checking | .running | .commit | .retained => true
  | .unpowered | .resetHeld => false

/-- R173, R180: the alert unit takes raises during the retention check and while the part is running. -/
def Phase.raises : Phase → Bool
  | .checking | .running => true
  | .unpowered | .resetHeld | .commit | .retained => false

/-- A CLOCK raise, where raises are taken. -/
def raiseClock (s : State) : State := if s.part.phase.raises then raiseSource .clock s else s

/-- R175: a holdover detection, taken only in LOCKED; R132: the holdover mark of the open interval. -/
def holdoverDetected (s : State) : State :=
  if s.part.phase.watches = true ∧ s.clock.live = .locked then
    raiseClock { s with clock.live := .holdover, clock.source := .internal, clock.sticky := true
                        clock.qualifying := false, acct.holdover := s.acct.holdover || s.running }
  else s

/-- HOLDOVER_DETECTION (R175). -/
def execHoldoverDetection (s : State) : Host.Outcome State Fault Refusal := .next (holdoverDetected s)

/-- A step of the qualification, taken only in HOLDOVER (R176). -/
def whileHoldover (f : State → State) (s : State) : State :=
  if s.part.phase.watches = true ∧ s.clock.live = .holdover then f s else s

/-- QUALIFICATION_START (R176): the first edge in HOLDOVER begins a qualification. -/
def execQualificationStart (s : State) : Host.Outcome State Fault Refusal :=
  .next (whileHoldover (fun s => { s with clock.qualifying := true }) s)

/-- QUALIFICATION_FAIL (R176): a gap ends the qualification. -/
def execQualificationFail (s : State) : Host.Outcome State Fault Refusal :=
  .next (whileHoldover (fun s => { s with clock.qualifying := false }) s)

/-- R176: a qualification in progress succeeds. -/
def qualified (s : State) : State :=
  if s.clock.qualifying then
    raiseClock { s with clock.live := .locked, clock.source := .refclk, clock.qualifying := false }
  else s

/-- QUALIFICATION_SUCCESS (R176). -/
def execQualificationSuccess (s : State) : Host.Outcome State Fault Refusal :=
  .next (whileHoldover qualified s)

end Sys2Proof.Machine
end

