-- ==== Sys2Proof/Machine/Power.lean ====
section
/-!
DEFINITION. Commits, starts and the retention check, and ZONE-RESET (chapter 11, R16, R17).
-/

namespace Sys2Proof.Machine

/-! ## The commit -/

/-- R17: a slot at the start of a commit. -/
def commitSlot (k : Slot) (s : State) : State :=
  let s1 := lockOut true k s
  if (s1.slot k).board = .ident then s1.setSlot k { (s1.slot k).forgetBoard with board := .empty } else s1

/-- R17, R93, R99: a slot's controller, channel and compare unit at the start of a commit. -/
def commitBlocks (k : Slot) (s : State) : State := dropClosing k (stopChannel k true (commitSlot k s))

/-- R117: the controller's outputs from the start of a commit; it runs no interval. -/
def Zone.commit (z : Zone) : Zone := { z with heater := 0, heatEn := false, fan := 1000, interval := none }

/-- R147: the account unit at the start of a commit. -/
def Account.commit (a : Account) : Account :=
  { a with interval := none, counts := PerSlot.fill (Table.fill 32 ⟨0, 0⟩), snapshot := .absent }

/-- R180: a frame that has begun is finished; nothing else is received or sent. -/
def Link.commit (l : Link) : Link :=
  { l with rx := .hunt, buffer := [], composed := none
           owed := match l.sending with
             | some f => f.isReply
             | none => false }

/-- R181: what a commit copies. -/
def State.imageNow (s : State) : Image :=
  ⟨s.acct.sets, s.log.entries, s.log.discarded, s.log.epoch⟩

/-- R181: the checksum is made invalid and the image written. -/
def writeImage (s : State) : State := { s with ret := { s.ret with image := s.imageNow, checksum := none } }

/-- R180, R181: the start of a commit; `kept` tells whether it is a RESET# that starts it (R179). -/
def commitStart (kept : Bool) (s : State) : State :=
  let s1 := forSlots commitBlocks s
  writeImage { s1 with scan := PerSlot.fill scannerStopped, zone := s1.zone.commit, acct := s1.acct.commit
                       link := s1.link.commit, part := { s1.part with phase := .commit, resetKept := kept } }

/-- POWER-FAIL# asserted (R179). In the check it is noted; a line asserted since before the check is not (log entry
42). -/
def powerFail (s : State) : State :=
  match s.part.phase with
  | .running => commitStart false s
  | .checking => { s with part.failSeen := true }
  | .unpowered | .resetHeld | .commit | .retained => s

/-- POWER_FAIL_ASSERT (R179): the line takes a level (log entry 25); its assertion may start a commit. -/
def execPowerFailAssert (level : Bool) (s : State) : Host.Outcome State Fault Refusal :=
  let s1 := { s with lines.powerFail := level }
  .next (if level then powerFail s1 else s1)

/-- RESET# asserted (R179). -/
def resetAsserted (s : State) : State :=
  match s.part.phase with
  | .running => commitStart true s
  | .checking => { s with part.phase := .resetHeld }
  | .commit => { s with part.resetKept := true }
  | .unpowered | .resetHeld | .retained => s

/-- RESET_ASSERT (R179). -/
def execResetAssert (s : State) : Host.Outcome State Fault Refusal :=
  .next (resetAsserted { s with lines.reset := true })

/-! ## Starts -/

/-- The values every block takes at a power-on reset and at RESET# (R15, R42, R56, R71, R93, R104, R127, R148,
R161, R173, R175, R189); retention memory and the lines are not reset. A frame still going out is
dropped with the link's reset values (log entry 43). -/
def blank (phase : Phase) (s : State) : State :=
  { State.reset with part := ⟨phase, false, false⟩, lines := s.lines, ret := s.ret, races := s.races
                     pending := s.pending }

/-- A start: the reset values are taken and the retention check begins; RESET# holds it off (R179, R183). -/
def start (s : State) : State := blank (if s.lines.reset then .resetHeld else .checking) s

/-- R182: RESET# released where a start waits for it. -/
def resetReleased (s : State) : State :=
  match s.part.phase with
  | .retained | .resetHeld => start s
  | .unpowered | .checking | .running | .commit => s

/-- RESET_RELEASE (R179, R182): the line is released where it was asserted. -/
def execResetRelease (s : State) : Host.Outcome State Fault Refusal :=
  .next (if s.lines.reset then resetReleased { s with lines.reset := false } else s)

/-- R181, R182: the checksum is written and the part enters RETAINED; a RESET# kept and already released
starts the part at once. -/
def commitComplete (s : State) : State :=
  if s.part.phase = .commit then
    let s1 := { s with ret := { s.ret with checksum := some s.ret.image, mark := true }, part.phase := .retained }
    if s.part.resetKept = true ∧ s.lines.reset = false then start s1 else s1
  else s

/-- COMMIT_COMPLETE (R181, R182). -/
def execCommitComplete (s : State) : Host.Outcome State Fault Refusal := .next (commitComplete s)

/-- POWER_ON_RESET (R181, R183): power is applied; `backup` tells whether a backup supply holds the memory. In
any phase but unpowered it stands for a loss and a return of power (log entry 26). -/
def execPowerOnReset (backup : Bool) (s : State) : Host.Outcome State Fault Refusal :=
  .next (start { s with ret.mark := s.ret.mark && backup })

/-- POWER_LOSS (R181, R182): everything but retention memory is lost. -/
def execPowerLoss (s : State) : Host.Outcome State Fault Refusal := .next (blank .unpowered s)

/-- BACKUP_SUPPLY_LOSS (R181). -/
def execBackupSupplyLoss (s : State) : Host.Outcome State Fault Refusal := .next { s with ret.mark := false }

/-! ## The retention check -/

/-- R183: the stored checksum equals the CRC-32 of the image. -/
def Retention.matches (r : Retention) : Bool :=
  match r.checksum with
  | some i => decide (i = r.image) || decide (imageCrc i = imageCrc r.image)
  | none => false

/-- R183: the check is VALID. -/
def Retention.valid (r : Retention) : Bool := r.mark && r.matches

/-- R143, R183: INTERRUPTED set on every record of a tagged set. -/
def AcctSet.interrupt (a : AcctSet) : AcctSet :=
  if a.tag.isSome then { a with recs := a.recs.map fun r => { r with interrupted := true } } else a

/-- R183, VALID: sets, tags, entries, discarded count and epoch restored. -/
def restoreImage (i : Image) (s : State) : State :=
  { s with acct.sets := i.sets.map AcctSet.interrupt
           log := ⟨i.entries, i.discarded, (i.epoch + 1) % 256, true⟩
           clock.outcome := .valid }

/-- R183, LOST. -/
def loseImage (s : State) : State :=
  { s with acct.sets := PerSlot.fill Config.blankSet, log := ⟨[], 0, 1, true⟩, clock.outcome := .lost }

/-- R183: the outcome of the check, its entry and the comparison of R156; the checksum is made invalid. -/
def checkOutcome (s : State) : State :=
  let s1 :=
    if s.ret.valid then
      appendZone .powerRestored (u16 s.ret.image.entries.length) (restoreImage s.ret.image s)
    else appendZone .retentionLost [] (loseImage s)
  let s2 := logCompare s1
  { s2 with ret := { s2.ret with checksum := none } }

/-- R15, R184: a slot whose board-present input is active enters IDENT. -/
def findBoard (k : Slot) (s : State) : State :=
  if s.lines.present.get k then enterIdent k s else s

/-- R184: references, timers and the link start. -/
def runningStart (s : State) : State :=
  forSlots findBoard
    { s with part.phase := .running, clock.msCount := 0, clock.runSeconds := 0, zone.interval := some 1
             acct.interval := some 1, acct.holdover := decide (s.clock.live = .holdover), link := linkReset }

/-- R183, R184, R179: the check ends, the part runs, and a POWER-FAIL# seen starts a commit (log entry 35). -/
def retentionCheckEnd (s : State) : State :=
  if s.part.phase = .checking then
    let s1 := runningStart (checkOutcome s)
    if s.part.failSeen || s.lines.powerFail then commitStart false s1 else s1
  else s

/-- RETENTION_CHECK_END (R183, R184). -/
def execRetentionCheckEnd (s : State) : Host.Outcome State Fault Refusal := .next (retentionCheckEnd s)

/-! ## ZONE-RESET -/

/-- R16: a socket that is not MASKED becomes OFF, and no socket has a strike. -/
def SocketPower.zoneReset (p : SocketPower) : SocketPower :=
  ⟨if p.power = .masked then .masked else .off, 0, none, none⟩

/-- R16, R42: a slot at ZONE-RESET once its board is hard-off. -/
def SlotCtl.zoneReset (c : SlotCtl) : SlotCtl :=
  { c.clearEvents with
      active := { c.active with vcore := 0, vio := 0 }, staged := { c.staged with vcore := 0, vio := 0 }
      sockets := c.sockets.map SocketPower.zoneReset, applyDeferred := false
      vcore := Config.railOff, vio := Config.railOff }

/-- R56: a running scanner at ZONE-RESET: records invalid, the conversion in progress discarded, and a new
round to come from step 1. -/
def Scanner.zoneReset (c : Scanner) (count : Nat) : Scanner :=
  if c.running then
    { scannerStopped with
        running := true, roundCount := count
        converting := c.converting.map fun t => { t with discard := true, restDiscard := true }
        conversion := c.conversion.map fun v => { v with discard := true } }
  else c

/-- R16, R56, R93, R99, R121: one slot at ZONE-RESET. -/
def zoneResetSlot (k : Slot) (s : State) : State :=
  let s1 := dropClosing k (resetThrottle k (stopChannel k true (lockOut true k s)))
  let s2 := s1.setSlot k (s1.slot k).zoneReset
  s2.setScanner k ((s2.scanner k).zoneReset (s2.slot k).countInForce)

/-- R127: the thermal controller at ZONE-RESET. -/
def Zone.zoneReset (z : Zone) : Zone :=
  { Machine.zoneReset with
      tuning := z.tuning, lastValid := z.lastValid, interval := z.interval, fan := z.tuning.fanFloor
      throttle := z.throttle
      primary := ⟨z.primary.temp, false, 0⟩, secondary := ⟨z.secondary.temp, false, 0⟩ }

/-- ZONE-RESET (R16, R127, R146, R156, R173). -/
def serveZoneReset (s : State) : Served :=
  if s.zone.state = .safe then answer s .refusedSafe
  else
    let s1 := forSlots zoneResetSlot s
    let s2 := { s1 with zone := s1.zone.zoneReset, acct.snapshot := .absent, alert := alertReset
                        log.armed := true }
    answer (logCompare s2) .ok

/-- ZONE-RESET (kind 02h, R16). -/
def execZoneReset (s : State) : Host.Outcome State Fault Refusal := .next (takeRequest 0x02 serveZoneReset s)

end Sys2Proof.Machine
end

