-- ==== Sys2Proof/Machine/Records.lean ====
section
/-!
DEFINITION. Requests of the failure log and of the alert unit (chapters 9 and 10).
-/

namespace Sys2Proof.Machine

/-! ## The failure log -/

/-- Contents of a LOG-READ reply (R157, R192). -/
def logReadReply (l : FailLog) (position count : Nat) : List Byte :=
  u16 l.entries.length ++ u16 l.discarded ++ ((l.entries.drop position).take count).flatMap entryBytes

/-- LOG-READ (R157). -/
def serveLogRead (position count : Nat) (s : State) : Served :=
  if count = 0 ∨ 8 < count ∨ 255 < position then answer s .refusedRange
  else reply s .ok (logReadReply s.log position count)

/-- LOG-READ (kind 40h, R157). -/
def execLogRead (position count : Nat) (s : State) : Host.Outcome State Fault Refusal :=
  .next (takeRequest 0x40 (serveLogRead position count) s)

/-- R158, R156: the oldest entries removed, and the arm. -/
def FailLog.retire (l : FailLog) (count : Nat) : FailLog :=
  let rest := l.entries.drop count
  { l with entries := rest, armed := l.armed || decide (rest.length < Config.logRearm) }

/-- LOG-RETIRE (R158). -/
def serveLogRetire (count : Nat) (s : State) : Served :=
  if 256 < count then answer s .refusedRange
  else
    let held := s.log.entries.length
    let after := s.log.retire count
    reply { s with log := after } (if held < count then .clamped else .ok)
      (u16 (min count held) ++ u16 after.entries.length ++ u16 after.discarded)

/-- LOG-RETIRE (kind 41h, R158). -/
def execLogRetire (count : Nat) (s : State) : Host.Outcome State Fault Refusal :=
  .next (takeRequest 0x41 (serveLogRetire count) s)

/-- Contents of a LOG-STATUS reply (R160); ARMED is code 0 (R191). -/
def logStatusReply (l : FailLog) : List Byte :=
  u16 l.entries.length ++ u16 l.discarded ++ u8 l.epoch ++ u8 (if l.armed then 0 else 1)

/-- LOG-STATUS (R160). -/
def serveLogStatus (s : State) : Served := reply s .ok (logStatusReply s.log)

/-- LOG-STATUS (kind 42h, R160). -/
def execLogStatus (s : State) : Host.Outcome State Fault Refusal := .next (takeRequest 0x42 serveLogStatus s)

/-! ## The alert unit -/

/-- Contents of an ALERT-MASK or ALERT-CONFIG reply (R170, R171). -/
def alertReply (a : AlertUnit) : List Byte :=
  [a.raised, a.inService, a.mask] ++ u8 a.priority.code ++ u8 a.base ++ u8 a.delivery.code

/-- ALERT-MASK (R170). -/
def serveAlertMask (toMask toUnmask : Byte) (s : State) : Served :=
  if toMask &&& toUnmask ≠ 0 then answer s .refusedRange
  else
    let a := { s.alert with mask := (s.alert.mask ||| toMask) &&& ~~~toUnmask }
    reply { s with alert := a } .ok (alertReply a)

/-- ALERT-MASK (kind 50h, R170). -/
def execAlertMask (toMask toUnmask : Byte) (s : State) : Host.Outcome State Fault Refusal :=
  .next (takeRequest 0x50 (serveAlertMask toMask toUnmask) s)

/-- R171: the modes written; FIXED sets the base to 0. -/
def AlertUnit.configure (a : AlertUnit) (p : PriorityMode) (d : DeliveryMode) : AlertUnit :=
  { a with priority := p, delivery := d, base := if p = .fixed then 0 else a.base }

/-- ALERT-CONFIG (R171). -/
def serveAlertConfig (priority delivery : Nat) (s : State) : Served :=
  match PriorityMode.ofCode priority, DeliveryMode.ofCode delivery with
  | some p, some d =>
    let a := s.alert.configure p d
    reply { s with alert := a } .ok (alertReply a)
  | _, _ => answer s .refusedRange

/-- ALERT-CONFIG (kind 51h, R171). -/
def execAlertConfig (priority delivery : Nat) (s : State) : Host.Outcome State Fault Refusal :=
  .next (takeRequest 0x51 (serveAlertConfig priority delivery) s)

/-- Contents of an ALERT-POLL reply, after its delivery (R168). -/
def pollReply (s : State) (source : Option Nat) (a : AlertUnit) : List Byte :=
  u8 (source.getD noneCode) ++ u16 s.log.entries.length ++ u8 s.zone.state.code
    ++ [a.raised, a.inService, a.mask] ++ u8 a.priority.code ++ u8 a.delivery.code ++ u8 a.base

/-- The source an ALERT-POLL delivers: none in FRAME mode (R168). -/
def AlertUnit.pollSource (a : AlertUnit) : Option Nat :=
  match a.delivery with
  | .polled => a.choose
  | .frame => none

/-- ALERT-POLL (R168). -/
def serveAlertPoll (s : State) : Served :=
  match s.alert.pollSource with
  | some n =>
    let a := s.alert.deliver n
    reply { s with alert := a } .ok (pollReply s (some n) a)
  | none => reply s .ok (pollReply s none s.alert)

/-- ALERT-POLL (kind 52h, R168). -/
def execAlertPoll (s : State) : Host.Outcome State Fault Refusal := .next (takeRequest 0x52 serveAlertPoll s)

/-- R169, R166: a service ended, and the base moved in ROTATING mode. -/
def AlertUnit.done (a : AlertUnit) (n : Nat) : AlertUnit :=
  { a with inService := a.inService &&& ~~~(sourceBit n)
           base := match a.priority with
             | .fixed => a.base
             | .rotating => (n + 1) % 8 }

/-- ALERT-DONE (R169). -/
def serveAlertDone (source : Nat) (s : State) : Served :=
  if 7 < source then answer s .refusedRange
  else if s.alert.inService.getLsbD source then answer { s with alert := s.alert.done source } .ok
  else answer s .refusedState

/-- ALERT-DONE (kind 53h, R169). -/
def execAlertDone (source : Nat) (s : State) : Host.Outcome State Fault Refusal :=
  .next (takeRequest 0x53 (serveAlertDone source) s)

end Sys2Proof.Machine
end

