-- ==== Sys2Proof/Machine/Settings.lean ====
section
/-!
DEFINITION. The staged settings: BOARD-STAGE and BOARD-APPLY (sections 2.1 and 2.9).
-/

namespace Sys2Proof.Machine

/-- The maximum of a rail setpoint: the smaller of the range maximum and the descriptor's while the status
is VALID (R19). -/
def SlotCtl.setpointMax (c : SlotCtl) (r : Rail) : Nat :=
  let range := match r with
    | .vcore => 2500
    | .vio => 3600
  match c.status, c.descriptor, r with
  | .valid, some d, .vcore => min range d.vcoreMax
  | .valid, some d, .vio => min range d.vioMax
  | _, _, _ => range

/-- The lane map of a stage item, where every entry is in range (R65). -/
def laneMapOf (entries : Table 16 (Nat × Nat)) : Option (Table 16 LaneEntry) :=
  if entries.toList.all fun e => decide (e.1 ≤ 15) && (LaneMode.ofCode e.2).isSome then
    some (entries.map fun e => ⟨e.1, (LaneMode.ofCode e.2).getD .normal⟩)
  else none

/-- The phase order of one packed byte (section 12.3). -/
def phasesOf (packed : Nat) : Table 4 Nat := Table.ofFn fun g => packed / 4 ^ g.val % 4

/-- A stage item gives a value in the range of its setting (R18, R19). A setpoint above the range maximum is
clamped, not refused (log entry 38). -/
def stageInRange : StageItem → Bool
  | .vcore mv => decide (mv = 0 ∨ 400 ≤ mv)
  | .vio mv => decide (mv = 0 ∨ 1000 ≤ mv)
  | .fullScale ma => decide (1000 ≤ ma ∧ ma ≤ 20000)
  | .currentLimit code => decide (1 ≤ code ∧ code ≤ 255)
  | .strikeLimit n => decide (1 ≤ n ∧ n ≤ 15)
  | .retryDelay t => decide (1 ≤ t ∧ t ≤ 255)
  | .policy code => (FailPolicy.ofCode code).isSome
  | .dwell ms => decide (1 ≤ ms ∧ ms ≤ 100)
  | .window p => decide (1 ≤ p ∧ p ≤ 10)
  | .slew rate => decide (1 ≤ rate ∧ rate ≤ 100)
  | .order code => (RailOrder.ofCode code).isSome
  | .laneMap entries => (laneMapOf entries).isSome
  | .phases _ => true
  | .devLimit n => decide (1 ≤ n ∧ n ≤ 15)
  | .readout => true
  | .unknown _ => false

/-- An item sets a rail setpoint to off (R19). -/
def stageSetsOff : StageItem → Bool
  | .vcore 0 | .vio 0 => true
  | _ => false

/-- A setpoint of an item lies above its maximum (R19). -/
def stageLowered (c : SlotCtl) : StageItem → Bool
  | .vcore mv => decide (c.setpointMax .vcore < mv)
  | .vio mv => decide (c.setpointMax .vio < mv)
  | _ => false

def stageUnknown : StageItem → Bool
  | .unknown _ => true
  | _ => false

/-- An item written into a copy of the settings (R19). -/
def stageItem (c : SlotCtl) (t : Settings) : StageItem → Settings
  | .vcore mv => { t with vcore := min (c.setpointMax .vcore) mv }
  | .vio mv => { t with vio := min (c.setpointMax .vio) mv }
  | .fullScale ma => { t with fullScale := ma }
  | .currentLimit code => { t with currentLimit := code }
  | .strikeLimit n => { t with strikeLimit := n }
  | .retryDelay d => { t with retryDelay := d }
  | .policy code => { t with policy := (FailPolicy.ofCode code).getD t.policy }
  | .dwell ms => { t with dwell := ms }
  | .window p => { t with window := p }
  | .slew rate => { t with slew := rate }
  | .order code => { t with order := (RailOrder.ofCode code).getD t.order }
  | .laneMap entries => { t with laneMap := (laneMapOf entries).getD t.laneMap }
  | .phases packed => { t with phases := phasesOf packed }
  | .devLimit n => { t with devLimit := n }
  | .readout | .unknown _ => t

/-- Contents of a BOARD-STAGE reply: both copies in full, active then staged (R19, log entry 19). -/
def stageReply (c : SlotCtl) : List Byte := settingsBytes c.active ++ settingsBytes c.staged

/-- R19: the request of a slot that is neither EMPTY nor in IDENT. -/
def stageItems (k : Slot) (items : List StageItem) (s : State) : Served :=
  let c := s.slot k
  if (items.all stageInRange) = false then answer s .refusedRange
  else if c.board.checked && items.any stageSetsOff then answer s .refusedState
  else
    let s1 := s.setSlot k { c with staged := items.foldl (stageItem c) c.staged }
    reply s1 (if items.any (stageLowered c) then .clamped else .ok) (stageReply (s1.slot k))

/-- BOARD-STAGE (R19, section 12.3). The division into items comes first, and an unknown item code ends it
(log entry 20). -/
def serveBoardStage (slot : Nat) (items : List StageItem) (s : State) : Served :=
  let whole := items.takeWhile fun i => !stageUnknown i
  if items.length = 0 ∨ 15 < whole.length then answer s .refusedLength
  else if whole.length < items.length then answer s .refusedRange
  else
    withSlot s slot fun k =>
      match (s.slot k).board with
      | .empty => answer s .noBoard
      | .ident => answer s .refusedState
      | .present | .ramping | .powered | .draining | .tripped => stageItems k items s

/-- BOARD-STAGE (kind 12h, R19). -/
def execBoardStage (slot : Nat) (items : List StageItem) (s : State) : Host.Outcome State Fault Refusal :=
  .next (takeRequest 0x12 (serveBoardStage slot items) s)

/-- R39: BOARD-APPLY of a slot that is neither EMPTY nor in IDENT. -/
def applyBoard (k : Slot) (s : State) : Served :=
  let c := s.slot k
  if c.board.checked = true ∧ (c.staged.vcore = 0 ∨ c.staged.vio = 0) then answer s .refusedState
  else if c.applyDeferred then answer s .deferred
  else if (s.channel k).state = .burst then
    answer (s.setSlot k { c with applyDeferred := true }) .deferred
  else answer (takeApply k s) .ok

/-- BOARD-APPLY (R39). -/
def serveBoardApply (slot : Nat) (s : State) : Served :=
  withSlot s slot fun k =>
    match (s.slot k).board with
    | .empty => answer s .noBoard
    | .ident => answer s .refusedState
    | .present | .ramping | .powered | .draining | .tripped => applyBoard k s

/-- BOARD-APPLY (kind 13h, R39). -/
def execBoardApply (slot : Nat) (s : State) : Host.Outcome State Fault Refusal :=
  .next (takeRequest 0x13 (serveBoardApply slot) s)

end Sys2Proof.Machine
end

