-- ==== Sys2Proof/Machine/Sockets.lean ====
section
/-!
DEFINITION. Commands of the sockets: SOCKET-SET in its three actions, SOCKET-STATUS, the switch-fault input
and the retry expiry (chapter 2).
-/

namespace Sys2Proof.Machine

/-- MASK of one socket (R36). -/
def maskSocket (k : Slot) (i : Socket) (s : State) : State :=
  match (s.socket k i).power with
  | .on | .off | .tripWait => setPower k i .masked none s
  | .masked | .quarantined => s

/-- UNMASK of one socket (R36); the socket count is that in force (log entry 28). -/
def unmaskSocket (k : Slot) (i : Socket) (s : State) : State :=
  if (s.socket k i).power = .masked ∧ i.val < (s.slot k).countInForce then
    let s1 := setPower k i .off none s
    if (s1.slot k).board = .powered then switchOn k i s1 else s1
  else s

/-- R141: the account unit's part of a REINSTATE. -/
def AcctRecord.reinstate (r : AcctRecord) : AcctRecord :=
  { r with verdict := .good, first := none, loggedQuarantine := false, loggedFunctional := false
           loggedProfile := false }

/-- The REINSTATED detail: the cause of the first-failure record removed, or NONE (R141, R191). -/
def AcctRecord.reinstateDetail (r : AcctRecord) : List Byte :=
  match r.first with
  | some f => u8 f.cause.logCause.code
  | none => u8 noneCode

/-- REINSTATE of one socket (R37, R141). -/
def reinstateSocket (k : Slot) (i : Socket) (s : State) : State :=
  let r := s.record k i
  let s1 := appendSocket k i .reinstated r.reinstateDetail (s.setRecord k i r.reinstate)
  let c := s1.compare k
  let s2 := s1.setCompare k { c with devStrikes := c.devStrikes.set i 0 }
  let s3 := s2.setSocket k i { s2.socket k i with strikes := 0 }
  let s4 := match (s3.socket k i).power with
    | .quarantined | .tripWait => setPower k i .off none s3
    | .masked | .off | .on => s3
  if (s4.slot k).board = .powered then switchOn k i s4 else s4

/-- The checks of SOCKET-SET before its action (R36, R187): the length of the list, the slot, the board and
the numbers. -/
def socketSetChecks (slot : Nat) (sockets : List Nat) (s : State) (f : Slot → Served) : Served :=
  if sockets.length = 0 ∨ 32 < sockets.length then answer s .refusedLength
  else withSlot s slot fun k =>
    match (s.slot k).board with
    | .empty => answer s .noBoard
    | .ident => answer s .refusedState
    | .present | .ramping | .powered | .draining | .tripped => f k

/-- SOCKET-SET: the action on each listed socket in list order, and the power states after it (R36). -/
def serveSocketSet (act : Slot → Socket → State → State) (slot : Nat) (sockets : List Nat) (s : State) :
    Served :=
  socketSetChecks slot sockets s fun k =>
    if sockets.any (fun n => decide (31 < n)) then answer s .refusedRange
    else
      let s1 := forSockets (sockets.map socketOf) (act k) s
      reply s1 .ok (sockets.flatMap fun n => u8 (s1.socket k (socketOf n)).power.code)

def serveSocketSetMask (slot : Nat) (sockets : List Nat) (s : State) : Served :=
  serveSocketSet maskSocket slot sockets s

def serveSocketSetUnmask (slot : Nat) (sockets : List Nat) (s : State) : Served :=
  serveSocketSet unmaskSocket slot sockets s

def serveSocketSetReinstate (slot : Nat) (sockets : List Nat) (s : State) : Served :=
  serveSocketSet reinstateSocket slot sockets s

/-- A SOCKET-SET whose action code names none of the three actions (R36). -/
def serveSocketSetOther (slot : Nat) (sockets : List Nat) (s : State) : Served :=
  socketSetChecks slot sockets s fun _ => answer s .refusedRange

/-- SOCKET-STATUS (R38, section 12.3): at most the first 23 listed sockets. -/
def serveSocketStatus (slot : Nat) (sockets : List Nat) (s : State) : Served :=
  if sockets.length = 0 ∨ 32 < sockets.length then answer s .refusedLength
  else withSlot s slot fun k =>
    if (s.slot k).board = .empty then answer s .noBoard
    else if sockets.any (fun n => decide (31 < n)) then answer s .refusedRange
    else
      let carried := (sockets.map socketOf).take 23
      reply s .ok (u8 carried.length ++ carried.flatMap fun i =>
        socketStatusBytes ((s.scanner k).records.get i) (s.socket k i) (s.record k i).verdict)

/-- SOCKET-SET MASK (kind 15h, R36). -/
def execSocketSetMask (slot : Nat) (sockets : List Nat) (s : State) : Host.Outcome State Fault Refusal :=
  .next (takeRequest 0x15 (serveSocketSetMask slot sockets) s)

/-- SOCKET-SET UNMASK (kind 15h, R36). -/
def execSocketSetUnmask (slot : Nat) (sockets : List Nat) (s : State) : Host.Outcome State Fault Refusal :=
  .next (takeRequest 0x15 (serveSocketSetUnmask slot sockets) s)

/-- SOCKET-SET REINSTATE (kind 15h, R37). -/
def execSocketSetReinstate (slot : Nat) (sockets : List Nat) (s : State) : Host.Outcome State Fault Refusal :=
  .next (takeRequest 0x15 (serveSocketSetReinstate slot sockets) s)

/-- SOCKET-STATUS (kind 16h, R38). -/
def execSocketStatus (slot : Nat) (sockets : List Nat) (s : State) : Host.Outcome State Fault Refusal :=
  .next (takeRequest 0x16 (serveSocketStatus slot sockets) s)

/-- The level of a switch-fault input (log entry 25). -/
def setSwitchFault (k : Slot) (i : Socket) (active : Bool) (s : State) : State :=
  { s with lines.switchFault := s.lines.switchFault.set k ((s.lines.switchFault.get k).set i active) }

/-- SWITCH_FAULT (R32): the input changes level; becoming active, it trips an ON socket. -/
def execSwitchFault (k : Slot) (i : Socket) (active : Bool) (s : State) : Host.Outcome State Fault Refusal :=
  let s1 := setSwitchFault k i active s
  .next (if active then whenRunning (tripSocket k i .switchFault []) s1 else s1)

/-- R34: a socket leaves TRIP-WAIT at its retry's expiry. -/
def retryExpired (k : Slot) (i : Socket) (s : State) : State :=
  if (s.socket k i).power = .tripWait ∧ Timer.due (s.socket k i).retry = true then
    let s1 := setPower k i .off none s
    if (s1.slot k).board = .powered then switchOn k i s1 else s1
  else s

/-- RETRY_EXPIRY (R34). -/
def execRetryExpiry (k : Slot) (i : Socket) (s : State) : Host.Outcome State Fault Refusal :=
  .next (whenRunning (retryExpired k i) s)

end Sys2Proof.Machine
end

