-- ==== Sys2Proof/Machine/Thermal.lean ====
section
/-!
DEFINITION. The zone thermal controller: sensors, SAFE, the setpoint and the loop, and its requests
(chapter 7).
-/

namespace Sys2Proof.Machine

/-! ## Outputs -/

/-- R117: heater duty, fan duty and HEAT-EN from the zone state and the loop output. -/
def Zone.drive (z : Zone) : Zone :=
  let fan := max z.tuning.fanFloor (-z.output)
  match z.state with
  | .idle => { z with heater := 0, fan := z.tuning.fanFloor, heatEn := false }
  | .ramp | .settle | .soak => { z with heater := max z.output 0, fan := fan, heatEn := true }
  | .cool => { z with heater := 0, fan := fan, heatEn := false }
  | .safe => { z with heater := 0, fan := 1000, heatEn := false }

/-! ## SAFE -/

/-- R123: the controller's own fields at SAFE entry. -/
def Zone.enterSafe (z : Zone) (cause : SafeCause) : Zone :=
  ({ z with state := .safe, safeCause := some cause, integ := 0, settleCount := 0, excCount := 0, output := 0
            safeLine := true } : Zone).drive

/-- R123, R124: SAFE entry with its cause and the detail of its entry. -/
def safeEntry (cause : SafeCause) (detail : List Byte) (s : State) : State :=
  let s1 := forSlots (lockOut false) { s with zone := s.zone.enterSafe cause }
  raiseSource .zone (appendZone .zoneSafe (u8 cause.code ++ detail) s1)

/-! ## Sensors -/

/-- R106: one reading of an air sensor. -/
def SensorRecord.read (r : SensorRecord) (reading : Option Int) : SensorRecord :=
  match reading with
  | none => { r with valid := false, faults := satInc 3 r.faults }
  | some t =>
    if tempInRange t then ⟨t, true, 0⟩ else ⟨clampTemp t, false, satInc 3 r.faults⟩

/-- R107: the control temperature. -/
def selectControl (p q : SensorRecord) : Option ControlTemp :=
  if p.valid then some ⟨p.temp, .primary⟩ else if q.valid then some ⟨q.temp, .secondary⟩ else none

/-- R106, R107: the readings of an interval. -/
def Zone.readSensors (z : Zone) (primary secondary : Option Int) : Zone :=
  let p := z.primary.read primary
  let q := z.secondary.read secondary
  { z with primary := p, secondary := q, control := selectControl p q
           lastValid := match selectControl p q with
             | some c => some c.temp
             | none => z.lastValid }

/-- A valid reading at or above the zone cutoff (R109). -/
def SensorRecord.atCutoff (r : SensorRecord) (cutoff : Int) : Bool := r.valid && decide (cutoff ≤ r.temp)

/-- R109: the SAFE cause of an interval, with the sensor and reading of AIR-OVERTEMP (R123). -/
def Zone.safeCheck (z : Zone) : Option (SafeCause × List Byte) :=
  if z.primary.atCutoff z.tuning.zoneCutoff then some (.airOvertemp, u8 0 ++ s16 z.primary.temp)
  else if z.secondary.atCutoff z.tuning.zoneCutoff then some (.airOvertemp, u8 1 ++ s16 z.secondary.temp)
  else if z.primary.faults = 3 ∧ z.secondary.faults = 3 then some (.sensorsLost, [])
  else none

/-- A change to the zone that may raise ZONE. -/
def raiseIf (b : Bool) (s : State) : State := if b then raiseSource .zone s else s

/-- R108: the comparison of the sensors; the truth value tells whether ZONE is raised. -/
def Zone.compareSensors (z : Zone) : Zone × Bool :=
  if z.primary.valid && z.secondary.valid then
    if 80 < (z.primary.temp - z.secondary.temp).natAbs then
      let n := satInc 10 z.discCount
      ({ z with discCount := n, discNote := z.discNote || decide (n = 10) }, decide (n = 10) && !z.discNote)
    else ({ z with discCount := 0, discNote := false }, false)
  else ({ z with discCount := 0 }, false)

/-! ## Setpoint and loop -/

/-- R111: a value moves toward a target by the ramp rate, and lands on it. -/
def approach (rate start target : Int) : Int :=
  if (target - start).natAbs ≤ rate.toNat then target
  else if start < target then start + rate else start - rate

/-- R111, R114: the ramp step of an interval. -/
def Zone.rampStep (z : Zone) : Zone :=
  match z.state, z.effective, z.target with
  | .ramp, some e, some t =>
    let e1 := approach z.rampRate e t
    if e1 = t then { z with effective := some e1, state := .settle, settleCount := 0 }
    else { z with effective := some e1 }
  | .cool, some e, _ =>
    if z.tuning.coolTarget < e then { z with effective := some (approach z.rampRate e z.tuning.coolTarget) }
    else z
  | _, _, _ => z

/-- A value held within limits. -/
def clampInt (lo hi x : Int) : Int := max lo (min hi x)

/-- R116: the loop's integrator and output for an error. -/
def loopStep (t : Tuning) (integ e : Int) : Int × Int :=
  let candidate := integ + t.ki * e
  let u := (t.kp * e).tdiv 256 + candidate.tdiv 4096
  let dropped := (1000 < u ∧ 0 < e) ∨ (u < -1000 ∧ e < 0)
  (if dropped then integ else candidate, clampInt (-1000) 1000 u)

/-- R116 to R118: the loop and the outputs of an interval. In an interval whose control temperature is absent
the output counts as 0 (log entry 17). -/
def Zone.loop (z : Zone) : Zone :=
  match z.state with
  | .idle | .safe => z.drive
  | .ramp | .settle | .soak | .cool =>
    match z.control, z.effective with
    | some c, some eff =>
      let r := loopStep z.tuning z.integ (clampInt (-4000) 4000 (eff - c.temp))
      ({ z with integ := r.1, output := r.2 } : Zone).drive
    | _, _ => ({ z with output := 0 } : Zone).drive

/-- The control temperature is present and within the band of the target (R112, R113). -/
def Zone.inBand (z : Zone) : Bool :=
  match z.control, z.target with
  | some c, some t => decide ((c.temp - t).natAbs ≤ z.tuning.band.toNat)
  | _, _ => false

/-- R112: the settle count. -/
def Zone.settle (z : Zone) : Zone × Bool :=
  if z.inBand then
    let n := satInc 3600 z.settleCount
    if z.tuning.settleTime ≤ (n : Int) then
      ({ z with settleCount := n, state := .soak, excCount := 0 }, true)
    else ({ z with settleCount := n }, false)
  else ({ z with settleCount := 0 }, false)

/-- R113: the excursion count. -/
def Zone.soak (z : Zone) : Zone × Bool :=
  match z.control with
  | none => (z, false)
  | some _ =>
    if z.inBand then ({ z with excCount := 0 }, false)
    else
      let n := satInc 30 z.excCount
      if n = 30 then ({ z with excCount := n, state := .settle, settleCount := 0, excNote := true }, true)
      else ({ z with excCount := n }, false)

/-- R114: the end of COOL. -/
def Zone.coolEnd (z : Zone) : Zone :=
  match z.control with
  | some c =>
    if c.temp ≤ z.tuning.coolTarget then
      ({ z with state := .idle, integ := 0, output := 0 } : Zone).drive
    else z
  | none => z

/-- R112 to R114: what follows the loop. -/
def Zone.afterLoop (z : Zone) : Zone × Bool :=
  match z.state with
  | .settle => z.settle
  | .soak => z.soak
  | .cool => (z.coolEnd, false)
  | .idle | .ramp | .safe => (z, false)

/-- R108, R111 to R118: the interval's work once no SAFE condition holds. -/
def zoneWork (s : State) : State :=
  let d := s.zone.compareSensors
  let a := d.1.rampStep.loop.afterLoop
  raiseIf (d.2 || a.2) { s with zone := a.1 }

/-- R106 to R109: a control interval. -/
def controlInterval (primary secondary : Option Int) (s : State) : State :=
  if Timer.due s.zone.interval then
    let z := s.zone.readSensors primary secondary
    let s1 := { s with zone := { z with interval := some 1 } }
    match s1.zone.state, s1.zone.safeCheck with
    | .safe, _ => zoneWork s1
    | _, some c => safeEntry c.1 c.2 s1
    | _, none => zoneWork s1
  else s

/-- CONTROL_INTERVAL (R106). -/
def execControlInterval (primary secondary : Option Int) (s : State) : Host.Outcome State Fault Refusal :=
  .next (whenRunning (controlInterval primary secondary) s)

/-! ## Requests -/

/-- R110: RAMP entry; the output counts as 0 until the next loop output (R117). -/
def Zone.enterRamp (z : Zone) (target rate : Int) (effective : Option Int) : Zone :=
  ({ z with state := .ramp, target := some target, rampRate := rate, effective := effective, output := 0
            settleCount := 0, excCount := 0 } : Zone).drive

/-- ZONE-SETPOINT (R110). -/
def serveZoneSetpoint (target : Int) (rate : Nat) (s : State) : Served :=
  let z := s.zone
  if z.state = .safe then answer s .refusedSafe
  else if tempInRange target = false ∨ rate = 0 ∨ 160 < rate then answer s .refusedRange
  else
    let limit := z.tuning.zoneCutoff - 80
    let t := min limit target
    let effective := if z.state = .idle then z.lastValid else z.effective
    if z.state = .idle ∧ z.lastValid = none then answer s .refusedState
    else
      reply { s with zone := z.enterRamp t rate effective } (if limit < target then .clamped else .ok) (s16 t)

/-- ZONE-SETPOINT (kind 03h, R110). -/
def execZoneSetpoint (target : Int) (rate : Nat) (s : State) : Host.Outcome State Fault Refusal :=
  .next (takeRequest 0x03 (serveZoneSetpoint target rate) s)

/-- A tuning value is in its range (R115); a code above 9 names none (log entry 21). -/
def tuneInRange (i : TuneItem) : Bool :=
  let between (lo hi : Int) : Bool := decide (lo ≤ i.value ∧ i.value ≤ hi)
  match i.code with
  | 0 => between 0 2000
  | 1 => between 0 500
  | 2 => between 8 160
  | 3 => between 10 3600
  | 4 => between 0 1000
  | 5 => between 960 3360
  | 6 => between 640 3200
  | 7 => between (-640) 3200
  | 8 => between 8 320
  | 9 => between 320 1600
  | _ => false

/-- A tuning value written (R115). -/
def tuneItem (t : Tuning) (i : TuneItem) : Tuning :=
  match i.code with
  | 0 => { t with kp := i.value }
  | 1 => { t with ki := i.value }
  | 2 => { t with band := i.value }
  | 3 => { t with settleTime := i.value }
  | 4 => { t with fanFloor := i.value }
  | 5 => { t with zoneCutoff := i.value }
  | 6 => { t with socketCutoff := i.value }
  | 7 => { t with throttle := i.value }
  | 8 => { t with hysteresis := i.value }
  | 9 => { t with coolTarget := i.value }
  | _ => t

/-- A zone cutoff below the target plus 80 (R115). -/
def cutoffTooLow (z : Zone) (i : TuneItem) : Bool :=
  match z.target with
  | some t => decide (i.code = 5) && decide (i.value < t + 80)
  | none => false

/-- ZONE-TUNE (R115). -/
def serveZoneTune (items : List TuneItem) (s : State) : Served :=
  if 10 < items.length then answer s .refusedLength
  else if (items.all tuneInRange) = false then answer s .refusedRange
  else if items.any (cutoffTooLow s.zone) then answer s .refusedState
  else
    let t := items.foldl tuneItem s.zone.tuning
    reply { s with zone.tuning := t } .ok (tuningBytes t)

/-- ZONE-TUNE (kind 04h, R115). -/
def execZoneTune (items : List TuneItem) (s : State) : Host.Outcome State Fault Refusal :=
  .next (takeRequest 0x04 (serveZoneTune items) s)

/-- ZONE-COOL (R114). -/
def serveZoneCool (s : State) : Served :=
  match s.zone.state with
  | .safe => answer s .refusedSafe
  | .idle | .cool => answer s .ok
  | .ramp | .settle | .soak => answer { s with zone := ({ s.zone with state := .cool } : Zone).drive } .ok

/-- ZONE-COOL (kind 05h, R114). -/
def execZoneCool (s : State) : Host.Outcome State Fault Refusal := .next (takeRequest 0x05 serveZoneCool s)

/-- ZONE-ABORT (R123, R125). -/
def serveZoneAbort (s : State) : Served :=
  if s.zone.state = .safe then answer s .ok else answer (safeEntry .hostAbort [] s) .ok

/-- ZONE-ABORT (kind 06h, R125). -/
def execZoneAbort (s : State) : Host.Outcome State Fault Refusal := .next (takeRequest 0x06 serveZoneAbort s)

/-- Contents of a ZONE-STATUS reply (R126). -/
def zoneStatusReply (z : Zone) : List Byte :=
  u8 z.state.code ++ optional 1 (fun c : SafeCause => u8 c.code) z.safeCause
    ++ optional 2 s16 z.target ++ u8 z.rampRate.toNat ++ optional 2 s16 z.effective
    ++ sensorBytes z.primary ++ sensorBytes z.secondary ++ optional 3 controlBytes z.control
    ++ optional 2 s16 z.lastValid
    ++ s32 z.integ ++ u16 z.heater.toNat ++ u16 z.fan.toNat ++ flag z.heatEn ++ flag z.safeLine
    ++ u16 z.settleCount ++ u8 z.excCount ++ flag z.discNote ++ flag z.excNote
    ++ Slot.all.flatMap (fun k => throttleBytes (z.throttle.get k))

/-- ZONE-STATUS (R126). -/
def serveZoneStatus (s : State) : Served :=
  reply { s with zone.excNote := false } .ok (zoneStatusReply s.zone)

/-- ZONE-STATUS (kind 07h, R126). -/
def execZoneStatus (s : State) : Host.Outcome State Fault Refusal := .next (takeRequest 0x07 serveZoneStatus s)

end Sys2Proof.Machine
end

