-- ==== Sys2Proof/Machine/Link.lean ====
section
/-!
DEFINITION. The link controller: the receiver, the request catalogue read from a frame's payload, and the
transmitter (chapter 12).
-/

namespace Sys2Proof.Machine

/-! ## Fields of a payload -/

def byteAt (p : List Byte) (i : Nat) : Nat := (p.getD i 0).toNat

/-- Two bytes, least significant first (R185). -/
def wordAt (p : List Byte) (i : Nat) : Nat := byteAt p i + 256 * byteAt p (i + 1)

/-- A signed number of two bytes (R185). -/
def signedAt (p : List Byte) (i : Nat) : Int :=
  if wordAt p i < 32768 then (wordAt p i : Int) else (wordAt p i : Int) - 65536

/-- Groups of `n` bytes, for a payload whose length is a multiple of `n`. -/
def groups (n : Nat) : Nat → List Byte → List (List Byte)
  | 0, _ => []
  | fuel + 1, p => if p = [] then [] else p.take n :: groups n fuel (p.drop n)

/-- A payload of the one length the catalogue gives (R187, check 2). -/
def ofLength (n : Nat) (p : List Byte) (f : State → Served) (s : State) : Served :=
  if p.length = n then f s else answer s .refusedLength

/-! ## Requests with lists -/

def tuneOf (g : List Byte) : TuneItem := ⟨byteAt g 0, signedAt g 1⟩

def breakpointOf (g : List Byte) : Breakpoint := ⟨signedAt g 0, wordAt g 2⟩

def rawVectorOf (g : List Byte) : RawVector := ⟨BitVec.ofNat 16 (wordAt g 0), g.getD 2 0⟩

/-- Bytes of the value of a stage item, by its code (section 12.3). -/
def stageWidth (code : Nat) : Nat :=
  match code with
  | 0 | 1 | 2 => 2
  | 11 => 32
  | 14 => 0
  | _ => 1

/-- A stage item from its code and its value's bytes. -/
def stageItemOf (code : Nat) (v : List Byte) : StageItem :=
  match code with
  | 0 => .vcore (wordAt v 0)
  | 1 => .vio (wordAt v 0)
  | 2 => .fullScale (wordAt v 0)
  | 3 => .currentLimit (byteAt v 0)
  | 4 => .strikeLimit (byteAt v 0)
  | 5 => .retryDelay (byteAt v 0)
  | 6 => .policy (byteAt v 0)
  | 7 => .dwell (byteAt v 0)
  | 8 => .window (byteAt v 0)
  | 9 => .slew (byteAt v 0)
  | 10 => .order (byteAt v 0)
  | 11 => .laneMap (Table.ofFn fun l => (byteAt v (2 * l.val), byteAt v (2 * l.val + 1)))
  | 12 => .phases (byteAt v 0)
  | 13 => .devLimit (byteAt v 0)
  | 14 => .readout
  | c => .unknown c

/-- The payload divided into items from its start; an unknown code ends the division, and `none` tells that
the last item is not whole (section 12.3). -/
def divideItems : Nat → List Byte → Option (List StageItem)
  | _, [] => some []
  | 0, _ :: _ => none
  | fuel + 1, code :: rest =>
    let c := code.toNat
    if 14 < c then some [.unknown c]
    else if rest.length < stageWidth c then none
    else (divideItems fuel (rest.drop (stageWidth c))).map fun t => stageItemOf c (rest.take (stageWidth c)) :: t

/-- BOARD-STAGE from its payload. -/
def stageFrame (p : List Byte) (s : State) : Served :=
  match p with
  | [] => answer s .refusedLength
  | slot :: rest =>
    match divideItems rest.length rest with
    | some items => serveBoardStage slot.toNat items s
    | none => answer s .refusedLength

/-- A list of socket numbers. -/
def socketNumbers (p : List Byte) : List Nat := p.map fun b => b.toNat

/-- SOCKET-SET from its payload (R36). -/
def socketSetFrame (p : List Byte) (s : State) : Served :=
  match p with
  | slot :: action :: list =>
    match action.toNat with
    | 0 => serveSocketSetMask slot.toNat (socketNumbers list) s
    | 1 => serveSocketSetUnmask slot.toNat (socketNumbers list) s
    | 2 => serveSocketSetReinstate slot.toNat (socketNumbers list) s
    | _ => serveSocketSetOther slot.toNat (socketNumbers list) s
  | _ => answer s .refusedLength

/-- SOCKET-STATUS from its payload (R38). -/
def socketStatusFrame (p : List Byte) (s : State) : Served :=
  match p with
  | slot :: list => serveSocketStatus slot.toNat (socketNumbers list) s
  | [] => answer s .refusedLength

/-- PATTERN-LOAD from its payload (R58). -/
def patternLoadFrame (p : List Byte) (s : State) : Served :=
  if p.length < 2 ∨ (p.length - 2) % 3 ≠ 0 then answer s .refusedLength
  else servePatternLoad (wordAt p 0) ((groups 3 p.length (p.drop 2)).map rawVectorOf) s

/-- The profile of a WRITE of 20 bytes (R60). -/
def profileOf (p : List Byte) : Option Profile :=
  if p.length = 20 then some ⟨Table.ofFn fun i => byteAt p (10 + i.val), wordAt p 18⟩ else none

/-- PATTERN-DEFINE from its payload (R60, R61, R190). A length that does not match the form is refused before
the record number is looked at (log entry 40). -/
def patternDefineFrame (p : List Byte) (s : State) : Served :=
  if p.length = 2 ∨ p.length = 10 ∨ p.length = 20 then
    match byteAt p 1 with
    | 0 =>
      if p.length = 2 then answer s .refusedLength
      else
        servePatternDefineWrite (byteAt p 0) (wordAt p 2) (wordAt p 4) (wordAt p 6) (wordAt p 8) (profileOf p) s
    | 1 => ofLength 2 p (servePatternDefineClear (byteAt p 0)) s
    | 2 => ofLength 2 p (servePatternDefineQuery (byteAt p 0)) s
    | _ => answer s .refusedRange
  else answer s .refusedLength

/-- BURST-CONFIG from its payload (R75, R190); its form and length come before the slot byte (log entry 40). -/
def burstConfigFrame (p : List Byte) (s : State) : Served :=
  if p.length = 2 ∨ p.length = 8 then
    match byteAt p 1 with
    | 0 =>
      ofLength 8 p
        (serveBurstConfigSet (byteAt p 0) (byteAt p 2) (byteAt p 3) (wordAt p 4) (wordAt p 6)) s
    | 1 => ofLength 2 p (serveBurstConfigQuery (byteAt p 0)) s
    | _ => serveBurstConfigOther (byteAt p 0) s
  else answer s .refusedLength

/-- ZONE-TUNE from its payload (R115). -/
def zoneTuneFrame (p : List Byte) (s : State) : Served :=
  if p.length % 3 ≠ 0 then answer s .refusedLength
  else serveZoneTune ((groups 3 p.length p).map tuneOf) s

/-- ACCEL-TABLE-LOAD from its payload (R130). -/
def accelFrame (p : List Byte) (s : State) : Served :=
  if p.length % 4 ≠ 0 then answer s .refusedLength
  else serveAccelTableLoad ((groups 4 p.length p).map breakpointOf) s

/-! ## The catalogue -/

/-- Contents of an IDENTIFY reply (R189). -/
def identifyReply (c : Clock) : List Byte := u16 0x3C72 ++ u16 0x0128 ++ u8 1 ++ u8 240 ++ u8 c.outcome.code

/-- IDENTIFY (R189). -/
def serveIdentify (s : State) : Served := reply s .ok (identifyReply s.clock)

/-- IDENTIFY (kind 01h, R189). -/
def execIdentify (s : State) : Host.Outcome State Fault Refusal := .next (takeRequest 0x01 serveIdentify s)

/-- R187, R190: the request a kind names, read from its payload; any other kind is answered REFUSED-KIND. -/
def serveFrame (kind : Byte) (p : List Byte) : State → Served :=
  match kind.toNat with
  | 0x01 => ofLength 0 p serveIdentify
  | 0x02 => ofLength 0 p serveZoneReset
  | 0x03 => ofLength 3 p (serveZoneSetpoint (signedAt p 0) (byteAt p 2))
  | 0x04 => zoneTuneFrame p
  | 0x05 => ofLength 0 p serveZoneCool
  | 0x06 => ofLength 0 p serveZoneAbort
  | 0x07 => ofLength 0 p serveZoneStatus
  | 0x10 => ofLength 1 p (serveBoardPowerUp (byteAt p 0))
  | 0x11 => ofLength 1 p (serveBoardPowerDown (byteAt p 0))
  | 0x12 => stageFrame p
  | 0x13 => ofLength 1 p (serveBoardApply (byteAt p 0))
  | 0x14 => ofLength 1 p (serveBoardStatus (byteAt p 0))
  | 0x15 => socketSetFrame p
  | 0x16 => socketStatusFrame p
  | 0x20 => patternLoadFrame p
  | 0x21 => patternDefineFrame p
  | 0x22 => burstConfigFrame p
  | 0x23 => ofLength 1 p (serveExerciseStart (byteAt p 0))
  | 0x24 => ofLength 1 p (serveExerciseStop (byteAt p 0))
  | 0x25 => ofLength 1 p (serveBurstTrigger (byteAt p 0))
  | 0x30 => accelFrame p
  | 0x31 => ofLength 4 p (serveWeightsSet (wordAt p 0) (wordAt p 2))
  | 0x32 => ofLength 0 p serveAccountSnapshot
  | 0x33 => ofLength 1 p (serveAccountRead (byteAt p 0))
  | 0x34 => ofLength 0 p serveSnapshotRelease
  | 0x35 => ofLength 1 p (serveAccountClear (byteAt p 0))
  | 0x40 => ofLength 3 p (serveLogRead (wordAt p 0) (byteAt p 2))
  | 0x41 => ofLength 2 p (serveLogRetire (wordAt p 0))
  | 0x42 => ofLength 0 p serveLogStatus
  | 0x50 => ofLength 2 p (serveAlertMask (p.getD 0 0) (p.getD 1 0))
  | 0x51 => ofLength 2 p (serveAlertConfig (byteAt p 0) (byteAt p 1))
  | 0x52 => ofLength 0 p serveAlertPoll
  | 0x53 => ofLength 1 p (serveAlertDone (byteAt p 0))
  | 0x60 => ofLength 0 p serveClockStatus
  | 0x61 => ofLength 0 p serveClockClear
  | _ => fun s => answer s .refusedKind

/-- A good frame whose last CRC byte arrives (R186, R187). -/
def takeFrame (kind : Byte) (payload : List Byte) (s : State) : State :=
  takeRequest kind (serveFrame kind payload) s

/-! ## The receiver -/

/-- R186: a frame discarded; the receiver is in HUNT for the next byte. -/
def discardFrame (s : State) : State := { s with link.rx := .hunt, link.buffer := [] }

/-- The kind byte has its top bit set (R186). -/
def topBit (kind : Byte) : Bool := kind.getLsbD 7

/-- UNKNOWN_KIND_REQUEST (R187): a frame whose kind names no request is answered REFUSED-KIND; one whose kind
has its top bit set is discarded (R186). -/
def execUnknownKindRequest (kind : Byte) (payload : List Byte) (s : State) :
    Host.Outcome State Fault Refusal :=
  .next (if topBit kind then whenRunning discardFrame s else takeFrame kind payload s)

/-- FRAME_DISCARDED (R186). -/
def execFrameDiscarded (s : State) : Host.Outcome State Fault Refusal := .next (whenRunning discardFrame s)

/-- RECEIVE_TIMEOUT (R186): more than 1 ms passes between two bytes of a frame. -/
def execReceiveTimeout (s : State) : Host.Outcome State Fault Refusal :=
  .next (whenRunning (fun s => if s.link.rx = .receiving then discardFrame s else s) s)

/-- R185, R186: the frame the buffer holds, taken where its CRC is good and its kind a request's. -/
def frameArrived (buffer : List Byte) (s : State) : State :=
  let n := byteAt buffer 1
  let body := (buffer.drop 1).take (2 + n)
  let kind := buffer.getD 2 0
  if (crc16 body).toNat = wordAt buffer (3 + n) ∧ topBit kind = false then
    takeFrame kind ((buffer.drop 3).take n) s
  else discardFrame s

/-- R186: a byte taken in RECEIVING; the moment a kind with its top bit set is found is a free value (log
entry 8). -/
def receiveByte (buffer : List Byte) (s : State) : State :=
  let s1 := { s with link.buffer := buffer }
  if buffer.length = 2 ∧ Config.maxPayload < byteAt buffer 1 then discardFrame s1
  else if buffer.length = 3 ∧ topBit (buffer.getD 2 0) = true ∧ Config.kindFoundAtOnce = true then discardFrame s1
  else if 3 ≤ buffer.length ∧ buffer.length = 5 + byteAt buffer 1 then frameArrived buffer s1
  else s1

/-- R186: a byte arrives. -/
def byteArrived (byte : Byte) (stopBit : Bool) (s : State) : State :=
  match s.link.rx with
  | .hunt =>
    if stopBit = true ∧ byte = 0xA5#8 then { s with link.rx := .receiving, link.buffer := [byte] } else s
  | .receiving => if stopBit then receiveByte (s.link.buffer ++ [byte]) s else discardFrame s

/-- BYTE_ARRIVAL (R186). -/
def execByteArrival (byte : Byte) (stopBit : Bool) (s : State) : Host.Outcome State Fault Refusal :=
  .next (whenRunning (byteArrived byte stopBit) s)

/-! ## The transmitter -/

/-- R188: the transmitter is free; a composed reply goes before an alert frame. -/
def sendNext (s : State) : State :=
  match s.link.sending, s.link.composed with
  | none, some f => { s with link.sending := some ⟨true, f⟩, link.composed := none }
  | _, _ => beginAlert s

/-- R186, R188: the last byte of a frame goes out. -/
def frameSent (s : State) : State :=
  match s.link.sending with
  | none => s
  | some f =>
    whenRunning sendNext { s with link.sending := none, link.owed := s.link.owed && !f.isReply }

/-- FRAME_SENT (R186, R188). -/
def execFrameSent (s : State) : Host.Outcome State Fault Refusal := .next (frameSent s)

/-- ALERT_FRAME (R167). -/
def execAlertFrame (s : State) : Host.Outcome State Fault Refusal := .next (whenRunning beginAlert s)

/-! ## Requests written as frames -/

/-- An item of BOARD-STAGE: its code and its value (section 12.3). -/
def stageItemBytes : StageItem → List Byte
  | .vcore v => u8 0 ++ u16 v
  | .vio v => u8 1 ++ u16 v
  | .fullScale v => u8 2 ++ u16 v
  | .currentLimit v => u8 3 ++ u8 v
  | .strikeLimit v => u8 4 ++ u8 v
  | .retryDelay v => u8 5 ++ u8 v
  | .policy v => u8 6 ++ u8 v
  | .dwell v => u8 7 ++ u8 v
  | .window v => u8 8 ++ u8 v
  | .slew v => u8 9 ++ u8 v
  | .order v => u8 10 ++ u8 v
  | .laneMap t => u8 11 ++ t.toList.flatMap fun e => u8 e.1 ++ u8 e.2
  | .phases v => u8 12 ++ u8 v
  | .devLimit v => u8 13 ++ u8 v
  | .readout => u8 14
  | .unknown c => u8 c

/-- The profile codes and deviation limit of a WRITE (R190). -/
def profileBytes (p : Profile) : List Byte := p.codes.toList.flatMap u8 ++ u16 p.limit

/-- R190: the kind and payload of a request; `none` for an event. -/
def requestFrame : Instr → Option Frame
  | .identify => some ⟨0x01, []⟩
  | .zoneReset => some ⟨0x02, []⟩
  | .zoneSetpoint t r => some ⟨0x03, s16 t ++ u8 r⟩
  | .zoneTune items => some ⟨0x04, items.flatMap fun i => u8 i.code ++ s16 i.value⟩
  | .zoneCool => some ⟨0x05, []⟩
  | .zoneAbort => some ⟨0x06, []⟩
  | .zoneStatus => some ⟨0x07, []⟩
  | .boardPowerUp k => some ⟨0x10, u8 k⟩
  | .boardPowerDown k => some ⟨0x11, u8 k⟩
  | .boardStage k items => some ⟨0x12, u8 k ++ items.flatMap stageItemBytes⟩
  | .boardApply k => some ⟨0x13, u8 k⟩
  | .boardStatus k => some ⟨0x14, u8 k⟩
  | .socketSetMask k l => some ⟨0x15, u8 k ++ u8 0 ++ l.flatMap u8⟩
  | .socketSetUnmask k l => some ⟨0x15, u8 k ++ u8 1 ++ l.flatMap u8⟩
  | .socketSetReinstate k l => some ⟨0x15, u8 k ++ u8 2 ++ l.flatMap u8⟩
  | .socketStatus k l => some ⟨0x16, u8 k ++ l.flatMap u8⟩
  | .patternLoad start vs => some ⟨0x20, u16 start ++ vs.flatMap fun v => u16 v.drive.toNat ++ [v.marks]⟩
  | .patternDefineWrite r a l p t prof =>
    some ⟨0x21, u8 r ++ u8 0 ++ u16 a ++ u16 l ++ u16 p ++ u16 t ++ (prof.map profileBytes).getD []⟩
  | .patternDefineClear r => some ⟨0x21, u8 r ++ u8 1⟩
  | .patternDefineQuery r => some ⟨0x21, u8 r ++ u8 2⟩
  | .burstConfigSet k p m n g => some ⟨0x22, u8 k ++ u8 0 ++ u8 p ++ u8 m ++ u16 n ++ u16 g⟩
  | .burstConfigQuery k => some ⟨0x22, u8 k ++ u8 1⟩
  | .exerciseStart k => some ⟨0x23, u8 k⟩
  | .exerciseStop k => some ⟨0x24, u8 k⟩
  | .burstTrigger k => some ⟨0x25, u8 k⟩
  | .accelTableLoad ps => some ⟨0x30, accelBytes ps⟩
  | .weightsSet a b => some ⟨0x31, u16 a ++ u16 b⟩
  | .accountSnapshot => some ⟨0x32, []⟩
  | .accountRead q => some ⟨0x33, u8 q⟩
  | .snapshotRelease => some ⟨0x34, []⟩
  | .accountClear k => some ⟨0x35, u8 k⟩
  | .logRead p n => some ⟨0x40, u16 p ++ u8 n⟩
  | .logRetire n => some ⟨0x41, u16 n⟩
  | .logStatus => some ⟨0x42, []⟩
  | .alertMask a b => some ⟨0x50, [a, b]⟩
  | .alertConfig p d => some ⟨0x51, u8 p ++ u8 d⟩
  | .alertPoll => some ⟨0x52, []⟩
  | .alertDone n => some ⟨0x53, u8 n⟩
  | .clockStatus => some ⟨0x60, []⟩
  | .clockClear => some ⟨0x61, []⟩
  | .unknownKindRequest kind payload => some ⟨kind, payload⟩
  | .frameDiscarded | .receiveTimeout | .frameSent | .alertFrame => none
  | .boardInserted _ | .boardRemoved _ | .identityAnswer _ _ _ | .identityTimeout _ => none
  | .settleLimitExpiry _ _ | .inrushDwellExpiry _ | .drainLimitExpiry _ => none
  | .switchFault _ _ _ | .retryExpiry _ _ => none
  | .conversionEnd _ _ | .riseHoldExpiry _ | .throttleFallExpiry _ => none
  | .vectorBoundary _ | .burstEnd _ | .gapExpiry _ | .sampleInstant _ _ _ => none
  | .controlInterval _ _ | .accountIntervalExpiry | .reference1ms | .reference1s => none
  | .holdoverDetection | .qualificationStart | .qualificationFail | .qualificationSuccess => none
  | .powerFailAssert _ | .resetAssert | .commitComplete | .resetRelease | .powerOnReset _ => none
  | .backupSupplyLoss | .retentionCheckEnd | .byteArrival _ _ | .powerLoss => none

/-- The bytes of a frame put in the queue as arrivals, each with its stop bit. -/
def arrivals (f : Frame) : List Instr := f.bytes.map fun b => .byteArrival b true

end Sys2Proof.Machine
end

