-- ==== Sys2Proof/Machine/Dispatch.lean ====
section
/-!
DEFINITION. The command table: one arm for each row of spec/opcode_table.json.
-/

namespace Sys2Proof.Machine

/-- What a command does to everything but the queue. -/
def exec (i : Instr) (s : State) : Host.Outcome State Fault Refusal :=
  match i with
  | .identify => Sys2Proof.Machine.execIdentify s
  | .zoneReset => Sys2Proof.Machine.execZoneReset s
  | .zoneSetpoint target rate => Sys2Proof.Machine.execZoneSetpoint target rate s
  | .zoneTune items => Sys2Proof.Machine.execZoneTune items s
  | .zoneCool => Sys2Proof.Machine.execZoneCool s
  | .zoneAbort => Sys2Proof.Machine.execZoneAbort s
  | .zoneStatus => Sys2Proof.Machine.execZoneStatus s
  | .boardPowerUp slot => Sys2Proof.Machine.execBoardPowerUp slot s
  | .boardPowerDown slot => Sys2Proof.Machine.execBoardPowerDown slot s
  | .boardStage slot items => Sys2Proof.Machine.execBoardStage slot items s
  | .boardApply slot => Sys2Proof.Machine.execBoardApply slot s
  | .boardStatus slot => Sys2Proof.Machine.execBoardStatus slot s
  | .socketSetMask slot sockets => Sys2Proof.Machine.execSocketSetMask slot sockets s
  | .socketSetUnmask slot sockets => Sys2Proof.Machine.execSocketSetUnmask slot sockets s
  | .socketSetReinstate slot sockets => Sys2Proof.Machine.execSocketSetReinstate slot sockets s
  | .socketStatus slot sockets => Sys2Proof.Machine.execSocketStatus slot sockets s
  | .patternLoad start vectors => Sys2Proof.Machine.execPatternLoad start vectors s
  | .patternDefineWrite record start length period tolerance profile => Sys2Proof.Machine.execPatternDefineWrite record start length period tolerance profile s
  | .patternDefineClear record => Sys2Proof.Machine.execPatternDefineClear record s
  | .patternDefineQuery record => Sys2Proof.Machine.execPatternDefineQuery record s
  | .burstConfigSet slot pattern mode passes gap => Sys2Proof.Machine.execBurstConfigSet slot pattern mode passes gap s
  | .burstConfigQuery slot => Sys2Proof.Machine.execBurstConfigQuery slot s
  | .exerciseStart slot => Sys2Proof.Machine.execExerciseStart slot s
  | .exerciseStop slot => Sys2Proof.Machine.execExerciseStop slot s
  | .burstTrigger slot => Sys2Proof.Machine.execBurstTrigger slot s
  | .accelTableLoad points => Sys2Proof.Machine.execAccelTableLoad points s
  | .weightsSet wEx wSt => Sys2Proof.Machine.execWeightsSet wEx wSt s
  | .accountSnapshot => Sys2Proof.Machine.execAccountSnapshot s
  | .accountRead page => Sys2Proof.Machine.execAccountRead page s
  | .snapshotRelease => Sys2Proof.Machine.execSnapshotRelease s
  | .accountClear slot => Sys2Proof.Machine.execAccountClear slot s
  | .logRead position count => Sys2Proof.Machine.execLogRead position count s
  | .logRetire count => Sys2Proof.Machine.execLogRetire count s
  | .logStatus => Sys2Proof.Machine.execLogStatus s
  | .alertMask toMask toUnmask => Sys2Proof.Machine.execAlertMask toMask toUnmask s
  | .alertConfig priority delivery => Sys2Proof.Machine.execAlertConfig priority delivery s
  | .alertPoll => Sys2Proof.Machine.execAlertPoll s
  | .alertDone source => Sys2Proof.Machine.execAlertDone source s
  | .clockStatus => Sys2Proof.Machine.execClockStatus s
  | .clockClear => Sys2Proof.Machine.execClockClear s
  | .unknownKindRequest kind payload => Sys2Proof.Machine.execUnknownKindRequest kind payload s
  | .frameDiscarded => Sys2Proof.Machine.execFrameDiscarded s
  | .receiveTimeout => Sys2Proof.Machine.execReceiveTimeout s
  | .frameSent => Sys2Proof.Machine.execFrameSent s
  | .alertFrame => Sys2Proof.Machine.execAlertFrame s
  | .boardInserted slot => Sys2Proof.Machine.execBoardInserted slot s
  | .boardRemoved slot => Sys2Proof.Machine.execBoardRemoved slot s
  | .identityAnswer slot identity descriptor => Sys2Proof.Machine.execIdentityAnswer slot identity descriptor s
  | .identityTimeout slot => Sys2Proof.Machine.execIdentityTimeout slot s
  | .settleLimitExpiry slot rail => Sys2Proof.Machine.execSettleLimitExpiry slot rail s
  | .inrushDwellExpiry slot => Sys2Proof.Machine.execInrushDwellExpiry slot s
  | .drainLimitExpiry slot => Sys2Proof.Machine.execDrainLimitExpiry slot s
  | .switchFault slot socket active => Sys2Proof.Machine.execSwitchFault slot socket active s
  | .retryExpiry slot socket => Sys2Proof.Machine.execRetryExpiry slot socket s
  | .conversionEnd slot reading => Sys2Proof.Machine.execConversionEnd slot reading s
  | .riseHoldExpiry slot => Sys2Proof.Machine.execRiseHoldExpiry slot s
  | .throttleFallExpiry slot => Sys2Proof.Machine.execThrottleFallExpiry slot s
  | .vectorBoundary slot => Sys2Proof.Machine.execVectorBoundary slot s
  | .burstEnd slot => Sys2Proof.Machine.execBurstEnd slot s
  | .gapExpiry slot => Sys2Proof.Machine.execGapExpiry slot s
  | .controlInterval primary secondary => Sys2Proof.Machine.execControlInterval primary secondary s
  | .accountIntervalExpiry => Sys2Proof.Machine.execAccountIntervalExpiry s
  | .reference1ms => Sys2Proof.Machine.execReference1ms s
  | .reference1s => Sys2Proof.Machine.execReference1s s
  | .holdoverDetection => Sys2Proof.Machine.execHoldoverDetection s
  | .qualificationStart => Sys2Proof.Machine.execQualificationStart s
  | .qualificationFail => Sys2Proof.Machine.execQualificationFail s
  | .qualificationSuccess => Sys2Proof.Machine.execQualificationSuccess s
  | .powerFailAssert level => Sys2Proof.Machine.execPowerFailAssert level s
  | .resetAssert => Sys2Proof.Machine.execResetAssert s
  | .commitComplete => Sys2Proof.Machine.execCommitComplete s
  | .resetRelease => Sys2Proof.Machine.execResetRelease s
  | .powerOnReset backup => Sys2Proof.Machine.execPowerOnReset backup s
  | .backupSupplyLoss => Sys2Proof.Machine.execBackupSupplyLoss s
  | .retentionCheckEnd => Sys2Proof.Machine.execRetentionCheckEnd s
  | .sampleInstant slot group levels => Sys2Proof.Machine.execSampleInstant slot group levels s
  | .byteArrival byte stopBit => Sys2Proof.Machine.execByteArrival byte stopBit s
  | .powerLoss => Sys2Proof.Machine.execPowerLoss s

end Sys2Proof.Machine
end

