-- ==== Sys2Proof/WellFormed.lean ====
section
/-!
DEFINITION. Commands whose operands fit the fields that carry them: the widths of the request catalogue and
of the identity device's answer (R3, R185, R190).
-/

namespace Sys2Proof

open Machine

/-- A field of one byte. -/
def fits8 (n : Nat) : Bool := decide (n < 256)

/-- A field of two bytes. -/
def fits16 (n : Nat) : Bool := decide (n < 65536)

/-- A signed field of two bytes (R185). -/
def fitsSigned (t : Int) : Bool := decide (-32768 ≤ t ∧ t < 32768)

/-- A payload is at most 240 bytes (R185). -/
def fitsPayload (n : Nat) : Bool := decide (n ≤ 240)

/-- The kinds of the request catalogue (R190). -/
def catalogue : List (BitVec 8) :=
  [0x01, 0x02, 0x03, 0x04, 0x05, 0x06, 0x07, 0x10, 0x11, 0x12, 0x13, 0x14, 0x15, 0x16, 0x20, 0x21, 0x22, 0x23,
    0x24, 0x25, 0x30, 0x31, 0x32, 0x33, 0x34, 0x35, 0x40, 0x41, 0x42, 0x50, 0x51, 0x52, 0x53, 0x60, 0x61]

/-- Bytes of a stage item, its code among them (section 12.3). -/
def StageItem.size : StageItem → Nat
  | .vcore _ | .vio _ | .fullScale _ => 3
  | .laneMap _ => 33
  | .readout | .unknown _ => 1
  | .currentLimit _ | .strikeLimit _ | .retryDelay _ | .policy _ | .dwell _ | .window _ | .slew _ | .order _
  | .phases _ | .devLimit _ => 2

/-- The value of a stage item fits its field; an unknown item has a code above 14 (section 12.3). -/
def StageItem.wellFormed : StageItem → Bool
  | .vcore n | .vio n | .fullScale n => fits16 n
  | .currentLimit n | .strikeLimit n | .retryDelay n | .policy n | .dwell n | .window n | .slew n | .order n
  | .phases n | .devLimit n => fits8 n
  | .laneMap t => t.toList.all fun e => fits8 e.1 && fits8 e.2
  | .readout => true
  | .unknown c => decide (14 < c) && fits8 c

/-- The profile of a WRITE fits its fields (R190). -/
def profileFits : Option Profile → Bool
  | some p => p.codes.toList.all fits8 && fits16 p.limit
  | none => true

/-- The identity and descriptor of an answer fit their fields (R3). -/
def answerFits (i : Identity) (d : Descriptor) : Bool :=
  fits8 i.typeCode && decide (i.serial < 2 ^ 24) && fits8 d.socketCount && fits16 d.vcoreMax && fits16 d.vioMax
    && fits16 d.vcoreLimit && fits16 d.vioLimit

/-- A list of socket numbers that one request carries with `head` bytes before it. -/
def socketsFit (head : Nat) (l : List Nat) : Bool := l.all fits8 && fitsPayload (head + l.length)

/-- Every operand fits the field that carries it. -/
def Instr.wellFormed : Instr → Bool
  | .zoneSetpoint t r => fitsSigned t && fits8 r
  | .zoneTune items => items.all (fun i => fits8 i.code && fitsSigned i.value) && fitsPayload (3 * items.length)
  | .boardStage k items =>
    fits8 k && items.all StageItem.wellFormed && fitsPayload (1 + (items.map StageItem.size).sum)
  | .boardPowerUp k | .boardPowerDown k | .boardApply k | .boardStatus k | .exerciseStart k | .exerciseStop k
  | .burstTrigger k | .accountClear k | .burstConfigQuery k => fits8 k
  | .socketSetMask k l | .socketSetUnmask k l | .socketSetReinstate k l => fits8 k && socketsFit 2 l
  | .socketStatus k l => fits8 k && socketsFit 1 l
  | .patternLoad start vs => fits16 start && fitsPayload (2 + 3 * vs.length)
  | .patternDefineWrite r a l p t prof =>
    fits8 r && fits16 a && fits16 l && fits16 p && fits16 t && profileFits prof
  | .patternDefineClear r | .patternDefineQuery r => fits8 r
  | .burstConfigSet k p m n g => fits8 k && fits8 p && fits8 m && fits16 n && fits16 g
  | .accelTableLoad ps =>
    ps.all (fun p => fitsSigned p.temp && fits16 p.factor) && fitsPayload (4 * ps.length)
  | .weightsSet a b => fits16 a && fits16 b
  | .accountRead q => fits8 q
  | .logRead p n => fits16 p && fits8 n
  | .logRetire n => fits16 n
  | .alertConfig p d => fits8 p && fits8 d
  | .alertDone n => fits8 n
  | .unknownKindRequest kind payload =>
    !kind.getLsbD 7 && !catalogue.contains kind && fitsPayload payload.length
  | .identityAnswer _ i d => answerFits i d
  | .identify | .zoneReset | .zoneCool | .zoneAbort | .zoneStatus | .accountSnapshot | .snapshotRelease
  | .logStatus | .alertMask _ _ | .alertPoll | .clockStatus | .clockClear => true
  | .frameDiscarded | .receiveTimeout | .frameSent | .alertFrame => true
  | .boardInserted _ | .boardRemoved _ | .identityTimeout _ => true
  | .settleLimitExpiry _ _ | .inrushDwellExpiry _ | .drainLimitExpiry _ | .switchFault _ _ _
  | .retryExpiry _ _ => true
  | .conversionEnd _ _ | .riseHoldExpiry _ | .throttleFallExpiry _ => true
  | .vectorBoundary _ | .burstEnd _ | .gapExpiry _ | .sampleInstant _ _ _ => true
  | .controlInterval _ _ | .accountIntervalExpiry | .reference1ms | .reference1s => true
  | .holdoverDetection | .qualificationStart | .qualificationFail | .qualificationSuccess => true
  | .powerFailAssert _ | .resetAssert | .commitComplete | .resetRelease | .powerOnReset _
  | .backupSupplyLoss | .retentionCheckEnd | .byteArrival _ _ | .powerLoss => true

end Sys2Proof
end

