-- ==== Sys2Proof/Safety.lean ====
section
/-!
DEFINITION. The terms the statements use: what it is to take a request and answer it, and the properties that
every step keeps.
-/

namespace Sys2Proof.Safety

open Sys2Proof.Machine

/-! ## Requests -/

/-- The part is running and owes no reply: a request that arrives is taken (R186). -/
abbrev Ready (s : State) : Prop := s.part.phase = .running ∧ s.link.owed = false

/-- The receiver is in HUNT with an empty buffer, and nothing else changed. -/
def received (s : State) : State := { s with link := { s.link with rx := .hunt, buffer := [] } }

/-- A request taken and answered: the receiver in HUNT, a reply owed, and the reply begun or waiting (R188). -/
def replied (kind : Byte) (payload : List Byte) (s : State) : State :=
  { received s with link := (received s).link.compose ⟨replyKind kind, payload⟩ }

/-! ## What a step of one slot leaves alone -/

/-- The blocks that no step of one slot `k` changes: everything of the other slots, and everything shared but
the failure log, the raised set of the alert unit, and the throttle state and the account set of slot `k`. -/
def SlotFrame (k : Slot) (s t : State) : Prop :=
  t.part = s.part ∧ t.lines = s.lines ∧ t.store = s.store ∧ t.clock = s.clock ∧ t.ret = s.ret
    ∧ t.pending = s.pending ∧ (received t).link = (received s).link
    ∧ t.zone = { s.zone with throttle := t.zone.throttle } ∧ t.acct = { s.acct with sets := t.acct.sets }
    ∧ t.alert = { s.alert with raised := t.alert.raised }
    ∧ ∀ j, j ≠ k → t.slot j = s.slot j ∧ t.scanner j = s.scanner j ∧ t.channel j = s.channel j
        ∧ t.compare j = s.compare j ∧ t.throttle j = s.throttle j ∧ t.acct.sets.get j = s.acct.sets.get j

/-- The log, the accounts and the alert unit as before. -/
def RecordsKept (s t : State) : Prop := t.log = s.log ∧ t.acct = s.acct ∧ t.alert = s.alert

/-- A slot whose rails are off and whose switches are open, with nothing of a ramp or a drain in progress
(R20). -/
def HardOff (c : SlotCtl) : Prop :=
  c.vcore = Config.railOff ∧ c.vio = Config.railOff ∧ c.ramp = none ∧ c.dwell = none ∧ c.drain = none
    ∧ c.drainLimit = none ∧ ∀ i : Socket, (c.sockets.get i).power ≠ .on ∧ (c.sockets.get i).power ≠ .tripWait

/-- The newest entry of the log. -/
def newest (s : State) : Option LogEntry := s.log.entries.getLast?

/-- The newest entry has a cause and a detail, and names a slot and a socket or neither (R150). -/
def NewestIs (s : State) (slot : Option Slot) (socket : Option Socket) (cause : LogCause)
    (detail : List Byte) : Prop :=
  ∃ e, newest s = some e ∧ e.slot = slot ∧ e.socket = socket ∧ e.cause = cause ∧ e.detail = detail
    ∧ e.epoch = s.log.epoch ∧ e.runSeconds = s.clock.runSeconds

/-- What a board trip leaves (R28). That the BOARD-RAIL entry is the newest, after any entry of a deferred apply
taken in the same step, is the model's choice (log entry 12). -/
def Tripped (k : Slot) (r : Rail) (cause : TripCause) (s t : State) : Prop :=
  (t.slot k).board = .tripped ∧ HardOff (t.slot k) ∧ (t.slot k).railTrip = true
    ∧ (t.channel k).state = .idle ∧ (t.channel k).play = none ∧ t.throttle k = ⟨0, none, none⟩
    ∧ NewestIs t (some k) none .boardRail (u8 r.code ++ u8 cause.code)
    ∧ t.alert.raised.getLsbD (2 + k.code) = true ∧ SlotFrame k s t

/-- What the trip of an ON socket leaves (R33, R91). That the disregarded mismatch count becomes 0 is the model's
choice (log entry 14). -/
def SocketTripped (k : Slot) (i : Socket) (s t : State) : Prop :=
  let n := (s.socket k i).strikes + 1
  (if n = (s.slot k).active.strikeLimit then
      t.socket k i = ⟨.quarantined, n, none, none⟩ ∧ (t.record k i).verdict = .failed
        ∧ (t.record k i).loggedQuarantine = true
    else t.socket k i = ⟨.tripWait, n, none, some (s.slot k).active.retryDelay⟩)
    ∧ (t.record k i).trips = satInc 65535 (s.record k i).trips
    ∧ (t.compare k).member.get i = false ∧ (t.compare k).mismatch.get i = 0
    ∧ (t.slot k).socketTrip = true ∧ t.alert.raised.getLsbD (2 + k.code) = true

/-- The newest entry after such a trip: that of the trip (R33), or of the QUARANTINE that follows it where that
cause is not yet logged (R139). -/
def TripLogged (k : Slot) (i : Socket) (cause : LogCause) (detail : List Byte) (s t : State) : Prop :=
  if (s.socket k i).strikes + 1 = (s.slot k).active.strikeLimit then
    (s.record k i).loggedQuarantine = false → NewestIs t (some k) (some i) .quarantine (u8 cause.code)
  else NewestIs t (some k) (some i) cause detail

/-! ## SAFE -/

/-- What SAFE entry leaves (R123, R124). That the ZONE-SAFE entry is the newest, after any entry of a deferred
apply taken in the same step, is the model's choice (log entry 12). -/
def SafeEntered (cause : SafeCause) (detail : List Byte) (s t : State) : Prop :=
  t.zone.state = .safe ∧ t.zone.safeCause = some cause ∧ t.zone.heater = 0 ∧ t.zone.fan = 1000
    ∧ t.zone.heatEn = false ∧ t.zone.safeLine = true ∧ t.zone.integ = 0 ∧ t.zone.tuning = s.zone.tuning
    ∧ (∀ k : Slot, ((s.slot k).board.live = true →
          (t.slot k).board = .present ∧ HardOff (t.slot k) ∧ (t.channel k).state = .idle
            ∧ t.throttle k = ⟨0, none, none⟩)
        ∧ ((s.slot k).board.live = false → t.slot k = s.slot k ∧ t.channel k = s.channel k))
    ∧ NewestIs t none none .zoneSafe (u8 cause.code ++ detail) ∧ t.alert.raised.getLsbD 0 = true
    ∧ t.part = s.part ∧ t.lines = s.lines ∧ t.store = s.store ∧ t.clock = s.clock ∧ t.ret = s.ret

/-! ## Burst starts -/

/-- What a burst start leaves in the channel and the compare unit (R79, R96), for the configuration `b` and the
record `rec` it names: `s` is the state before it and `t` the state after. -/
def BurstStarted (k : Slot) (b : BurstConfig) (rec : PatternRecord) (s t : State) : Prop :=
  (t.channel k).state = .burst ∧ (t.channel k).active = some b ∧ (t.channel k).pending = none
    ∧ (t.channel k).play = some ⟨rec, 1, rec.start, s.store.read rec.start⟩
    ∧ (t.channel k).rateStep = (s.throttle k).step
    ∧ (∀ i, (t.compare k).mismatch.get i = 0)
    ∧ (∀ i, (t.compare k).member.get i = decide ((s.socket k i).power = .on))
    ∧ (t.compare k).phases = (s.slot k).active.phases
    ∧ (t.compare k).collecting.isSome = rec.profile.isSome

/-- What a burst start of slot `k` never changes. -/
def BurstFrame (k : Slot) (s t : State) : Prop :=
  SlotFrame k s t ∧ t.zone = s.zone
    ∧ ((s.compare k).closing = none →
        t.slot k = s.slot k ∧ t.acct = s.acct ∧ t.log = s.log ∧ t.alert = s.alert)

/-! ## Items of BOARD-STAGE and ZONE-TUNE -/

/-- The value of a stage item lies in the range of its setting (R18, R19, R65, R68); a setpoint above its range
is clamped and not refused (log entry 38). An item code above 14 names no setting. -/
def StageOk : StageItem → Prop
  | .vcore v => v = 0 ∨ 400 ≤ v
  | .vio v => v = 0 ∨ 1000 ≤ v
  | .fullScale v => 1000 ≤ v ∧ v ≤ 20000
  | .currentLimit v | .retryDelay v => 1 ≤ v ∧ v ≤ 255
  | .strikeLimit v | .devLimit v => 1 ≤ v ∧ v ≤ 15
  | .dwell v | .slew v => 1 ≤ v ∧ v ≤ 100
  | .window v => 1 ≤ v ∧ v ≤ 10
  | .policy v | .order v => v ≤ 1
  | .laneMap e => ∀ l : Fin 16, (e.get l).1 ≤ 15 ∧ (e.get l).2 ≤ 3
  | .phases _ | .readout => True
  | .unknown _ => False

/-- The setting a stage item names, written, with `core` and `io` the maxima of the two setpoints (R19, R191,
section 12.3). -/
def stagePut (core io : Nat) (t : Settings) : StageItem → Settings
  | .vcore v => { t with vcore := min core v }
  | .vio v => { t with vio := min io v }
  | .fullScale v => { t with fullScale := v }
  | .currentLimit v => { t with currentLimit := v }
  | .strikeLimit v => { t with strikeLimit := v }
  | .retryDelay v => { t with retryDelay := v }
  | .policy v => { t with policy := if v = 0 then .keep else .drop }
  | .dwell v => { t with dwell := v }
  | .window v => { t with window := v }
  | .slew v => { t with slew := v }
  | .order v => { t with order := if v = 0 then .vioFirst else .vcoreFirst }
  | .laneMap e => { t with laneMap := e.map fun x =>
      ⟨x.1, match x.2 with
        | 0 => .normal
        | 1 => .invert
        | 2 => .forceLow
        | _ => .forceHigh⟩ }
  | .phases v => { t with phases := Table.ofFn fun g => v / 2 ^ (2 * g.val) % 4 }
  | .devLimit v => { t with devLimit := v }
  | .readout | .unknown _ => t

/-- A stage item gives a setpoint above its maximum (R19). -/
def stageAbove (core io : Nat) : StageItem → Bool
  | .vcore v => decide (core < v)
  | .vio v => decide (io < v)
  | _ => false

/-- The value of a tuning item lies in its range (R115); a code above 9 names no value (log entry 21). -/
def TuneOk (i : TuneItem) : Prop :=
  match i.code with
  | 0 => 0 ≤ i.value ∧ i.value ≤ 2000
  | 1 => 0 ≤ i.value ∧ i.value ≤ 500
  | 2 => 8 ≤ i.value ∧ i.value ≤ 160
  | 3 => 10 ≤ i.value ∧ i.value ≤ 3600
  | 4 => 0 ≤ i.value ∧ i.value ≤ 1000
  | 5 => 960 ≤ i.value ∧ i.value ≤ 3360
  | 6 => 640 ≤ i.value ∧ i.value ≤ 3200
  | 7 => -640 ≤ i.value ∧ i.value ≤ 3200
  | 8 => 8 ≤ i.value ∧ i.value ≤ 320
  | 9 => 320 ≤ i.value ∧ i.value ≤ 1600
  | _ => False

/-- The tuning value an item names, written (R115). -/
def tunePut (t : Tuning) (i : TuneItem) : Tuning :=
  match i.code with
  | 0 => { t with kp := i.value }
  | 1 => { t with ki := i.value }
  | 2 => { t with band := i.value }
  | 3 => { t with settleTime := i.value }
  | 4 => { t with fanFloor := i.value }
  | 5 => { t with zoneCutoff := i.value }
  | 6 => { t with socketCutoff := i.value }
  | 7 => { t with throttle := i.value }
  | 8 => { t with hysteresis := i.value }
  | 9 => { t with coolTarget := i.value }
  | _ => t

/-! ## Profile verdicts -/

/-- The absolute difference of a socket's sample and the rotated expectation at a point (R100). -/
def profileDiff (rec : ProfileRecord) (i : Socket) (smp : Table 8 Nat) (j : Fin 8) : Nat :=
  let phase := rec.phases.get ⟨i.val / 8, by have := i.isLt; omega⟩
  ((smp.get j : Int) - rec.codes.get ⟨(j.val + 2 * phase) % 8, Nat.mod_lt _ (by decide)⟩).natAbs

/-- H1 (R100). -/
def profileH1 (rec : ProfileRecord) (i : Socket) (smp : Table 8 Nat) : Nat :=
  profileDiff rec i smp 0 + profileDiff rec i smp 1 + profileDiff rec i smp 2 + profileDiff rec i smp 3

/-- H2 (R100). -/
def profileH2 (rec : ProfileRecord) (i : Socket) (smp : Table 8 Nat) : Nat :=
  profileDiff rec i smp 4 + profileDiff rec i smp 5 + profileDiff rec i smp 6 + profileDiff rec i smp 7

/-- The deviation ratio of a socket (R101). -/
def profileRatio (rec : ProfileRecord) (i : Socket) (smp : Table 8 Nat) : Nat :=
  let e := rec.codes.toList.sum
  if e = 0 then 65535 else min 65535 ((profileH1 rec i smp + profileH2 rec i smp) * 256 / e)

/-- What the finish of a profile record with the deviation strike limit `limit` leaves of a socket (R100 to
R102): a strike where the socket takes a verdict whose ratio is above the deviation limit, and a CURRENT-PROFILE
report where its strikes are then at or above the strike limit. -/
def ProfileJudged (k : Slot) (rec : ProfileRecord) (limit : Nat) (i : Socket) (s t : State) : Prop :=
  let before := (s.compare k).devStrikes.get i
  let after := (t.compare k).devStrikes.get i
  let struck := min 15 (before + 1)
  (∀ smp : Table 8 Nat, rec.members.get i = true → (∀ j : Fin 8, (rec.samples.get i).get j = some (smp.get j)) →
      (∀ j : Fin 8, rec.points.get j ≠ .lost) →
      (profileRatio rec i smp ≤ rec.limit → after = before ∧ (t.record k i).reports = (s.record k i).reports)
      ∧ (rec.limit < profileRatio rec i smp → struck < limit →
          after = struck ∧ (t.record k i).reports = (s.record k i).reports)
      ∧ (rec.limit < profileRatio rec i smp → limit ≤ struck →
          after = struck ∧ (t.record k i).verdict = .failed
            ∧ (t.record k i).reports = satInc 65535 (s.record k i).reports))
    ∧ (rec.members.get i = false ∨ (∃ j : Fin 8, (rec.samples.get i).get j = none)
        ∨ (∃ j : Fin 8, rec.points.get j = .lost) →
      after = before ∧ (t.record k i).reports = (s.record k i).reports)

/-- No profile verdict has been taken for a socket. -/
def NotJudged (k : Slot) (i : Socket) (s t : State) : Prop :=
  (t.compare k).devStrikes.get i = (s.compare k).devStrikes.get i
    ∧ (t.record k i).reports = (s.record k i).reports

/-! ## Properties that every step keeps -/

/-- The pattern store has its canonical form, and the failure log and its retained copy hold at most 256
entries (R57, R149). -/
abbrev StoreAndLogLegal (s : State) : Prop :=
  s.store.wf = true ∧ s.log.entries.length ≤ 256 ∧ s.ret.image.entries.length ≤ 256

/-- No board is powered or draining unless the part runs and the zone is not in SAFE, and a switch is closed
only while its board is RAMPING or POWERED (R29, R123). -/
abbrev SocketsSafe (s : State) : Prop :=
  (s.part.phase ≠ .running → ∀ k ∈ Slot.all, (s.slot k).board.live = false)
    ∧ (s.zone.state = .safe → ∀ k ∈ Slot.all, (s.slot k).board.live = false)
    ∧ ∀ k ∈ Slot.all, ∀ i : Socket, (s.socket k i).power = .on → (s.slot k).board.checked = true

/-- The heater is off in IDLE, COOL and SAFE and from a commit on, the duties lie within 0 to 1,000, and the
integrator stays within the bound of R116. -/
abbrev ThermalSafe (s : State) : Prop :=
  let z := s.zone
  (z.state = .idle ∨ z.state = .cool ∨ z.state = .safe ∨ s.part.phase ≠ .running →
      z.heater = 0 ∧ z.heatEn = false)
    ∧ (0 ≤ z.heater ∧ z.heater ≤ 1000) ∧ (0 ≤ z.fan ∧ z.fan ≤ 1000)
    ∧ (-1000 ≤ z.output ∧ z.output ≤ 1000)
    ∧ (-4100095 ≤ z.integ ∧ z.integ ≤ 4100095)
    ∧ (0 ≤ z.tuning.kp ∧ z.tuning.kp ≤ 2000) ∧ (0 ≤ z.tuning.ki ∧ z.tuning.ki ≤ 500)
    ∧ (0 ≤ z.tuning.fanFloor ∧ z.tuning.fanFloor ≤ 1000)

/-- A socket whose verdict is FAILED has a first-failure record, and a GOOD one has none, in the sets and in
their retained copy (R129). -/
abbrev VerdictsAgree (s : State) : Prop :=
  ∀ k ∈ Slot.all, ∀ i : Socket,
    (s.record k i).first.isSome = decide ((s.record k i).verdict = .failed)
      ∧ (((s.ret.image.sets.get k).recs.get i).first.isSome
          = decide (((s.ret.image.sets.get k).recs.get i).verdict = .failed))

/-- No strike count exceeds the active strike limit, and a socket whose count equals it is QUARANTINED (R29);
both copies hold a strike limit of at least 1 (R18). -/
abbrev StrikesLegal (s : State) : Prop :=
  ∀ k ∈ Slot.all,
    1 ≤ (s.slot k).active.strikeLimit ∧ 1 ≤ (s.slot k).staged.strikeLimit
      ∧ ∀ i : Socket, (s.socket k i).strikes ≤ (s.slot k).active.strikeLimit
          ∧ ((s.socket k i).strikes = (s.slot k).active.strikeLimit → (s.socket k i).power = .quarantined)

/-- A closing profile record waits for a point: one that does not has taken its verdict and is gone (R99). -/
abbrev ClosingWaits (k : Slot) (s : State) : Prop :=
  match (s.compare k).closing with
  | some r => r.finished = false
  | none => True

/-- A channel is out of IDLE only while its board is POWERED (R89, R67), and a closing profile record waits for a
point (R99). -/
abbrev ChannelsLegal (s : State) : Prop :=
  ∀ k ∈ Slot.all, ((s.channel k).state ≠ .idle → (s.slot k).board = .powered) ∧ ClosingWaits k s

end Sys2Proof.Safety
end

