-- ==== Sys2Proof/Certificates/Slice0/Obligations.lean ====
section
/-!
DEFINITION. The statements for the provers. `Ready`, `received`, `replied` and the properties that steps keep
stand in Sys2Proof/Safety.lean.
-/

open Sys2Proof Sys2Proof.Machine Sys2Proof.Safety

/-! ## The queue, the link and the catalogue -/

/-- With a command at the front of the queue, a step runs it on the state with the queue's rest; with an empty
queue the block idles (the model's own queue: log entry 1). -/
def Obligations.StepRunsTheFrontCommand : Prop :=
  ∀ (c : Instr) (rest : List Instr) (s : State),
    step { s with pending := c :: rest } = exec c { s with pending := rest }
      ∧ step { s with pending := [] } = .next { s with pending := [] }

/-- R185, R187, R190: every request whose operands fit its fields, written as a frame of the catalogue and read
back by the link controller, is taken as that request. That a request row and its frame
are two views of one step is the model's choice (log entry 2). -/
def Obligations.RequestIsTakenFromItsFrame : Prop :=
  ∀ (i : Instr) (f : Frame), i.wellFormed = true → requestFrame i = some f →
    f.payload.length ≤ 240 ∧ topBit f.kind = false
      ∧ ∀ s : State, exec i s = .next (takeFrame f.kind f.payload s)

/-- R185, R186: the bytes of a frame with a good CRC, arriving one after another at a receiver in HUNT, take
the frame's request at the last of them (log entry 2). -/
def Obligations.BytesOfAFrameTakeItsRequest : Prop :=
  ∀ (f : Frame) (s : State), f.payload.length ≤ 240 → topBit f.kind = false → s.part.phase = .running →
    s.link.rx = .hunt →
    Host.Core.run core f.bytes.length { s with pending := arrivals f ++ s.pending }
      = .next (takeFrame f.kind f.payload s)

/-- R186: what a receiver of a running part does with the events of one byte or of a discarded frame; the last
byte of a frame takes it where its CRC is good and discards it where the CRC differs; and a request that arrives
while a reply is owed is discarded (a request row is such an arrival: log entry 2). -/
def Obligations.ReceiverFollowsHuntAndReceiving : Prop :=
  ∀ s : State, s.part.phase = .running →
    exec .frameDiscarded s = .next (received s)
      ∧ (s.link.rx = .receiving → exec .receiveTimeout s = .next (received s))
      ∧ (s.link.rx = .hunt → exec .receiveTimeout s = .next s)
      ∧ (s.link.rx = .hunt → ∀ b : Byte, b ≠ 0xA5#8 → exec (.byteArrival b true) s = .next s)
      ∧ (s.link.rx = .hunt → exec (.byteArrival 0xA5#8 true) s
          = .next { s with link := { s.link with rx := .receiving, buffer := [0xA5#8] } })
      ∧ (s.link.rx = .receiving → ∀ b : Byte, exec (.byteArrival b false) s = .next (received s))
      ∧ (s.link.rx = .receiving → s.link.buffer = [0xA5#8] → ∀ b : Byte, b.toNat ≤ 240 →
          exec (.byteArrival b true) s
            = .next { s with link := { s.link with buffer := [0xA5#8, b] } })
      ∧ (s.link.rx = .receiving → s.link.buffer = [0xA5#8] → ∀ b : Byte, 240 < b.toNat →
          exec (.byteArrival b true) s = .next (received s))
      ∧ (∀ (f : Frame) (low high : Byte), s.link.rx = .receiving → f.payload.length ≤ 240 →
          topBit f.kind = false →
          s.link.buffer = [0xA5#8, BitVec.ofNat 8 f.payload.length, f.kind] ++ f.payload ++ [low] →
          let crc := crc16 ([BitVec.ofNat 8 f.payload.length, f.kind] ++ f.payload)
          (crc.toNat = low.toNat + 256 * high.toNat →
            exec (.byteArrival high true) s = .next (takeFrame f.kind f.payload s))
          ∧ (crc.toNat ≠ low.toNat + 256 * high.toNat →
            exec (.byteArrival high true) s = .next (received s)))
      ∧ (s.link.owed = true → ∀ (i : Instr) (f : Frame), requestFrame i = some f →
          exec i s = .next (received s))

/-- R186, R187: a frame whose kind names no request is answered REFUSED-KIND (6), and one whose kind has its
top bit set is discarded without a reply. -/
def Obligations.UnknownKindIsRefused : Prop :=
  ∀ (kind : Byte) (payload : List Byte) (s : State),
    (Ready s → kind ∉ catalogue → topBit kind = false →
      exec (.unknownKindRequest kind payload) s = .next (replied kind [6] s))
    ∧ (s.part.phase = .running → topBit kind = true →
      exec (.unknownKindRequest kind payload) s = .next (received s))

/-- R188, R186, R167: when the last byte of a frame has gone out, a reply's last byte ends the reply owed, and a
composed reply is begun; without one, an alert frame is begun at that moment where the delivery is FRAME and a source is
eligible, and otherwise the transmitter is free. An alert frame that begins takes the chosen source from the raised set
into the in-service set and carries it with the log occupancy and the zone state. -/
def Obligations.TransmitterSendsRepliesThenAlerts : Prop :=
  let begun (n : Nat) (s : State) : State :=
    { s with
        alert := { s.alert with raised := s.alert.raised &&& ~~~(1#8 <<< n)
                                inService := s.alert.inService ||| (1#8 <<< n) }
        link := { s.link with
          sending := some ⟨false, 0xFF#8,
            [BitVec.ofNat 8 n, BitVec.ofNat 8 s.log.entries.length,
              BitVec.ofNat 8 (s.log.entries.length / 256), BitVec.ofNat 8 s.zone.state.code]⟩ } }
  (∀ (s : State) (f : TxFrame), s.part.phase = .running → s.link.sending = some f →
    let free := { s with link := { s.link with owed := s.link.owed && !f.isReply, sending := none } }
    (∀ g : Frame, s.link.composed = some g → exec .frameSent s = .next
      { free with link := { free.link with sending := some ⟨true, g⟩, composed := none } })
    ∧ (s.link.composed = none →
      ((s.alert.delivery = .polled ∨ s.alert.choose = none) → exec .frameSent s = .next free)
      ∧ (∀ n : Nat, s.alert.delivery = .frame → s.alert.choose = some n →
          exec .frameSent s = .next (begun n free))))
  ∧ ∀ (s : State) (n : Nat), s.part.phase = .running → s.link.sending = none → s.link.composed = none →
    s.alert.delivery = .frame → s.alert.choose = some n → exec .alertFrame s = .next (begun n s)

/-! ## Readouts -/

/-- IDENTIFY, CLOCK-STATUS, CLOCK-CLEAR, ZONE-STATUS and SOCKET-STATUS answer OK and change nothing but the link,
and for CLOCK-CLEAR the sticky flag and for ZONE-STATUS the EXCURSION note (R189, R177, R126, R38). SOCKET-STATUS is
answered in IDENT as in every other board state, NO-BOARD for an EMPTY slot, REFUSED-RANGE for a number above 31 and
REFUSED-LENGTH for a list that is empty or too long. The order of fields that the manual leaves open is log entry
19. -/
def Obligations.ReadoutsChangeOnlyTheLink : Prop :=
  ∀ s : State, Ready s →
    exec .identify s = .next
      (replied 0x01 [0, 0x72, 0x3C, 0x28, 0x01, 1, 240, BitVec.ofNat 8 s.clock.outcome.code] s)
    ∧ exec .clockStatus s = .next (replied 0x60 (0 :: clockReply s.clock) s)
    ∧ exec .clockClear s = .next
        (replied 0x61 (0 :: clockReply { s.clock with sticky := false }) { s with clock.sticky := false })
    ∧ exec .zoneStatus s = .next (replied 0x07 (0 :: zoneStatusReply s.zone) { s with zone.excNote := false })
    ∧ ∀ (k : Slot) (l : List Nat),
        let status := exec (.socketStatus k.code l) s
        (1 ≤ l.length → l.length ≤ 32 →
          ((s.slot k).board ≠ .empty → (∀ n ∈ l, n ≤ 31) → status = .next
            (replied 0x16
              (0 :: u8 (min 23 l.length) ++ (l.take 23).flatMap fun n =>
                socketStatusBytes ((s.scanner k).records.get (socketOf n)) (s.socket k (socketOf n))
                  (s.record k (socketOf n)).verdict) s))
          ∧ ((s.slot k).board ≠ .empty → (∃ n ∈ l, 31 < n) → status = .next (replied 0x16 [4] s))
          ∧ ((s.slot k).board = .empty → status = .next (replied 0x16 [9] s)))
        ∧ (l.length = 0 ∨ 32 < l.length → status = .next (replied 0x16 [5] s))

/-- R160. -/
def Obligations.LogStatusCarriesOccupancyAndArm : Prop :=
  ∀ s : State, Ready s →
    exec .logStatus s = .next
      (replied 0x42
        ([0] ++ u16 s.log.entries.length ++ u16 s.log.discarded ++ u8 s.log.epoch
          ++ u8 (if s.log.armed then 0 else 1)) s)

/-- R157, R158, R156: LOG-READ returns entries and changes nothing; LOG-RETIRE removes the oldest, answers
CLAMPED where it finds fewer, and arms LOG below 128 entries; both refuse counts out of range. -/
def Obligations.LogRequestsReadAndRetireTheOldest : Prop :=
  ∀ s : State, Ready s →
    (∀ p n : Nat, p ≤ 255 → 1 ≤ n → n ≤ 8 → exec (.logRead p n) s = .next
      (replied 0x40
        ([0] ++ u16 s.log.entries.length ++ u16 s.log.discarded
          ++ ((s.log.entries.drop p).take n).flatMap entryBytes) s))
    ∧ (∀ p n : Nat, (255 < p ∨ n = 0 ∨ 8 < n) → exec (.logRead p n) s = .next (replied 0x40 [4] s))
    ∧ (∀ n : Nat, n ≤ 256 → exec (.logRetire n) s = .next
        (replied 0x41
          ([if s.log.entries.length < n then 2 else 0] ++ u16 (min n s.log.entries.length)
            ++ u16 (s.log.entries.length - n) ++ u16 s.log.discarded)
          { s with log := { s.log with entries := s.log.entries.drop n
                                       armed := s.log.armed || decide (s.log.entries.length - n < 128) } }))
    ∧ (∀ n : Nat, 256 < n → exec (.logRetire n) s = .next (replied 0x41 [4] s))

/-- R14: BOARD-STATUS reports the event flags and the abandoned-burst count and clears them in the same taking;
for an EMPTY slot it is answered NO-BOARD (9) and clears nothing. The layout of the reply is log entry 19. -/
def Obligations.BoardStatusReportsAndClearsEvents : Prop :=
  ∀ (s : State) (k : Slot), Ready s →
    ((s.slot k).board ≠ .empty → exec (.boardStatus k.code) s = .next
      (replied 0x14 (0 :: boardStatusReply k s)
        (s.setSlot k { s.slot k with railTrip := false, socketTrip := false, burstDone := false
                                     applyDone := false, abandoned := 0 })))
    ∧ ((s.slot k).board = .empty → exec (.boardStatus k.code) s = .next (replied 0x14 [9] s))

/-! ## Alerts -/

/-- R165: the rank of source x is (x - b) mod 8 with the base b (0 in FIXED mode), and the four conditions of
eligibility; the source chosen is the eligible one of lowest rank. -/
def Obligations.EligibilityFollowsRank : Prop :=
  ∀ (a : AlertUnit) (n : Nat), a.base < 8 → n < 8 →
    let b : Nat := if a.priority = .fixed then 0 else a.base
    let rank : Nat → Int := fun x => ((x : Int) - b) % 8
    (a.eligible n = true ↔
      a.raised.getLsbD n = true ∧ a.mask.getLsbD n = false ∧ a.inService.getLsbD n = false
        ∧ ∀ m : Nat, m < 8 → a.inService.getLsbD m = true → rank n < rank m)
    ∧ (a.choose = some n ↔
      a.eligible n = true ∧ ∀ m : Nat, m < 8 → a.eligible m = true → rank n ≤ rank m)

/-- R168, R170, R171: masks, modes and polls change the alert unit as their rules give and nothing else. R172, R180,
R182: ALERT# is driven low while a source is eligible, in either delivery mode, and is released from a commit on. -/
def Obligations.AlertRequestsChangeOnlyTheAlertUnit : Prop :=
  (∀ s : State,
    (s.part.phase = .checking ∨ s.part.phase = .running →
      (s.alertLow = true ↔ ∃ n : Nat, n < 8 ∧ s.alert.eligible n = true))
    ∧ (s.part.phase ≠ .checking → s.part.phase ≠ .running → s.alertLow = false))
  ∧ ∀ s : State, Ready s →
    (∀ m u : Byte, m &&& u = 0 →
      let a := { s.alert with mask := (s.alert.mask ||| m) &&& ~~~u }
      exec (.alertMask m u) s = .next (replied 0x50 (0 :: alertReply a) { s with alert := a }))
    ∧ (∀ m u : Byte, m &&& u ≠ 0 → exec (.alertMask m u) s = .next (replied 0x50 [4] s))
    ∧ (∀ (p : PriorityMode) (d : DeliveryMode),
      let a := { s.alert with priority := p, delivery := d, base := if p = .fixed then 0 else s.alert.base }
      exec (.alertConfig p.code d.code) s = .next (replied 0x51 (0 :: alertReply a) { s with alert := a }))
    ∧ (∀ p d : Nat, (1 < p ∨ 1 < d) → exec (.alertConfig p d) s = .next (replied 0x51 [4] s))
    ∧ (∀ n : Nat, s.alert.delivery = .polled → s.alert.choose = some n →
      let a := { s.alert with raised := s.alert.raised &&& ~~~(1#8 <<< n)
                              inService := s.alert.inService ||| (1#8 <<< n) }
      exec .alertPoll s = .next (replied 0x52 (0 :: pollReply s (some n) a) { s with alert := a }))
    ∧ ((s.alert.delivery = .frame ∨ s.alert.choose = none) →
      exec .alertPoll s = .next (replied 0x52 (0 :: pollReply s none s.alert) s))

/-- R166, R169: an ALERT-DONE that is taken ends the service and, in ROTATING mode, sets the base to the source
plus 1 modulo 8, which gives that source rank 7 and the next source rank 0; a refused one changes nothing. -/
def Obligations.AlertDoneEndsServiceAndRotates : Prop :=
  (∀ (s : State) (n : Nat), Ready s →
    (n ≤ 7 → s.alert.inService.getLsbD n = true → exec (.alertDone n) s = .next
      (replied 0x53 [0]
        { s with alert := { s.alert with
            inService := s.alert.inService &&& ~~~(1#8 <<< n)
            base := if s.alert.priority = .rotating then (n + 1) % 8 else s.alert.base } }))
    ∧ (n ≤ 7 → s.alert.inService.getLsbD n = false →
        exec (.alertDone n) s = .next (replied 0x53 [3] s))
    ∧ (7 < n → exec (.alertDone n) s = .next (replied 0x53 [4] s)))
  ∧ ∀ n : Nat, n ≤ 7 → sourceRank ((n + 1) % 8) n = 7 ∧ sourceRank ((n + 1) % 8) ((n + 1) % 8) = 0

/-! ## Accounts -/

/-- R130, R131: a table of breakpoints in order replaces the table in force, an empty one reads it out, and the
weights are written with values above 256 written as 256. -/
def Obligations.TableAndWeightsAreWritten : Prop :=
  ∀ s : State, Ready s →
    (∀ t : List Breakpoint, 1 ≤ t.length → t.length ≤ 16 →
      (∀ p ∈ t, -640 ≤ p.temp ∧ p.temp ≤ 3200) → t.Pairwise (fun p q => p.temp < q.temp) →
      exec (.accelTableLoad t) s = .next (replied 0x30 (0 :: accelBytes t) { s with acct.accel := t }))
    ∧ exec (.accelTableLoad []) s = .next (replied 0x30 (0 :: accelBytes s.acct.accel) s)
    ∧ (∀ a b : Nat, exec (.weightsSet a b) s = .next
        (replied 0x31
          ([if 256 < a ∨ 256 < b then 2 else 0] ++ u16 (min 256 a) ++ u16 (min 256 b))
          { s with acct.wEx := min 256 a, acct.wSt := min 256 b }))

/-- R134: the factor of a temperature. -/
def Obligations.FactorInterpolatesTheTable : Prop :=
  ∀ (t : List Breakpoint) (n : Nat) (T : Int), t.length = n + 1 → accelOk t = true →
    (T ≤ (t.getD 0 ⟨0, 0⟩).temp → accelFactor t T = (t.getD 0 ⟨0, 0⟩).factor)
    ∧ ((t.getD n ⟨0, 0⟩).temp ≤ T → accelFactor t T = (t.getD n ⟨0, 0⟩).factor)
    ∧ ∀ k : Nat, k < n → (t.getD k ⟨0, 0⟩).temp ≤ T → T < (t.getD (k + 1) ⟨0, 0⟩).temp →
        let p := t.getD k ⟨0, 0⟩
        let q := t.getD (k + 1) ⟨0, 0⟩
        (accelFactor t T : Int)
            = p.factor + (((q.factor : Int) - p.factor) * (T - p.temp)).tdiv (q.temp - p.temp)
          ∧ min p.factor q.factor ≤ accelFactor t T ∧ accelFactor t T ≤ max p.factor q.factor

/-- R144 to R146, R142: a snapshot is asked for, read page by page and released, and the accounts of a board are
cleared with its deviation strikes, in every board state but EMPTY. -/
def Obligations.SnapshotRequestsAndAccountClear : Prop :=
  ∀ s : State, Ready s →
    (s.acct.snapshot = .absent →
      exec .accountSnapshot s = .next (replied 0x32 [0] { s with acct.snapshot := .waiting }))
    ∧ (s.acct.snapshot ≠ .absent → exec .accountSnapshot s = .next (replied 0x32 [8] s))
    ∧ (∀ (c : SnapCopy) (q : Nat), s.acct.snapshot = .held c → q ≤ 31 →
        exec (.accountRead q) s = .next
          (replied 0x33 (0 :: pageReply c q)
            { s with acct.snapshot :=
                if ∀ i : Fin 32, (c.pages.set (socketOf q) true).get i = true then .absent
                else .held { c with pages := c.pages.set (socketOf q) true } }))
    ∧ (∀ q : Nat, q ≤ 31 → (s.acct.snapshot = .absent ∨ s.acct.snapshot = .waiting) →
        exec (.accountRead q) s = .next (replied 0x33 [3] s))
    ∧ exec .snapshotRelease s = .next (replied 0x34 [0] { s with acct.snapshot := .absent })
    ∧ (∀ k : Slot, (s.slot k).board ≠ .empty → exec (.accountClear k.code) s = .next
        (replied 0x35 [0]
          { s with
              acct.sets := s.acct.sets.set k
                ⟨(s.acct.sets.get k).tag, Table.fill 32 Config.zeroRecord⟩
              cmp := s.cmp.set k { s.compare k with devStrikes := Table.fill 32 0 } }))
    ∧ (∀ k : Slot, (s.slot k).board = .empty → exec (.accountClear k.code) s = .next (replied 0x35 [9] s))
    ∧ exec (.accountClear 4) s = .next (replied 0x35 [4] s)

/-- R133 to R136, R144: what an account-interval expiry does to every socket, and that it changes only the
account unit. That it acts only when the interval is due is log entry 3. -/
def Obligations.AccountIntervalAccruesStress : Prop :=
  ∀ s : State, s.part.phase = .running → s.acct.interval = some 0 →
    ∃ t : State, exec .accountIntervalExpiry s = .next t
      ∧ t = { s with acct := { s.acct with sets := t.acct.sets, counts := t.acct.counts
                                           snapshot := t.acct.snapshot, interval := some 1
                                           holdover := decide (s.clock.live = .holdover) } }
      ∧ (∀ (k : Slot) (i : Socket), (t.acct.counts.get k).get i = ⟨0, 0⟩)
      ∧ (∀ k : Slot, (t.acct.sets.get k).tag = (s.acct.sets.get k).tag)
      ∧ (∀ k : Slot, (s.slot k).board = .empty ∨ (s.acct.sets.get k).tag = none →
          t.acct.sets.get k = s.acct.sets.get k)
      ∧ (∀ (k : Slot) (i : Socket), (s.slot k).board ≠ .empty → (s.acct.sets.get k).tag ≠ none →
          let c := (s.acct.counts.get k).get i
          let r := s.record k i
          let r' := t.record k i
          let fresh := ((s.scanner k).records.get i).fresh
          let T := match fresh, s.zone.lastValid with
            | some x, _ => x
            | none, some x => x
            | none, none => (s.acct.accel.head?.map Breakpoint.temp).getD 0
          let W := ((s.acct.wEx >>> (s.throttle k).step) * c.ex + s.acct.wSt * (c.on - c.ex)) / 1000
          let N := accelFactor s.acct.accel T * W + r.residue
          r'.stress = min (2 ^ 40 - 1) (r.stress + N / 256) ∧ r'.residue = N % 256
            ∧ (r'.saturated = true ↔ r.saturated = true ∨ 2 ^ 40 - 1 < r.stress + N / 256)
            ∧ r'.powered = min (2 ^ 40 - 1) (r.powered + c.on)
            ∧ r'.exercised = min (2 ^ 40 - 1) (r.exercised + c.ex)
            ∧ (r'.estimated = true ↔ r.estimated = true ∨ (fresh = none ∧ 0 < c.on))
            ∧ (r'.untimed = true ↔ r.untimed = true ∨ (s.acct.holdover = true ∧ 0 < c.on))
            ∧ r'.verdict = r.verdict ∧ r'.first = r.first ∧ r'.trips = r.trips ∧ r'.peak = r.peak
            ∧ r'.failing = r.failing ∧ r'.reports = r.reports ∧ r'.interrupted = r.interrupted)
      ∧ (s.acct.snapshot = .waiting → ∃ c : SnapCopy, t.acct.snapshot = .held c ∧ c.sets = t.acct.sets
          ∧ c.epoch = s.log.epoch ∧ c.runSeconds = s.clock.runSeconds
          ∧ (∀ k : Slot, c.devStrikes.get k = (s.compare k).devStrikes)
          ∧ ∀ i : Fin 32, c.pages.get i = false)
      ∧ (s.acct.snapshot ≠ .waiting → t.acct.snapshot = s.acct.snapshot)

/-! ## Patterns -/

/-- R58: a load of 1 to 64 vectors within the store, over no protected vector, writes vector j at start + j and
no other; one over a protected vector is answered REFUSED-STATE (3) and writes nothing. -/
def Obligations.PatternLoadWritesTheWholeRunOrNothing : Prop :=
  ∀ (s : State) (start : Nat) (vs : List RawVector), Ready s → s.store.wf = true → 1 ≤ vs.length →
    vs.length ≤ 64 → start + vs.length ≤ 8192 → (∀ v ∈ vs, v.marks.toNat < 4) →
    ((∀ j < vs.length, s.protectedVector (start + j) = false) →
      ∃ p : PatternStore, exec (.patternLoad start vs) s = .next (replied 0x20 [0] { s with store := p })
        ∧ p.records = s.store.records ∧ p.wf = true
        ∧ (∀ (j : Nat) (v : RawVector), vs[j]? = some v →
            p.read (start + j) = ⟨v.drive, v.marks.getLsbD 0, v.marks.getLsbD 1⟩)
        ∧ ∀ i : Nat, (i < start ∨ start + vs.length ≤ i) → p.read i = s.store.read i)
    ∧ ((∃ j < vs.length, s.protectedVector (start + j) = true) →
      exec (.patternLoad start vs) s = .next (replied 0x20 [3] s))

/-- R60, R61: WRITE and CLEAR of a record that is not in use replace it, of one in use are answered
REFUSED-STATE (3), QUERY changes nothing, and a record number above 31 is answered REFUSED-RANGE (4) by each form.
The presence bytes of the replies are the model's choice (log entry 19). -/
def Obligations.PatternDefineReplacesUnusedRecords : Prop :=
  ∀ (s : State) (r : Fin 32) (start length period tolerance : Nat) (profile : Option Profile), Ready s →
    let write := Instr.patternDefineWrite r.val start length period tolerance profile
    let t := s.setPattern r (some ⟨start, length, period, tolerance, profile⟩)
    let u := s.setPattern r none
    (start ≤ 8191 → 1 ≤ length → start + length ≤ 8192 → 1 ≤ period →
      (s.inUse r = false → exec write s = .next (replied 0x21 (0 :: patternReply t r) t))
      ∧ (s.inUse r = true → exec write s = .next (replied 0x21 [3] s)))
    ∧ ((8191 < start ∨ length = 0 ∨ 8192 < start + length ∨ period = 0) →
      exec write s = .next (replied 0x21 [4] s))
    ∧ (s.inUse r = false → exec (.patternDefineClear r.val) s = .next (replied 0x21 (0 :: patternReply u r) u))
    ∧ (s.inUse r = true → exec (.patternDefineClear r.val) s = .next (replied 0x21 [3] s))
    ∧ exec (.patternDefineQuery r.val) s = .next (replied 0x21 (0 :: patternReply s r) s)
    ∧ ∀ n : Nat, 31 < n → exec (.patternDefineQuery n) s = .next (replied 0x21 [4] s)
        ∧ exec (.patternDefineClear n) s = .next (replied 0x21 [4] s)
        ∧ exec (.patternDefineWrite n start length period tolerance profile) s = .next (replied 0x21 [4] s)

/-! ## Bursts -/

/-- R75, R76: a SET by channel state, and QUERY; a SET out of range and a form that is neither are answered
REFUSED-RANGE (4), and each form for an EMPTY slot NO-BOARD (9). The presence bytes of the replies are the model's
choice (log entry 19), and the form of a payload is seen at the link alone. -/
def Obligations.BurstConfigFollowsTheChannelState : Prop :=
  (∀ (s : State) (k : Slot) (r : Fin 32) (m : BurstMode) (n g : Nat), Ready s → (s.slot k).board ≠ .empty →
    1 ≤ n → 1 ≤ g →
    let set := Instr.burstConfigSet k.code r.val m.code n g
    let b : BurstConfig := ⟨r, m, n, g⟩
    let ch := s.channel k
    (ch.state = .idle ∨ ch.state = .done →
      exec set s = .next (replied 0x22 (0 :: burstConfigReply { ch with active := some b, pending := none })
        (s.setChannel k { ch with active := some b, pending := none })))
    ∧ ((ch.state = .burst ∨ ch.state = .gap) → s.store.records.get r ≠ none →
      exec set s = .next (replied 0x22 (1 :: burstConfigReply { ch with pending := some b })
        (s.setChannel k { ch with pending := some b })))
    ∧ ((ch.state = .burst ∨ ch.state = .gap ∨ ch.state = .wait) → s.store.records.get r = none →
      exec set s = .next (replied 0x22 [3] s))
    ∧ (ch.state = .wait → m = .triggered → s.store.records.get r ≠ none →
      exec set s = .next (replied 0x22 (0 :: burstConfigReply { ch with active := some b, pending := none })
        (s.setChannel k { ch with active := some b, pending := none })))
    ∧ (∀ rec : PatternRecord, ch.state = .wait → m ≠ .triggered → s.store.records.get r = some rec →
      ClosingWaits k s →
      ∃ t : State, exec set s = .next (replied 0x22 (0 :: burstConfigReply (t.channel k)) t)
        ∧ BurstStarted k b rec s t ∧ BurstFrame k s t)
    ∧ exec (.burstConfigQuery k.code) s = .next (replied 0x22 (0 :: burstConfigReply ch) s))
  ∧ ∀ (s : State) (k : Slot), Ready s →
    ((s.slot k).board = .empty →
      (∀ r m n g : Nat, exec (.burstConfigSet k.code r m n g) s = .next (replied 0x22 [9] s))
      ∧ exec (.burstConfigQuery k.code) s = .next (replied 0x22 [9] s))
    ∧ ((s.slot k).board ≠ .empty → ∀ r m n g : Nat, (31 < r ∨ 3 < m ∨ n = 0 ∨ g = 0) →
      exec (.burstConfigSet k.code r m n g) s = .next (replied 0x22 [4] s))
    ∧ ∀ (form : Byte) (rest : List Byte), 1 < form.toNat → (rest = [] ∨ rest.length = 6) →
      takeFrame 0x22 (BitVec.ofNat 8 k.code :: form :: rest) s
        = replied 0x22 (if (s.slot k).board = .empty then [9] else [4]) s

/-- R78, R77, R83, R79: EXERCISE-START on a POWERED board in IDLE or DONE, and a gap that ends, adopt the
pending configuration and start a burst, or enter WAIT in TRIGGERED mode. EXERCISE-START is refused as the table
of R78 gives, with nothing changed. -/
def Obligations.ExerciseStartAndGapEndStartABurst : Prop :=
  (∀ (s : State) (k : Slot) (b : BurstConfig) (rec : PatternRecord),
    (s.channel k).pending = some b ∨ ((s.channel k).pending = none ∧ (s.channel k).active = some b) →
    s.store.records.get b.pattern = some rec → ClosingWaits k s →
    (Ready s → (s.slot k).board = .powered → s.zone.state ≠ .safe →
      ((s.channel k).state = .idle ∨ (s.channel k).state = .done) →
      (b.mode = .triggered → exec (.exerciseStart k.code) s = .next (replied 0x23 [0]
        (s.setChannel k { s.channel k with state := .wait, active := some b, pending := none })))
      ∧ (b.mode ≠ .triggered → ∃ t : State, exec (.exerciseStart k.code) s = .next (replied 0x23 [0] t)
        ∧ BurstStarted k b rec s t ∧ BurstFrame k s t))
    ∧ (s.part.phase = .running → (s.channel k).state = .gap → (s.channel k).gap = some 0 →
      (b.mode = .triggered → exec (.gapExpiry k) s = .next
        (s.setChannel k { s.channel k with state := .wait, active := some b, pending := none, gap := none }))
      ∧ (b.mode ≠ .triggered → ∃ t : State, exec (.gapExpiry k) s = .next t
        ∧ (t.channel k).gap = none ∧ BurstStarted k b rec s t ∧ BurstFrame k s t ∧ t.link = s.link)))
  ∧ ∀ (s : State) (k : Slot), Ready s →
    let start := exec (.exerciseStart k.code) s
    ((s.slot k).board = .empty → start = .next (replied 0x23 [9] s))
    ∧ ((s.slot k).board ≠ .empty → s.zone.state = .safe → start = .next (replied 0x23 [7] s))
    ∧ ((s.slot k).board ≠ .empty → s.zone.state ≠ .safe →
      ((s.slot k).board ≠ .powered
        ∨ ((s.channel k).state = .wait ∨ (s.channel k).state = .burst ∨ (s.channel k).state = .gap)
        ∨ ((s.channel k).active = none ∧ (s.channel k).pending = none)
        ∨ ∃ b : BurstConfig, ((s.channel k).pending = some b
              ∨ ((s.channel k).pending = none ∧ (s.channel k).active = some b))
            ∧ s.store.records.get b.pattern = none) →
      start = .next (replied 0x23 [3] s))
    ∧ exec (.exerciseStart 4) s = .next (replied 0x23 [4] s)

/-- R87, R88: EXERCISE-STOP sends the channel to IDLE; a burst in flight is abandoned, with its counts, marks,
profile record and captures discarded and the abandoned-burst count raised. It is answered OK in every board state but
EMPTY, in SAFE and in IDENT too. That a capture names its burst by a number is log entry 33. -/
def Obligations.ExerciseStopAbandonsTheBurst : Prop :=
  ∀ (s : State) (k : Slot), Ready s →
    ((s.slot k).board = .empty → exec (.exerciseStop k.code) s = .next (replied 0x24 [9] s))
    ∧ ((s.slot k).board ≠ .empty → (s.channel k).state ≠ .burst → exec (.exerciseStop k.code) s = .next (replied 0x24 [0]
      (s.setChannel k { s.channel k with state := .idle, play := none, gap := none })))
    ∧ ((s.slot k).board ≠ .empty → (s.channel k).state = .burst → ∃ t : State,
        exec (.exerciseStop k.code) s = .next (replied 0x24 [0] t)
        ∧ (t.channel k).state = .idle ∧ (t.channel k).play = none
        ∧ (t.channel k).active = (s.channel k).active ∧ (t.channel k).pending = (s.channel k).pending
        ∧ (∀ g, (t.channel k).pulses.get g = [])
        ∧ (∀ i, (t.compare k).mismatch.get i = 0 ∧ (t.compare k).member.get i = false)
        ∧ (t.compare k).collecting = none ∧ (t.compare k).closing = (s.compare k).closing
        ∧ (∀ e ∈ (t.scanner k).captures, e.burst ≠ (s.channel k).burst)
        ∧ (t.slot k).abandoned = satInc 255 (s.slot k).abandoned
        ∧ SlotFrame k s t ∧ t.zone = s.zone
        ∧ ((s.slot k).applyDeferred = false → RecordsKept s t
            ∧ t.slot k = { s.slot k with abandoned := (t.slot k).abandoned })
        ∧ ((s.slot k).applyDeferred = true → (t.slot k).active = (s.slot k).staged
            ∧ (t.slot k).applyDone = true ∧ (t.slot k).applyDeferred = false))
    ∧ exec (.exerciseStop 4) s = .next (replied 0x24 [4] s)

/-- R85, R86, R88, R40: BURST-TRIGGER starts a burst from WAIT, under the pending configuration where its record is
defined, and restarts a TRIGGERED burst in flight, which is abandoned; a deferred apply is taken at that boundary, and
the new burst runs under it. Elsewhere the trigger is answered REFUSED-STATE (3), in SAFE REFUSED-SAFE (7), and for
an EMPTY slot NO-BOARD (9). -/
def Obligations.BurstTriggerStartsOrRestarts : Prop :=
  ∀ (s : State) (k : Slot), Ready s →
    let c := s.slot k
    let ch := s.channel k
    let trigger := exec (.burstTrigger k.code) s
    (c.board = .empty → trigger = .next (replied 0x25 [9] s))
    ∧ (c.board ≠ .empty → s.zone.state = .safe → trigger = .next (replied 0x25 [7] s))
    ∧ exec (.burstTrigger 4) s = .next (replied 0x25 [4] s)
    ∧ (c.board ≠ .empty → s.zone.state ≠ .safe →
      (ch.state = .idle ∨ ch.state = .gap ∨ ch.state = .done → trigger = .next (replied 0x25 [3] s))
      ∧ (∀ (b : BurstConfig) (rec : PatternRecord), ch.state = .wait → ClosingWaits k s →
          (ch.pending = some b
            ∨ (ch.active = some b
                ∧ (ch.pending = none ∨ ∃ c, ch.pending = some c ∧ s.store.records.get c.pattern = none))) →
          s.store.records.get b.pattern = some rec →
          ∃ t : State, trigger = .next (replied 0x25 [0] t) ∧ BurstStarted k b rec s t ∧ BurstFrame k s t)
      ∧ (∀ (a b : BurstConfig) (rec : PatternRecord), ch.state = .burst → ClosingWaits k s →
          ch.active = some a → a.mode = .triggered → (ch.pending = some b ∨ (ch.pending = none ∧ b = a)) →
          s.store.records.get b.pattern = some rec →
          ∃ t : State, trigger = .next (replied 0x25 [0] t) ∧ BurstStarted k b rec t t ∧ SlotFrame k s t
            ∧ t.zone = s.zone ∧ (∀ g, ((t.channel k).pulses.get g).length = 1)
            ∧ (t.slot k).abandoned = satInc 255 c.abandoned ∧ (t.slot k).burstDone = c.burstDone
            ∧ (c.applyDeferred = false → BurstStarted k b rec s t ∧ RecordsKept s t
                ∧ t.slot k = { c with abandoned := (t.slot k).abandoned })
            ∧ (c.applyDeferred = true → (t.slot k).active = c.staged ∧ (t.slot k).staged = c.staged
                ∧ (t.slot k).applyDone = true ∧ (t.slot k).applyDeferred = false
                ∧ (t.slot k).board = c.board))
      ∧ (∀ a : BurstConfig, ch.state = .burst → ch.active = some a → a.mode ≠ .triggered →
          trigger = .next (replied 0x25 [3] s)))

/-- R80, R81, R64, R69: a vector boundary drives the next vector of the pass, or the first vector of the next pass at
the rate step then set, and none after the last vector of the last pass. Each vector driven gives each clock group one
pulse; that pulses wait in a queue for each group is log entry 32. R46, R97, R99: at a capture point the entry joins the
end of the list in place of an older one for the point, or the hold goes into the set being converted for that point;
the burst whose capture is overwritten has its point LOST, and a closing record that then awaits none is discarded. That
an entry names its burst by a number is log entry 33. R66, R67: a POWERED board's lanes carry the driven vector's drive
bits through the active lane map in BURST and the idle word elsewhere, and its clock groups pulse in BURST and are held
low elsewhere; of any other board both are released. -/
def Obligations.VectorBoundaryPlaysThePasses : Prop :=
  (∀ (s : State) (k : Slot),
    let c := s.slot k
    let ch := s.channel k
    (c.board ≠ .powered → s.lanes k = none ∧ s.clockGroups k = .released)
    ∧ (c.board = .powered →
      s.clockGroups k = (if ch.state = .burst then .pulsing else .heldLow)
      ∧ ∃ level : Table 16 Bool, s.lanes k = some level ∧ ∀ l : Fin 16,
        let e := c.active.laneMap.get l
        let through (drive : BitVec 16) : Bool :=
          match e.mode with
          | .normal => drive.getLsbD e.source
          | .invert => !drive.getLsbD e.source
          | .forceLow => false
          | .forceHigh => true
        (ch.state ≠ .burst → level.get l = through 0)
        ∧ ∀ p : Play, ch.state = .burst → ch.play = some p → level.get l = through p.driven.drive))
  ∧ ∀ (s : State) (k : Slot) (p : Play), s.part.phase = .running → (s.channel k).state = .burst →
    (s.channel k).play = some p →
    let ch := s.channel k
    let last := p.record.start + p.record.length
    let next (pass position step : Nat) (t : State) : Prop :=
      let v := s.store.read position
      t.channel k = { ch with
          play := some ⟨p.record, pass, position, v⟩, rateStep := step
          pulses := ch.pulses.map fun q => q ++ [⟨v.expect, v.strobe⟩] }
        ∧ (capturePoint p.record pass position = none → t = s.setChannel k (t.channel k))
        ∧ (∀ c : Fin 8, capturePoint p.record pass position = some c →
          let into : Prop := ∃ set, (s.scanner k).converting = some set ∧ set.point = c
          let overwritten (burst : Nat) : Prop :=
            (∃ set, (s.scanner k).converting = some set ∧ set.point = c ∧ burst = set.restBurst)
              ∨ (¬ into ∧ ∃ e ∈ (s.scanner k).captures, e.point = c ∧ e.burst = burst)
          let lost (r : ProfileRecord) : ProfileRecord :=
            { r with points := r.points.set c .lost, samples := r.samples.map fun x => x.set c none }
          (¬ into → t.scanner k = { s.scanner k with
              captures := ((s.scanner k).captures.filter fun e => e.point != c) ++ [⟨c, ch.burst⟩] })
          ∧ (∀ set, (s.scanner k).converting = some set → set.point = c → t.scanner k = { s.scanner k with
              converting := some { set with restBurst := ch.burst, restDiscard := false } })
          ∧ (ClosingWaits k s →
            t = ((s.setChannel k (t.channel k)).setScanner k (t.scanner k)).setCompare k
                { s.compare k with collecting := (t.compare k).collecting, closing := (t.compare k).closing }
            ∧ ((s.compare k).collecting = none → (t.compare k).collecting = none)
            ∧ ((s.compare k).closing = none → (t.compare k).closing = none)
            ∧ (∀ r, (s.compare k).collecting = some r →
                (overwritten r.burst → (t.compare k).collecting = some (lost r))
                ∧ (¬ overwritten r.burst → (t.compare k).collecting = some r))
            ∧ ∀ r, (s.compare k).closing = some r →
                (overwritten r.burst → (∃ j, j ≠ c ∧ r.points.get j = .awaited) →
                  (t.compare k).closing = some (lost r))
                ∧ (overwritten r.burst → (∀ j, j ≠ c → r.points.get j ≠ .awaited) → (t.compare k).closing = none)
                ∧ (¬ overwritten r.burst → (t.compare k).closing = some r)))
    (p.position + 1 < last →
      ∃ t : State, exec (.vectorBoundary k) s = .next t ∧ next p.pass (p.position + 1) ch.rateStep t)
    ∧ (last ≤ p.position + 1 → p.pass < ch.passes →
      ∃ t : State, exec (.vectorBoundary k) s = .next t
        ∧ next (p.pass + 1) p.record.start (s.throttle k).step t)
    ∧ (last ≤ p.position + 1 → ch.passes ≤ p.pass → exec (.vectorBoundary k) s = .next s)

/-- R69, R90: the sample instant of the oldest pulse of a group raises the mismatch count of each member of the
group whose response differs from a strobed vector's expect bit, and changes no other count. That a group's pulses wait
in a queue is log entry 32. -/
def Obligations.SampleInstantCountsMismatches : Prop :=
  ∀ (s : State) (k : Slot) (g : Fin 4) (levels : Byte) (pulse : Pulse) (rest : List Pulse),
    s.part.phase = .running → (s.channel k).state = .burst → (s.channel k).pulses.get g = pulse :: rest →
    ∃ counts : Table 32 Nat,
      exec (.sampleInstant k g levels) s = .next
        ((s.setChannel k { s.channel k with pulses := (s.channel k).pulses.set g rest }).setCompare k
          { s.compare k with mismatch := counts })
      ∧ ∀ i : Socket, counts.get i =
          if pulse.strobe = true ∧ i.val / 8 = g.val ∧ (s.compare k).member.get i = true
              ∧ levels.getLsbD (i.val % 8) ≠ pulse.expect ∧ (s.compare k).mismatch.get i < 65535 then
            (s.compare k).mismatch.get i + 1
          else if pulse.strobe = true ∧ i.val / 8 = g.val ∧ (s.compare k).member.get i = true
              ∧ levels.getLsbD (i.val % 8) ≠ pulse.expect then 65535
          else (s.compare k).mismatch.get i

/-- R82, R83, R84, R92, R40, R98, R99: a burst that reaches its end, with or without a profile record or a deferred
apply. Each member over the tolerance is reported failing and no other socket is; outside a next burst the counts and
marks are cleared and no record collects; the channel follows its mode, and a SINGLE burst sets BURST-DONE and raises
BURST. A collecting profile record is discarded after fewer than eight passes, and otherwise becomes the closing record,
or takes its verdict at once where no point is AWAITED; a closing record that still waits stays, unless the next burst
overwrites its capture. A deferred apply is taken after the verdicts and before the next burst. That a burst's end waits
for the pulses of each group's queue is log entry 32. -/
def Obligations.BurstEndTakesVerdictsAndFollowsItsMode : Prop :=
  ∀ (s : State) (k : Slot) (p : Play) (b : BurstConfig), s.part.phase = .running →
    (s.channel k).state = .burst → (s.channel k).play = some p → (s.channel k).active = some b →
    p.record.start + p.record.length ≤ p.position + 1 → b.passes ≤ p.pass →
    (∀ g, (s.channel k).pulses.get g = []) →
    let c := s.slot k
    let ch := s.channel k
    let failing (i : Socket) : Prop :=
      (s.compare k).member.get i = true ∧ p.record.tolerance < (s.compare k).mismatch.get i
    let discarded : Prop := (s.compare k).collecting = none ∨ b.passes < 8
    let unjudged : Prop := discarded ∨ ∃ r, (s.compare k).collecting = some r ∧ ∃ j : Fin 8, r.points.get j = .awaited
    ∃ t : State, exec (.burstEnd k) s = .next t ∧ SlotFrame k s t ∧ t.link = s.link ∧ t.zone = s.zone
      -- the functional verdicts
      ∧ (∀ i : Socket,
          (failing i → (t.record k i).verdict = .failed ∧ (t.record k i).loggedFunctional = true
            ∧ (t.record k i).failing = satInc 65535 (s.record k i).failing)
          ∧ (¬ failing i → (t.record k i).failing = (s.record k i).failing))
      -- the state after, by mode
      ∧ ((t.channel k).state ≠ .burst → (t.compare k).collecting = none
          ∧ ∀ i, (t.compare k).mismatch.get i = 0 ∧ (t.compare k).member.get i = false)
      ∧ (b.mode = .periodic → t.channel k = { ch with state := .gap, play := none, gap := some b.gap })
      ∧ (b.mode = .triggered → t.channel k = { ch with state := .wait, play := none })
      ∧ (b.mode = .single → t.channel k = { ch with state := .done, play := none }
          ∧ (t.slot k).burstDone = true ∧ t.alert.raised.getLsbD 7 = true)
      ∧ (b.mode ≠ .single → (t.slot k).burstDone = c.burstDone)
      ∧ (∀ (n : BurstConfig) (rec : PatternRecord), b.mode = .continuous →
          (ch.pending = some n ∨ (ch.pending = none ∧ n = b)) → s.store.records.get n.pattern = some rec →
          (n.mode = .triggered →
            t.channel k = { ch with state := .wait, play := none, active := some n, pending := none })
          ∧ (n.mode ≠ .triggered → BurstStarted k n rec t t))
      -- the profile records
      ∧ (discarded → ClosingWaits k s → (∀ i : Socket, NotJudged k i s t)
          ∧ ((s.compare k).closing = none → (t.compare k).closing = none)
          ∧ ((t.channel k).state ≠ .burst ∨ (t.compare k).collecting = none →
              (t.compare k).closing = (s.compare k).closing))
      ∧ (∀ r : ProfileRecord, (s.compare k).collecting = some r → 8 ≤ b.passes → (s.compare k).closing = none →
          ((∃ j : Fin 8, r.points.get j = .awaited) → (∀ i : Socket, NotJudged k i s t)
            ∧ ((t.channel k).state ≠ .burst ∨ (t.compare k).collecting = none →
                (t.compare k).closing = some { r with members := (s.compare k).member
                                                      strikeLimit := some c.active.devLimit }))
          ∧ ((∀ j : Fin 8, r.points.get j ≠ .awaited) → (t.compare k).closing = none
            ∧ ∀ i : Socket, ProfileJudged k { r with members := (s.compare k).member } c.active.devLimit i s t))
      -- the apply, and what no verdict and no apply has touched
      ∧ (c.applyDeferred = true → (t.slot k).active = c.staged ∧ (t.slot k).staged = c.staged
          ∧ (t.slot k).applyDone = true ∧ (t.slot k).applyDeferred = false ∧ (t.slot k).board = c.board)
      ∧ (c.applyDeferred = false → unjudged → ClosingWaits k s →
          (∀ i : Socket, ¬ failing i → t.record k i = s.record k i)
          ∧ ((∀ i : Socket, ¬ failing i) →
              t.log = s.log ∧ t.slot k = { c with burstDone := (t.slot k).burstDone }))

/-- R100 to R102, R47, R97, R99: a socket of a finished profile record, under every deviation strike limit; and the
step that finishes a closing record: the end of the last conversion of the last capture set it waits for. That sets and
records name their burst by a number is log entry 33. -/
def Obligations.ProfileVerdictAddsStrikesAboveTheLimit : Prop :=
  (∀ (s : State) (k : Slot) (rec : ProfileRecord) (i : Socket) (smp : Table 8 Nat) (limit : Nat),
    rec.members.get i = true → (∀ j : Fin 8, (rec.samples.get i).get j = some (smp.get j)) →
    rec.strikeLimit = some limit →
    let ratio := profileRatio rec i smp
    let struck := satInc 15 ((s.compare k).devStrikes.get i)
    let t := judgeSocket k rec i s
    (ratio ≤ rec.limit → t = s)
    ∧ (rec.limit < ratio → (t.compare k).devStrikes.get i = struck
        ∧ (limit ≤ struck →
            (t.record k i).verdict = .failed
            ∧ (t.record k i).reports = satInc 65535 (s.record k i).reports
            ∧ ((s.record k i).loggedProfile = false →
                ∃ x, t.log.entries.getLast? = some x ∧ x.cause = .currentProfile ∧ x.socket = some i
                  ∧ x.detail = u16 ratio ++ u16 (profileH1 rec i smp) ++ u16 (profileH2 rec i smp)))
        ∧ (struck < limit → t.record k i = s.record k i ∧ t.log = s.log)))
  ∧ ∀ (s : State) (k : Slot) (cv : Conversion) (set : CaptureSet) (rec : ProfileRecord) (limit : Nat)
      (reading : Option Int), s.part.phase = .running → (s.scanner k).running = true →
    (s.scanner k).conversion = some cv → (s.scanner k).converting = some set → set.count ≤ set.socket + 1 →
    set.discard = false → set.restDiscard = false → rec.burst = set.burst → rec.burst = set.restBurst →
    (s.compare k).collecting = none → (s.compare k).closing = some rec → rec.strikeLimit = some limit →
    rec.points.get set.point = .awaited → (∀ j : Fin 8, j ≠ set.point → rec.points.get j ≠ .awaited) →
    let n := socketOf set.socket
    let samples := match reading with
      | some x => rec.samples.set n ((rec.samples.get n).set set.point
          (some (min 255 (x.toNat * 255 / cv.fullScale))))
      | none => rec.samples
    ∃ t : State, exec (.conversionEnd k reading) s = .next t ∧ SlotFrame k s t
      ∧ (t.compare k).closing = none ∧ (t.compare k).collecting = none
      ∧ ∀ i : Socket, ProfileJudged k
          { rec with samples := samples, points := rec.points.set set.point .complete } limit i s t

/-! ## Rails -/

/-- R22, R23, R125: BOARD-POWER-UP of a PRESENT board that may be powered starts the ramp with the first rail of
the rail order, leaving the second OFF; in every other case it changes nothing and answers as R22 gives. -/
def Obligations.BoardPowerUpStartsTheRamp : Prop :=
  ∀ (s : State) (k : Slot), Ready s →
    let c := s.slot k
    let up := exec (.boardPowerUp k.code) s
    (s.zone.state ≠ .safe →
      (c.board = .present → c.status = .valid → c.active.vcore ≠ 0 → c.active.vio ≠ 0 →
        (c.active.order = .vioFirst → up = .next (replied 0x10 [0] (s.setSlot k
          { c with board := .ramping, ramp := some ⟨.vioFirst, .first⟩
                   vio := { c.vio with target := c.active.vio, cond := .settling, settle := some 200 } })))
        ∧ (c.active.order = .vcoreFirst → up = .next (replied 0x10 [0] (s.setSlot k
          { c with board := .ramping, ramp := some ⟨.vcoreFirst, .first⟩
                   vcore := { c.vcore with target := c.active.vcore, cond := .settling
                                           settle := some 200 } }))))
      ∧ (c.board = .present → (c.status ≠ .valid ∨ c.active.vcore = 0 ∨ c.active.vio = 0) →
          up = .next (replied 0x10 [3] s))
      ∧ (c.board = .ramping ∨ c.board = .powered → up = .next (replied 0x10 [0] s))
      ∧ (c.board = .ident ∨ c.board = .draining ∨ c.board = .tripped → up = .next (replied 0x10 [3] s)))
    ∧ (c.board = .empty → up = .next (replied 0x10 [9] s))
    ∧ (c.board ≠ .empty → s.zone.state = .safe → up = .next (replied 0x10 [7] s))
    ∧ exec (.boardPowerUp 4) s = .next (replied 0x10 [4] s)

/-- R25, R52, R89, R121: BOARD-POWER-DOWN opens every switch, stops the channel and begins to lower the rail that
comes second in the rail order; the drain limit of that rail, when due, or a sample of it below 100 mV, or any sample of
a rail that was OFF when its lowering began, sets it OFF and lowers the other, and the other's ends the drain in
PRESENT. That an expiry acts only when due, the order of the effects, and that the rail order read is the one before
a deferred apply, are log entries 3, 12 and 13. -/
def Obligations.DrainLowersTheRailsInReverseOrder : Prop :=
  (∀ (s : State) (k : Slot),
    let c := s.slot k
    let down : Rail := if c.active.order = .vioFirst then .vcore else .vio
    (Ready s → (c.board = .ramping ∨ c.board = .powered ∨ c.board = .tripped) →
      ∃ t : State, exec (.boardPowerDown k.code) s = .next (replied 0x11 [0] t)
        ∧ (t.slot k).board = .draining ∧ (t.slot k).ramp = none ∧ (t.slot k).dwell = none
        ∧ (t.slot k).drain = some ⟨down, false, decide ((down.of c).cond = .off)⟩
        ∧ (t.slot k).drainLimit = some 200
        ∧ down.of (t.slot k) = ⟨(down.of c).command, 0, .lowering, 0, 0, none⟩
        ∧ (∀ i, (t.socket k i).power ≠ .on ∧ (t.socket k i).power ≠ .tripWait)
        ∧ (t.channel k).state = .idle ∧ t.throttle k = ⟨0, none, none⟩ ∧ SlotFrame k s t
        ∧ ((s.channel k).state ≠ .burst → RecordsKept s t ∧ ∀ i, t.socket k i = (s.socket k i).release))
    ∧ (Ready s → (c.board = .ident ∨ c.board = .present ∨ c.board = .draining) →
        exec (.boardPowerDown k.code) s = .next (replied 0x11 [0] s))
    ∧ (Ready s → c.board = .empty → exec (.boardPowerDown k.code) s = .next (replied 0x11 [9] s))
    ∧ ∀ (r : Rail) (off : Bool), s.part.phase = .running → c.board = .draining → c.drainLimit = some 0 →
        (c.drain = some ⟨r, true, off⟩ → exec (.drainLimitExpiry k) s = .next (s.setSlot k
          { c.setRail r Config.railOff with board := .present, drain := none, drainLimit := none }))
        ∧ (c.drain = some ⟨r, false, off⟩ →
          let o := r.other
          let x := o.of c
          exec (.drainLimitExpiry k) s = .next (s.setSlot k
            { (c.setRail r Config.railOff).setRail o { x with target := 0, cond := .lowering } with
                drain := some ⟨o, true, decide (x.cond = .off)⟩, drainLimit := some 200 })))
  ∧ ∀ (s : State) (k : Slot) (r : Rail) (d : Drain) (cv : Conversion) (v : Nat) (x : Int),
    s.part.phase = .running → (s.scanner k).running = true → (s.scanner k).conversion = some cv →
    cv.discard = false → (s.scanner k).converting = none → (s.scanner k).partialResult = some v →
    (s.scanner k).position = (if r = .vcore then 1 else 3) → (s.slot k).board = .draining →
    (s.slot k).drain = some d →
    let c := s.slot k
    let done := d.rail = r ∧ (v < 100 ∨ d.wasOff = true)
    ∃ t : State, exec (.conversionEnd k (some x)) s = .next t ∧ SlotFrame k s t ∧ RecordsKept s t
      ∧ t.zone = s.zone ∧ t.channel k = s.channel k ∧ t.compare k = s.compare k
      ∧ (¬ done → t.slot k = c)
      ∧ (done → d.last = true → t.slot k
          = { c.setRail r Config.railOff with board := .present, drain := none, drainLimit := none })
      ∧ (done → d.last = false →
        let o := r.other
        let y := o.of c
        t.slot k = { (c.setRail r Config.railOff).setRail o { y with target := 0, cond := .lowering } with
            drain := some ⟨o, true, decide (y.cond = .off)⟩, drainLimit := some 200 })

/-- R21, R28: a settle limit that expires while its rail is SETTLING trips the board with the cause
RAIL-TIMEOUT; one that is not due, or whose rail is not SETTLING, changes nothing (log entry 3). `Tripped` puts
the BOARD-RAIL entry after those of a deferred apply of the same step, which is log entry 12. -/
def Obligations.SettleLimitTripsTheBoard : Prop :=
  ∀ (s : State) (k : Slot) (r : Rail), s.part.phase = .running →
    let c := s.slot k
    ((c.board = .ramping ∨ c.board = .powered) → (r.of c).cond = .settling → (r.of c).settle = some 0 →
      ∃ t : State, exec (.settleLimitExpiry k r) s = .next t ∧ Tripped k r .railTimeout s t ∧ t.link = s.link)
    ∧ ((r.of c).cond ≠ .settling ∨ (r.of c).settle ≠ some 0 → exec (.settleLimitExpiry k r) s = .next s)

/-- R24, R31, R32: the end of a dwell starts the next inrush step, and that of step 7 enters POWERED. Each OFF and
eligible socket of the step, or at POWERED entry of the board, goes ON, or is tripped at once where its
switch-fault input is active; no other socket changes. That a dwell acts only when due is log entry 3, and the
mismatch count 0 of a tripped socket is log entry 14. -/
def Obligations.InrushDwellSwitchesTheNextSocketsOn : Prop :=
  ∀ (s : State) (k : Slot) (order : RailOrder) (n : Nat), s.part.phase = .running →
    (s.slot k).board = .ramping → (s.slot k).ramp = some ⟨order, .inrush n⟩ → (s.slot k).dwell = some 0 →
    ∃ t : State, exec (.inrushDwellExpiry k) s = .next t ∧ SlotFrame k s t ∧ t.link = s.link
      ∧ (n < 7 → (t.slot k).board = .ramping ∧ (t.slot k).ramp = some ⟨order, .inrush (n + 1)⟩
          ∧ (t.slot k).dwell = some (s.slot k).active.dwell)
      ∧ (7 ≤ n → (t.slot k).board = .powered ∧ (t.slot k).ramp = none ∧ (t.slot k).dwell = none)
      ∧ ∀ i : Socket,
          let p := s.socket k i
          let chosen := (7 ≤ n ∨ i.val / 4 = n + 1) ∧ p.power = .off ∧ s.eligible k i = true
          (chosen → (s.lines.switchFault.get k).get i = false → t.socket k i = ⟨.on, p.strikes, p.overCode, none⟩)
          ∧ (chosen → (s.lines.switchFault.get k).get i = true → SocketTripped k i s t)
          ∧ (¬ chosen → t.socket k i = p ∧ t.record k i = s.record k i)

/-- R20, R21, R23, R26, R28, R52: the sample of a rail of a RAMPING or POWERED board. The record takes it; two
samples over the current limit, or three out of the window while HELD, trip the board; otherwise a SETTLING rail
whose command has reached its target and whose voltage lies in the window becomes HELD, which starts the ramp's
second rail or its inrush stage. The overcurrent check comes before the settle check (log entry 10), the command
is judged at the sample's arrival (log entry 11), which of two trips is taken is free (log entry 7), and the
BOARD-RAIL entry is the newest (log entry 12). -/
def Obligations.RailSampleTripsOrSettlesTheRail : Prop :=
  ∀ (s : State) (k : Slot) (r : Rail) (cv : Conversion) (v x : Nat), s.part.phase = .running →
    (s.scanner k).running = true → (s.scanner k).conversion = some cv → cv.discard = false →
    (s.scanner k).converting = none → (s.scanner k).partialResult = some v → x ≤ 65535 →
    (s.scanner k).position = (if r = .vcore then 1 else 3) →
    ((s.slot k).board = .ramping ∨ (s.slot k).board = .powered) →
    let c := s.slot k
    let rail := r.of c
    let set := c.active.setpoint r
    let window := set * c.active.window / 100
    let inside := v ≤ set + window ∧ set ≤ v + window
    let high := c.railLimit r < x ∧ 1 ≤ rail.overRun
    let under := rail.cond = .held ∧ ¬ inside ∧ 2 ≤ rail.windowMiss
    let settles := ¬ high ∧ ¬ under ∧ rail.cond = .settling ∧ rail.command = rail.target ∧ inside
    ∃ t : State, exec (.conversionEnd k (some (x : Int))) s = .next t ∧ SlotFrame k s t ∧ t.link = s.link
      ∧ (r = .vcore → (t.scanner k).vcore = ⟨v, x, true⟩ ∧ (t.scanner k).vio = (s.scanner k).vio)
      ∧ (r = .vio → (t.scanner k).vio = ⟨v, x, true⟩ ∧ (t.scanner k).vcore = (s.scanner k).vcore)
      ∧ (high → ¬ under → Tripped k r .overcurrent s t)
      ∧ (under → ¬ high → Tripped k r .undervoltage s t)
      ∧ (high → under → Tripped k r .overcurrent s t ∨ Tripped k r .undervoltage s t)
      ∧ (¬ high → ¬ under → ¬ settles → t.slot k = c.setRail r
          { rail with overRun := if c.railLimit r < x then 1 else 0
                      windowMiss := if rail.cond = .held ∧ ¬ inside then rail.windowMiss + 1 else 0 })
      ∧ (settles → c.ramp = none → r.of (t.slot k) = ⟨rail.command, rail.target, .held, 0,
            if c.railLimit r < x then 1 else 0, none⟩
          ∧ r.other.of (t.slot k) = r.other.of c ∧ (t.slot k).board = c.board)
      ∧ (∀ o : RailOrder, settles → c.ramp = some ⟨o, .first⟩ → o.first = r →
          (t.slot k).ramp = some ⟨o, .second⟩ ∧ (r.of (t.slot k)).cond = .held
            ∧ (r.other.of (t.slot k)).cond = .settling ∧ (r.other.of (t.slot k)).settle = some 200
            ∧ (r.other.of (t.slot k)).target = c.active.setpoint r.other
            ∧ (r.other.of (t.slot k)).command = (r.other.of c).command)
      ∧ (∀ o : RailOrder, settles → c.ramp = some ⟨o, .second⟩ → (r.other.of c).cond = .held →
          (t.slot k).ramp = some ⟨o, .inrush 0⟩ ∧ (t.slot k).dwell = some c.active.dwell
            ∧ (r.of (t.slot k)).cond = .held
            ∧ ∀ i : Socket, i.val < 4 → (s.socket k i).power = .off → s.eligible k i = true →
                (s.lines.switchFault.get k).get i = false → (t.socket k i).power = .on)

/-! ## Settings -/

/-- R18, R19: BOARD-STAGE writes the staged copy alone: every item of a list whose values are in range, in order,
with a setpoint above its maximum clamped. A list with any value out of range or an unknown item code, and one
that sets a setpoint off while the board is RAMPING or POWERED, are refused with nothing written. The layout of
the reply is log entry 19, and a setpoint above the range maximum is clamped by log entry 38. For an EMPTY slot the
answer is NO-BOARD and in IDENT REFUSED-STATE, once the payload has been divided into known items (log entry 20). -/
def Obligations.BoardStageWritesOnlyTheStagedCopy : Prop :=
  (∀ (s : State) (k : Slot) (items : List StageItem), Ready s → 1 ≤ items.length → items.length ≤ 15 →
    (∀ n : Nat, .unknown n ∉ items) →
    ((s.slot k).board = .empty → exec (.boardStage k.code items) s = .next (replied 0x12 [9] s))
    ∧ ((s.slot k).board = .ident → exec (.boardStage k.code items) s = .next (replied 0x12 [3] s))
    ∧ exec (.boardStage 4 items) s = .next (replied 0x12 [4] s))
  ∧ ∀ (s : State) (k : Slot), Ready s → (s.slot k).board ≠ .empty → (s.slot k).board ≠ .ident →
    let c := s.slot k
    let stage (items : List StageItem) := exec (.boardStage k.code items) s
    let answers (status : Byte) (t : Settings) : Host.Outcome State Fault Refusal :=
      .next (replied 0x12 (status :: (settingsBytes c.active ++ settingsBytes t))
        (s.setSlot k { c with staged := t }))
    (∀ items : List StageItem, 1 ≤ items.length → items.length ≤ 15 →
        ∃ (t : Settings) (p : List Byte), stage items = .next (replied 0x12 p (s.setSlot k { c with staged := t })))
    ∧ (∀ (d : Descriptor) (mv : Nat), c.status = .valid → c.descriptor = some d → 400 ≤ mv →
        let limit := min 2500 d.vcoreMax
        stage [.vcore mv] = answers (if limit < mv then 2 else 0) { c.staged with vcore := min limit mv })
    ∧ (∀ mv : Nat, c.status ≠ .valid → 1000 ≤ mv →
        stage [.vio mv] = answers (if 3600 < mv then 2 else 0) { c.staged with vio := min 3600 mv })
    ∧ (∀ mv : Nat, 0 < mv → mv < 400 → stage [.vcore mv] = .next (replied 0x12 [4] s))
    ∧ (∀ mv : Nat, 0 < mv → mv < 1000 → stage [.vio mv] = .next (replied 0x12 [4] s))
    ∧ (c.board.checked = true → stage [.vcore 0] = .next (replied 0x12 [3] s)
        ∧ stage [.vio 0] = .next (replied 0x12 [3] s))
    ∧ (c.board.checked = false → stage [.vcore 0] = answers 0 { c.staged with vcore := 0 })
    ∧ (∀ n : Nat, 1 ≤ n → n ≤ 15 → stage [.strikeLimit n] = answers 0 { c.staged with strikeLimit := n }
        ∧ stage [.devLimit n] = answers 0 { c.staged with devLimit := n })
    ∧ (∀ n : Nat, (n = 0 ∨ 15 < n) → stage [.strikeLimit n] = .next (replied 0x12 [4] s)
        ∧ stage [.devLimit n] = .next (replied 0x12 [4] s))
    ∧ (∀ n : Nat, 1 ≤ n → n ≤ 100 → stage [.dwell n] = answers 0 { c.staged with dwell := n }
        ∧ stage [.slew n] = answers 0 { c.staged with slew := n })
    ∧ (∀ n m : Nat, 1 ≤ n → n ≤ 10 → 1 ≤ m → m ≤ 255 →
        stage [.window n, .retryDelay m] = answers 0 { c.staged with window := n, retryDelay := m })
    ∧ stage [.readout] = answers 0 c.staged
    ∧ stage [] = .next (replied 0x12 [5] s)
    ∧ (∀ items : List StageItem, 1 ≤ items.length → items.length ≤ 15 →
        let core := match c.status, c.descriptor with
          | .valid, some d => min 2500 d.vcoreMax
          | _, _ => 2500
        let io := match c.status, c.descriptor with
          | .valid, some d => min 3600 d.vioMax
          | _, _ => 3600
        ((∀ i ∈ items, StageOk i) → (c.board.checked = true → .vcore 0 ∉ items ∧ .vio 0 ∉ items) →
          stage items = answers (if items.any (stageAbove core io) then 2 else 0)
            (items.foldl (stagePut core io) c.staged))
        ∧ ((∀ i ∈ items, StageOk i) → c.board.checked = true → (.vcore 0 ∈ items ∨ .vio 0 ∈ items) →
          stage items = .next (replied 0x12 [3] s))
        ∧ ((∃ i ∈ items, ¬ StageOk i) → stage items = .next (replied 0x12 [4] s)))

/-- R39 to R41: an apply is deferred while a burst is in flight and is otherwise taken: the staged copy becomes
active, a HELD rail of a RAMPING or POWERED board whose setpoint changed is SETTLING again, a SETTLING one takes
the new target, a lowered strike limit quarantines each socket that has as many strikes and gives every QUARANTINED
socket that count, a policy changed to DROP switches FAILED sockets off, and one changed to KEEP switches the OFF
and eligible sockets of a POWERED board on. That the limit acts before the policy is log entry 39, that a GOOD
socket that is OFF goes ON too is log entry 31, and the mismatch count 0 of a tripped socket is log entry 14. An EMPTY
slot is answered NO-BOARD and one in IDENT REFUSED-STATE. -/
def Obligations.BoardApplyTakesTheStagedCopy : Prop :=
  (∀ (s : State) (k : Slot), Ready s →
    ((s.slot k).board = .empty → exec (.boardApply k.code) s = .next (replied 0x13 [9] s))
    ∧ ((s.slot k).board = .ident → exec (.boardApply k.code) s = .next (replied 0x13 [3] s))
    ∧ exec (.boardApply 4) s = .next (replied 0x13 [4] s))
  ∧ ∀ (s : State) (k : Slot), Ready s → (s.slot k).board ≠ .empty → (s.slot k).board ≠ .ident →
    let c := s.slot k
    let apply := exec (.boardApply k.code) s
    (c.board.checked = true → (c.staged.vcore = 0 ∨ c.staged.vio = 0) → apply = .next (replied 0x13 [3] s))
    ∧ (c.board.checked = false ∨ (c.staged.vcore ≠ 0 ∧ c.staged.vio ≠ 0) →
      (c.applyDeferred = true → apply = .next (replied 0x13 [1] s))
      ∧ (c.applyDeferred = false → (s.channel k).state = .burst →
          apply = .next (replied 0x13 [1] (s.setSlot k { c with applyDeferred := true })))
      ∧ (c.applyDeferred = false → (s.channel k).state ≠ .burst → ∃ t : State,
          apply = .next (replied 0x13 [0] t) ∧ SlotFrame k s t ∧ t.zone = s.zone
          ∧ t.channel k = s.channel k ∧ t.scanner k = s.scanner k
          ∧ (t.slot k).active = c.staged ∧ (t.slot k).staged = c.staged ∧ (t.slot k).applyDone = true
          ∧ (t.slot k).applyDeferred = false ∧ (t.slot k).board = c.board
          ∧ (∀ r : Rail, c.board.checked = true → (r.of c).cond = .held →
              c.active.setpoint r ≠ c.staged.setpoint r →
              r.of (t.slot k) = { r.of c with target := c.staged.setpoint r, cond := .settling
                                              settle := some 200, windowMiss := 0 })
          ∧ (∀ r : Rail, c.board.checked = true → (r.of c).cond = .settling →
              r.of (t.slot k) = { r.of c with target := c.staged.setpoint r })
          ∧ (∀ r : Rail, (c.board.checked = false ∨ (r.of c).cond = .off ∨ c.active.setpoint r = c.staged.setpoint r) →
              (c.board.checked = false ∨ (r.of c).cond ≠ .settling) → r.of (t.slot k) = r.of c)
          ∧ ∀ i : Socket,
            let p := s.socket k i
            let reached := c.staged.strikeLimit < c.active.strikeLimit
              ∧ (p.power = .quarantined ∨ c.staged.strikeLimit ≤ p.strikes)
            let goesOn := c.active.policy = .drop ∧ c.staged.policy = .keep ∧ c.board = .powered ∧ p.power = .off
              ∧ ∃ d, c.descriptor = some d ∧ i.val < d.socketCount
            let falls := c.active.policy = .keep ∧ c.staged.policy = .drop ∧ (s.record k i).verdict = .failed
              ∧ (p.power = .on ∨ p.power = .tripWait)
            (reached → (t.socket k i).power = .quarantined ∧ (t.socket k i).strikes = c.staged.strikeLimit
              ∧ (p.power ≠ .quarantined → (t.record k i).verdict = .failed)
              ∧ (p.power = .quarantined → t.record k i = s.record k i))
            ∧ (¬ reached → goesOn → (s.lines.switchFault.get k).get i = false →
                t.socket k i = ⟨.on, p.strikes, p.overCode, none⟩ ∧ t.record k i = s.record k i)
            ∧ (¬ reached → goesOn → (s.lines.switchFault.get k).get i = true →
                SocketTripped k i (s.setSlot k { c with active := c.staged }) t)
            ∧ (¬ reached → falls → t.socket k i = ⟨.off, p.strikes, none, none⟩ ∧ t.record k i = s.record k i)
            ∧ (¬ reached → ¬ goesOn → ¬ falls → t.socket k i = p ∧ t.record k i = s.record k i)))

/-! ## Presence and identity -/

/-- R2, R43, R4: a board found in an EMPTY slot of a running part is in IDENT with its events cleared and its
scanner RUNNING; the 50 ms limit, when due, leaves it PRESENT with the status NO-ANSWER. Elsewhere an insertion
changes the line alone, and a limit that is not due or not in IDENT changes nothing (log entry 3). -/
def Obligations.InsertionStartsTheIdentityRead : Prop :=
  ∀ (s : State) (k : Slot),
    let lineOn := { s with lines.present := s.lines.present.set k true }
    (s.part.phase ≠ .running ∨ (s.slot k).board ≠ .empty → exec (.boardInserted k) s = .next lineOn)
    ∧ (s.part.phase = .running → (s.slot k).board = .empty → s.scanner k = scannerStopped →
        exec (.boardInserted k) s = .next ((lineOn.setSlot k
            { s.slot k with board := .ident, identLimit := some 50, railTrip := false, socketTrip := false
                            burstDone := false, applyDone := false, abandoned := 0 }).setScanner k
          { scannerStopped with running := true, roundCount := (s.slot k).countInForce
                                conversion := some ⟨(s.slot k).active.fullScale, false⟩ }))
    ∧ (s.part.phase = .running → (s.slot k).board = .ident → (s.slot k).identLimit = some 0 →
        exec (.identityTimeout k) s = .next (s.setSlot k
          { s.slot k with board := .present, status := .noAnswer, identLimit := none }))
    ∧ (s.part.phase = .running → ((s.slot k).board ≠ .ident ∨ (s.slot k).identLimit ≠ some 0) →
        exec (.identityTimeout k) s = .next s)

/-- R3 to R7, R94, R103, R129: an identity answer taken in IDENT. Out of range it is recorded and nothing else
happens; in range it tags an untagged set, continues a set of the same tag, and retags any other with its
records zeroed and the slot prepared, and the descriptor is then applied. -/
def Obligations.IdentityAnswerTagsTheSet : Prop :=
  ∀ (s : State) (k : Slot) (i : Identity) (d : Descriptor), s.part.phase = .running →
    (s.slot k).board = .ident →
    let c := s.slot k
    let set := s.acct.sets.get k
    let inRange := (1 ≤ d.socketCount ∧ d.socketCount ≤ 32) ∧ (400 ≤ d.vcoreMax ∧ d.vcoreMax ≤ 2500)
      ∧ (1000 ≤ d.vioMax ∧ d.vioMax ≤ 3600) ∧ (1 ≤ d.vcoreLimit ∧ d.vcoreLimit ≤ 65535)
      ∧ (1 ≤ d.vioLimit ∧ d.vioLimit ≤ 65535)
    (¬ inRange → exec (.identityAnswer k i d) s = .next (s.setSlot k
      { c with identity := some i, descriptor := some d, board := .present, identLimit := none
               status := .outOfRange }))
    ∧ (inRange → ∃ t : State, exec (.identityAnswer k i d) s = .next t ∧ SlotFrame k s t ∧ t.link = s.link
      ∧ t.zone = s.zone ∧ t.scanner k = s.scanner k
      ∧ (t.slot k).board = .present ∧ (t.slot k).identity = some i ∧ (t.slot k).descriptor = some d
      ∧ (t.slot k).status = .valid ∧ (t.slot k).identLimit = none ∧ (t.acct.sets.get k).tag = some i
      ∧ (∀ n : Socket, d.socketCount ≤ n.val → t.socket k n = ⟨.masked, 0, none, none⟩)
      ∧ (set.tag = none ∨ set.tag = some i →
          (t.acct.sets.get k).recs = set.recs ∧ t.log = s.log ∧ t.alert = s.alert
          ∧ t.channel k = s.channel k ∧ t.compare k = s.compare k
          ∧ (t.slot k).active = { c.active with vcore := min c.active.vcore d.vcoreMax
                                                vio := min c.active.vio d.vioMax }
          ∧ (t.slot k).staged = { c.staged with vcore := min c.staged.vcore d.vcoreMax
                                                vio := min c.staged.vio d.vioMax }
          ∧ ∀ n : Socket, n.val < d.socketCount → t.socket k n = s.socket k n)
      ∧ (∀ old : Identity, set.tag = some old → old ≠ i →
          (∀ n : Socket, t.record k n = Config.zeroRecord ∧ (t.compare k).devStrikes.get n = 0)
          ∧ NewestIs t (some k) none .slotRetagged (u24 old.serial)
          ∧ (t.channel k).active = none ∧ (t.channel k).pending = none
          ∧ (t.slot k).active = Config.settings ∧ (t.slot k).staged = Config.settings
          ∧ (t.slot k).applyDeferred = false
          ∧ ∀ n : Socket, n.val < d.socketCount → t.socket k n = ⟨.off, 0, none, none⟩))

/-- R8 to R11: a board removed from a running part leaves its slot EMPTY, hard-off and with no identity, its
channel IDLE, its scanner STOPPED and its closing record discarded; from RAMPING, POWERED or DRAINING it is
logged as BOARD-PULLED with the state it left. R12: the sockets keep their states (but for ON and TRIP-WAIT, which
become OFF) and strikes, and the settings, the deviation strikes and the set with its tag are kept, but for what a
deferred apply of the same removal does. That the BOARD-PULLED entry is the newest is log entry 12. -/
def Obligations.RemovalMakesTheSlotSafe : Prop :=
  ∀ (s : State) (k : Slot),
    let lineOff := { s with lines.present := s.lines.present.set k false }
    let left := (s.slot k).board
    (s.part.phase ≠ .running ∨ left = .empty → exec (.boardRemoved k) s = .next lineOff)
    ∧ (s.part.phase = .running → left ≠ .empty → ∃ t : State,
        exec (.boardRemoved k) s = .next t ∧ SlotFrame k lineOff t ∧ t.link = s.link
        ∧ (t.slot k).board = .empty ∧ HardOff (t.slot k) ∧ (t.slot k).identity = none
        ∧ (t.slot k).descriptor = none ∧ (t.slot k).status = .absent ∧ (t.slot k).identLimit = none
        ∧ (t.channel k).state = .idle ∧ (t.channel k).active = (s.channel k).active
        ∧ t.scanner k = scannerStopped ∧ (t.compare k).closing = none ∧ t.throttle k = ⟨0, none, none⟩
        ∧ (t.acct.sets.get k).tag = (s.acct.sets.get k).tag
        ∧ ((left = .ramping ∨ left = .powered ∨ left = .draining) →
            NewestIs t (some k) none .boardPulled [BitVec.ofNat 8 left.code]
            ∧ t.alert.raised.getLsbD (2 + k.code) = true)
        ∧ (left = .ident ∨ left = .present ∨ left = .tripped → (s.channel k).state ≠ .burst → RecordsKept s t)
        ∧ (t.slot k).staged = (s.slot k).staged
        ∧ (∀ i : Socket, (t.compare k).devStrikes.get i = (s.compare k).devStrikes.get i)
        ∧ ((s.channel k).state ≠ .burst ∨ (s.slot k).applyDeferred = false →
            (t.slot k).active = (s.slot k).active
            ∧ ∀ i : Socket, t.record k i = s.record k i
              ∧ (((s.socket k i).power = .on ∨ (s.socket k i).power = .tripWait) →
                  t.socket k i = ⟨.off, (s.socket k i).strikes, none, none⟩)
              ∧ (((s.socket k i).power ≠ .on ∧ (s.socket k i).power ≠ .tripWait) →
                  t.socket k i = s.socket k i))
        ∧ ((s.channel k).state = .burst → (s.slot k).applyDeferred = true →
            (t.slot k).active = (s.slot k).staged ∧ (t.slot k).applyDeferred = false
            ∧ (t.slot k).applyDone = true))

/-! ## Sockets -/

/-- R36: MASK and UNMASK act on each listed socket and on no other, and answer the power states after them. A
socket that leaves ON loses its membership (R91); that its disregarded mismatch count becomes 0 is log entry 14.
UNMASK onto an active switch-fault input trips the socket (R32), and the count it reads is log entry 28. A SOCKET-SET of
an EMPTY slot is answered NO-BOARD (9), of one in IDENT REFUSED-STATE (3), with a number above 31 REFUSED-RANGE (4) and
with a list that is empty or too long REFUSED-LENGTH (5). -/
def Obligations.MaskAndUnmaskActOnTheListedSockets : Prop :=
  ∀ (s : State) (k : Slot) (l : List Nat), Ready s →
    let refused (code : Byte) : Prop :=
      exec (.socketSetMask k.code l) s = .next (replied 0x15 [code] s)
        ∧ exec (.socketSetUnmask k.code l) s = .next (replied 0x15 [code] s)
        ∧ exec (.socketSetReinstate k.code l) s = .next (replied 0x15 [code] s)
    ((s.slot k).board ≠ .empty → (s.slot k).board ≠ .ident → 1 ≤ l.length → l.length ≤ 32 → (∀ n ∈ l, n ≤ 31) →
      (∃ t : State, exec (.socketSetMask k.code l) s = .next
          (replied 0x15 (0 :: l.map fun n => BitVec.ofNat 8 (t.socket k (socketOf n)).power.code) t)
        ∧ SlotFrame k s t ∧ RecordsKept s t ∧ t.zone = s.zone
        ∧ t.slot k = { s.slot k with sockets := (t.slot k).sockets }
        ∧ ∀ i : Socket,
            let p := s.socket k i
            let acts := i.val ∈ l ∧ p.power ≠ .masked ∧ p.power ≠ .quarantined
            (acts → t.socket k i = ⟨.masked, p.strikes, none, none⟩
              ∧ (t.compare k).member.get i = false ∧ (t.compare k).mismatch.get i = 0)
            ∧ (¬ acts → t.socket k i = p ∧ (t.compare k).member.get i = (s.compare k).member.get i
              ∧ (t.compare k).mismatch.get i = (s.compare k).mismatch.get i))
      ∧ ∃ t : State, exec (.socketSetUnmask k.code l) s = .next
            (replied 0x15 (0 :: l.map fun n => BitVec.ofNat 8 (t.socket k (socketOf n)).power.code) t)
          ∧ SlotFrame k s t ∧ t.zone = s.zone
          ∧ ((∀ i, (s.lines.switchFault.get k).get i = false) → RecordsKept s t
            ∧ t.slot k = { s.slot k with sockets := (t.slot k).sockets })
          ∧ ∀ i : Socket,
            let p := s.socket k i
            let acts := i.val ∈ l ∧ p.power = .masked ∧ i.val < (s.slot k).countInForce
            let kept := (s.record k i).verdict = .failed ∧ (s.slot k).active.policy = .drop
            let goesOn := acts ∧ (s.slot k).board = .powered ∧ ¬ kept
            (acts → ¬ goesOn → t.socket k i = ⟨.off, p.strikes, none, none⟩ ∧ t.record k i = s.record k i)
            ∧ (goesOn → (s.lines.switchFault.get k).get i = false →
                t.socket k i = ⟨.on, p.strikes, none, none⟩ ∧ t.record k i = s.record k i)
            ∧ (goesOn → (s.lines.switchFault.get k).get i = true → SocketTripped k i s t)
            ∧ (¬ acts → t.socket k i = p ∧ t.record k i = s.record k i))
    ∧ (1 ≤ l.length → l.length ≤ 32 →
      ((s.slot k).board = .empty → refused 9) ∧ ((s.slot k).board = .ident → refused 3)
      ∧ ((s.slot k).board ≠ .empty → (s.slot k).board ≠ .ident → (∃ n ∈ l, 31 < n) → refused 4))
    ∧ (l.length = 0 ∨ 32 < l.length → refused 5)

/-- R36, R37, R31, R32, R141, R103: REINSTATE acts on each listed socket in list order and on no other. It makes the
socket GOOD with no first-failure record and no logged cause, logs REINSTATED with the cause removed, zeroes its strikes
and its deviation strikes, and takes it out of QUARANTINED and TRIP-WAIT; on a POWERED board it goes ON again, and is
tripped at once where its switch-fault input is active. A number listed again finds the socket GOOD, or tripped again, as
the first left it. The mismatch count 0 of a tripped socket is log entry 14. -/
def Obligations.ReinstateRestoresTheSocket : Prop :=
  ∀ (s : State) (k : Slot) (l : List Nat), Ready s → (s.slot k).board ≠ .empty → (s.slot k).board ≠ .ident →
    1 ≤ l.length → l.length ≤ 32 → (∀ n ∈ l, n ≤ 31) →
    let goesOn (i : Socket) : Prop :=
      (s.slot k).board = .powered ∧ (s.socket k i).power ≠ .on ∧ (s.socket k i).power ≠ .masked
        ∧ ∃ d, (s.slot k).descriptor = some d ∧ i.val < d.socketCount
    let trips (i : Socket) : Prop := goesOn i ∧ (s.lines.switchFault.get k).get i = true
    let good (i : Socket) : AcctRecord :=
      { s.record k i with verdict := .good, first := none, loggedQuarantine := false
                          loggedFunctional := false, loggedProfile := false }
    let removed (i : Socket) : List Byte :=
      match (s.record k i).first with
      | some f => [BitVec.ofNat 8 f.cause.logCause.code]
      | none => [0xFF]
    ∃ t : State, exec (.socketSetReinstate k.code l) s = .next
        (replied 0x15 (0 :: l.map fun n => BitVec.ofNat 8 (t.socket k (socketOf n)).power.code) t)
      ∧ SlotFrame k s t ∧ t.zone = s.zone
      ∧ (∀ i : Socket,
        let p := s.socket k i
        -- the socket as its last REINSTATE leaves it, before its switch closes
        let again := (s.setSocket k i ⟨.off, 0, none, none⟩).setRecord k i
          { good i with trips := (satInc 65535)^[l.count i.val - 1] (s.record k i).trips }
        (i.val ∈ l → (t.compare k).devStrikes.get i = 0
          ∧ (¬ trips i → t.record k i = good i ∧ (t.socket k i).strikes = 0
              ∧ (t.socket k i).power
                = (if p.power = .on ∨ goesOn i then .on else if p.power = .masked then .masked else .off)
              ∧ (p.power = .tripWait → (t.socket k i).retry = none))
          ∧ (trips i → SocketTripped k i again t))
        ∧ (i.val ∉ l → t.socket k i = p ∧ t.record k i = s.record k i
            ∧ (t.compare k).devStrikes.get i = (s.compare k).devStrikes.get i)
        -- the newest entry is that of the last socket listed
        ∧ (l.getLast? = some i.val →
          (¬ trips i → NewestIs t (some k) (some i) .reinstated (if l.count i.val = 1 then removed i else [0xFF]))
          ∧ (trips i → TripLogged k i .switchFault [] again t)))
      -- with no socket tripped, one entry for each number listed, in order
      ∧ ((∀ n ∈ l, ¬ trips (socketOf n)) → s.log.entries.length ≤ 256 →
        ∃ es : List LogEntry, t.log.entries
            = (s.log.entries ++ es).drop (s.log.entries.length + es.length - 256)
          ∧ es.map (fun e => (e.slot, e.socket, e.cause, e.detail, e.epoch, e.runSeconds))
            = (List.range l.length).map fun j =>
                let n := l.getD j 0
                (some k, some (socketOf n), LogCause.reinstated,
                  if n ∈ l.take j then [0xFF] else removed (socketOf n), s.log.epoch, s.clock.runSeconds))

/-- R32 to R34: a switch-fault input that becomes active trips an ON socket and changes only the line otherwise; a
retry that is due takes its socket out of TRIP-WAIT, and on a POWERED board switches it on where it is
eligible, or trips it again where its switch-fault input is active. The line's level as an operand is log entry 25,
that a retry acts only when due is log entry 3, and the mismatch count 0 is log entry 14. -/
def Obligations.SwitchFaultTripsAndRetryRecovers : Prop :=
  ∀ (s : State) (k : Slot) (i : Socket), s.part.phase = .running →
    let line (b : Bool) := { s with lines.switchFault := s.lines.switchFault.set k ((s.lines.switchFault.get k).set i b) }
    let p := s.socket k i
    (p.power = .on → ∃ t : State, exec (.switchFault k i true) s = .next t ∧ SlotFrame k (line true) t
      ∧ t.link = s.link ∧ t.zone = s.zone ∧ SocketTripped k i s t ∧ TripLogged k i .switchFault [] s t
      ∧ ∀ j : Socket, j ≠ i → t.socket k j = s.socket k j ∧ t.record k j = s.record k j)
    ∧ (p.power ≠ .on → exec (.switchFault k i true) s = .next (line true))
    ∧ exec (.switchFault k i false) s = .next (line false)
    ∧ (p.power = .tripWait → p.retry = some 0 →
        let goesOn := (s.slot k).board = .powered ∧ s.eligible k i = true
        (¬ goesOn ∨ (s.lines.switchFault.get k).get i = false →
          exec (.retryExpiry k i) s = .next
            ((s.setSocket k i ⟨if (s.slot k).board = .powered ∧ s.eligible k i = true then .on else .off,
                p.strikes, none, none⟩).setCompare k
              { s.compare k with member := (s.compare k).member.set i false
                                 mismatch := (s.compare k).mismatch.set i 0 }))
        ∧ (goesOn → (s.lines.switchFault.get k).get i = true →
          ∃ t : State, exec (.retryExpiry k i) s = .next t ∧ SlotFrame k s t ∧ t.link = s.link ∧ t.zone = s.zone
            ∧ SocketTripped k i s t ∧ TripLogged k i .switchFault [] s t
            ∧ ∀ j : Socket, j ≠ i → t.socket k j = s.socket k j ∧ t.record k j = s.record k j))
    ∧ ((p.power ≠ .tripWait ∨ p.retry ≠ some 0) → exec (.retryExpiry k i) s = .next s)

/-! ## Sensing -/

/-- R44, R45, R46, R47, R48, R53, R56: what the end of a conversion leaves for the next. A socket's current conversion
keeps its code for the temperature conversion after it; a capture set is begun between two conversions, unless two have
been begun in the round, and its conversions deliver samples to the burst that made the hold, and its last one completes
the capture point; a set of an abandoned burst goes on with its conversions discarded; a conversion with no result keeps
nothing (R53). A routine conversion begun before a ZONE-RESET is discarded, and a new round begins from step 1 (log entry
36). That the end of a conversion that is not in progress changes nothing is log entry 3, and that sets and records name
their burst by a number is log entry 33. The end of a round is in ThrottleTimersEndAndFall, and the conversions that
bring an arrival or finish a closing record in the statements of the rails, the sockets and the profile verdict. -/
def Obligations.ConversionEndFollowsTheRound : Prop :=
  ∀ (s : State) (k : Slot) (cv : Conversion) (x : Nat) (reading : Option Int), s.part.phase = .running →
    let c := s.scanner k
    let next : Conversion := ⟨(s.slot k).active.fullScale, false⟩
    let ends (reading : Option Int) := exec (.conversionEnd k reading) s
    let code := min 255 (x * 255 / cv.fullScale)
    let routine : Prop := c.captures = [] ∨ 2 ≤ c.setsBegun
    let first (e : CaptureEntry) : CaptureSet := ⟨e.point, 0, (s.slot k).countInForce, e.burst, false, e.burst, false⟩
    (c.running = false ∨ c.conversion = none → ends reading = .next s)
    ∧ (c.running = true → c.conversion = some cv → cv.discard = false → c.converting = none →
      (∀ i : Socket, i.val < c.roundCount → c.position = 4 + 2 * i.val → routine →
        ends (some (x : Int)) = .next (s.setScanner k
          { c with partialResult := some code, position := c.position + 1, conversion := some next })
        ∧ ends none = .next (s.setScanner k
          { c with partialResult := none, position := c.position + 1, conversion := some next }))
      ∧ (∀ (i : Socket) (e : CaptureEntry) (rest : List CaptureEntry), i.val < c.roundCount →
          c.position = 4 + 2 * i.val → c.captures = e :: rest → c.setsBegun < 2 →
          0 < (s.slot k).countInForce →
          ends (some (x : Int)) = .next (s.setScanner k
            { c with partialResult := some code, position := c.position + 1
                     captures := rest, setsBegun := c.setsBegun + 1, conversion := some next
                     converting := some (first e) }))
      ∧ ((c.position = 0 ∨ c.position = 2) → routine →
          ends (some (x : Int)) = .next (s.setScanner k
            { c with partialResult := some (min 4095 x), position := c.position + 1
                     conversion := some next })))
    -- a routine conversion begun before a ZONE-RESET: no sample, and a new round
    ∧ (c.running = true → c.conversion = some cv → cv.discard = true → c.converting = none →
      let round := { c with position := 0, roundCount := (s.slot k).countInForce, partialResult := none
                            conversion := some next }
      (c.captures = [] → ends reading = .next (s.setScanner k { round with setsBegun := 0 }))
      ∧ (∀ (e : CaptureEntry) (rest : List CaptureEntry), c.captures = e :: rest → 0 < (s.slot k).countInForce →
          ends reading = .next (s.setScanner k
            { round with captures := rest, setsBegun := 1, converting := some (first e) })))
    -- a conversion of a capture set that is not its last
    ∧ (∀ set : CaptureSet, c.running = true → c.conversion = some cv → c.converting = some set →
        set.socket + 1 < set.count →
        let on := s.setScanner k { c with
          conversion := some next
          converting := some { set with socket := set.socket + 1, burst := set.restBurst
                                        discard := set.restDiscard } }
        (set.discard = true → ends reading = .next on)
        ∧ ∀ r : ProfileRecord, set.discard = false → set.count ≤ 32 → (s.compare k).collecting = some r →
          r.burst = set.burst → (s.compare k).closing = none →
          let i := socketOf set.socket
          let samples := r.samples.set i ((r.samples.get i).set set.point (some code))
          ends (some (x : Int)) = .next
            (on.setCompare k { s.compare k with collecting := some { r with samples := samples } }))
    -- the last conversion of a capture set
    ∧ (∀ set : CaptureSet, c.running = true → c.conversion = some cv → c.converting = some set →
        set.count ≤ set.socket + 1 → routine →
        let done := s.setScanner k { c with conversion := some next, converting := none }
        (set.discard = true → set.restDiscard = true → ends reading = .next done)
        ∧ ∀ r : ProfileRecord, (s.compare k).collecting = some r → r.burst = set.burst → r.burst = set.restBurst →
          r.points.get set.point = .awaited → (s.compare k).closing = none →
          let i := socketOf set.socket
          let samples := if set.discard then r.samples
            else r.samples.set i ((r.samples.get i).set set.point (some code))
          let points := if set.restDiscard then r.points else r.points.set set.point .complete
          ends (some (x : Int)) = .next
            (done.setCompare k { s.compare k with
              collecting := some { r with samples := samples, points := points } }))

/-- R49 to R51, R32, R33, R122, R137: the arrival of a socket's sample writes its record, clamped to the valid
range, and its sensor-fault count. For an ON socket, a second routine sample in a row over the limit, a valid
temperature at the cutoff and a third sensor fault each request a trip with their cause and detail. Which of two
requests of one arrival is taken is free (log entry 7), and the mismatch count 0 is log entry 14. -/
def Obligations.SocketSampleTripsAnOnSocket : Prop :=
  ∀ (s : State) (k : Slot) (i : Socket) (cv : Conversion) (code : Nat) (temp : Int), s.part.phase = .running →
    (s.scanner k).running = true → (s.scanner k).conversion = some cv → cv.discard = false →
    (s.scanner k).converting = none → (s.scanner k).partialResult = some code →
    (s.scanner k).position = 5 + 2 * i.val →
    let p := s.socket k i
    let c := s.slot k
    let valid := -640 ≤ temp ∧ temp ≤ 3200
    let clamped := max (-640) (min 3200 temp)
    let faults := if valid then 0 else min 3 ((s.scanner k).faults.get i + 1)
    let second := c.active.currentLimit < code ∧ p.overCode ≠ none
    let hot := valid ∧ s.zone.tuning.socketCutoff ≤ temp
    let lost := ¬ valid ∧ faults = 3
    ∃ t : State, exec (.conversionEnd k (some temp)) s = .next t ∧ SlotFrame k s t ∧ t.link = s.link
      ∧ (t.scanner k).records.get i = ⟨code, true, clamped, decide valid, !decide valid, 0⟩
      ∧ (t.scanner k).faults.get i = faults
      ∧ (∀ j : Socket, j ≠ i → (t.scanner k).records.get j = (s.scanner k).records.get j
          ∧ t.socket k j = s.socket k j ∧ t.record k j = s.record k j)
      ∧ (p.power ≠ .on → t.slot k = c ∧ RecordsKept s t ∧ t.compare k = s.compare k)
      ∧ (p.power = .on → ¬ second → ¬ hot → ¬ lost →
          t.socket k i = { p with overCode := if c.active.currentLimit < code then some code else none }
          ∧ t.log = s.log
          ∧ (valid → (t.record k i).peak = match (s.record k i).peak with
              | some q => some (max q temp)
              | none => some temp))
      ∧ (∀ first : Nat, p.power = .on → p.overCode = some first → second → ¬ hot → ¬ lost →
          SocketTripped k i s t ∧ TripLogged k i .overcurrent
            [BitVec.ofNat 8 first, BitVec.ofNat 8 code, BitVec.ofNat 8 c.active.currentLimit] s t)
      ∧ (p.power = .on → ¬ second → hot →
          SocketTripped k i s t ∧ TripLogged k i .overtemp (s16 temp) s t)
      ∧ (p.power = .on → ¬ second → lost →
          SocketTripped k i s t ∧ TripLogged k i .tempSensor (s16 clamped) s t)
      ∧ (p.power = .on → second → hot ∨ lost → SocketTripped k i s t)

/-- R119, R120: the rise-hold timer, when due, stops; the fall timer, when due, lowers the rate step by 1 and
starts again where the step is still above 0. Neither changes anything else, and neither acts before it is
due (log entry 3). R55: the end of the last conversion of a round of sockets begins a new round, and on a POWERED
board the hottest fresh temperature among the ON sockets, as the records then stand, raises the step at or above
the threshold, starts the fall timer below the fall level, and otherwise stops it. -/
def Obligations.ThrottleTimersEndAndFall : Prop :=
  (∀ (s : State) (k : Slot), s.part.phase = .running →
    let t := s.throttle k
    (t.hold = some 0 → exec (.riseHoldExpiry k) s = .next (s.setThrottle k { t with hold := none }))
    ∧ (t.hold ≠ some 0 → exec (.riseHoldExpiry k) s = .next s)
    ∧ (t.fall = some 0 → exec (.throttleFallExpiry k) s = .next (s.setThrottle k
        { t with step := t.step - 1, fall := if 1 < t.step then some 10000 else none }))
    ∧ (t.fall ≠ some 0 → exec (.throttleFallExpiry k) s = .next s))
  ∧ ∀ (s : State) (k : Slot) (cv : Conversion) (reading : Option Int), s.part.phase = .running →
    (s.scanner k).running = true → (s.scanner k).conversion = some cv → cv.discard = false →
    (s.scanner k).converting = none → 1 ≤ (s.scanner k).roundCount →
    (s.scanner k).position = 3 + 2 * (s.scanner k).roundCount → 0 ≤ s.zone.tuning.hysteresis →
    ∃ t : State, exec (.conversionEnd k reading) s = .next t ∧ SlotFrame k s t
      ∧ (t.scanner k).position = 0 ∧ (t.scanner k).partialResult = none
      ∧ (t.scanner k).roundCount = (s.slot k).countInForce
      ∧ ((s.slot k).board ≠ .powered → t.throttle k = s.throttle k)
      ∧ ((s.slot k).board = .powered →
        let u := s.zone.tuning
        let w := s.throttle k
        let counts (i : Socket) : Prop := (t.socket k i).power = .on
          ∧ ((t.scanner k).records.get i).tempValid = true ∧ ((t.scanner k).records.get i).age ≤ 100
        let temp (i : Socket) : Int := ((t.scanner k).records.get i).temp
        let hot := ∃ i, counts i ∧ u.throttle ≤ temp i
        let cold := (∃ i, counts i) ∧ ∀ i, counts i → temp i < u.throttle - u.hysteresis
        (hot → w.step < 3 → w.hold = none → t.throttle k = ⟨w.step + 1, some 10000, none⟩)
        ∧ (hot → (3 ≤ w.step ∨ w.hold ≠ none) → t.throttle k = { w with fall := none })
        ∧ (cold → 0 < w.step → w.fall = none → t.throttle k = { w with fall := some 10000 })
        ∧ (cold → (w.step = 0 ∨ w.fall ≠ none) → t.throttle k = w)
        ∧ (¬ hot → ¬ cold → t.throttle k = { w with fall := none }))

/-! ## The zone -/

/-- R110, R114, R117, R125: ZONE-SETPOINT enters RAMP with the target clamped to 80 below the zone cutoff, and
ZONE-COOL enters COOL with the heater off; both are refused in SAFE. -/
def Obligations.SetpointAndCoolDriveTheZone : Prop :=
  ∀ (s : State) (target : Int) (rate : Nat), Ready s →
    let z := s.zone
    let set := exec (.zoneSetpoint target rate) s
    let limit := z.tuning.zoneCutoff - 80
    let ramp (e : Option Int) : Zone :=
      { z with state := .ramp, target := some (min limit target), rampRate := rate, effective := e, output := 0
               settleCount := 0, excCount := 0, heater := 0, fan := max z.tuning.fanFloor 0, heatEn := true }
    let taken (e : Option Int) : Host.Outcome State Fault Refusal :=
      .next (replied 0x03 ((if limit < target then 2 else 0) :: s16 (min limit target)) { s with zone := ramp e })
    (z.state = .safe → set = .next (replied 0x03 [7] s) ∧ exec .zoneCool s = .next (replied 0x05 [7] s))
    ∧ (z.state ≠ .safe → (target < -640 ∨ 3200 < target ∨ rate = 0 ∨ 160 < rate) →
        set = .next (replied 0x03 [4] s))
    ∧ (-640 ≤ target → target ≤ 3200 → 1 ≤ rate → rate ≤ 160 →
      (z.state = .idle → z.lastValid = none → set = .next (replied 0x03 [3] s))
      ∧ (∀ e : Int, z.state = .idle → z.lastValid = some e → set = taken (some e))
      ∧ (z.state ≠ .idle → z.state ≠ .safe → set = taken z.effective))
    ∧ (z.state = .idle ∨ z.state = .cool → exec .zoneCool s = .next (replied 0x05 [0] s))
    ∧ (z.state = .ramp ∨ z.state = .settle ∨ z.state = .soak → exec .zoneCool s = .next (replied 0x05 [0]
        { s with zone := { z with state := .cool, heater := 0, fan := max z.tuning.fanFloor (-z.output)
                                  heatEn := false } }))

/-- R115: ZONE-TUNE writes every item of a list in order or none, answers the ten values in force, and refuses a
list with any value out of range and one with a zone cutoff below the target plus 80. The layout of the reply is
log entry 19, a code above 9 is log entry 21, and that the fan duty follows a new floor only at its next change is
log entry 16. -/
def Obligations.ZoneTuneWritesEveryItemOrNone : Prop :=
  ∀ (s : State), Ready s →
    let t := s.zone.tuning
    let tune (items : List TuneItem) := exec (.zoneTune items) s
    let taken (u : Tuning) : Host.Outcome State Fault Refusal :=
      .next (replied 0x04 (0 :: tuningBytes u) { s with zone.tuning := u })
    tune [] = taken t
    ∧ (∀ p i : Int, 0 ≤ p → p ≤ 2000 → 0 ≤ i → i ≤ 500 →
        tune [⟨0, p⟩, ⟨1, i⟩] = taken { t with kp := p, ki := i })
    ∧ (∀ b n : Int, 8 ≤ b → b ≤ 160 → 10 ≤ n → n ≤ 3600 →
        tune [⟨2, b⟩, ⟨3, n⟩] = taken { t with band := b, settleTime := n })
    ∧ (∀ f y : Int, 0 ≤ f → f ≤ 1000 → 640 ≤ y → y ≤ 3200 →
        tune [⟨4, f⟩, ⟨6, y⟩] = taken { t with fanFloor := f, socketCutoff := y })
    ∧ (∀ h w g : Int, -640 ≤ h → h ≤ 3200 → 8 ≤ w → w ≤ 320 → 320 ≤ g → g ≤ 1600 →
        tune [⟨7, h⟩, ⟨8, w⟩, ⟨9, g⟩] = taken { t with throttle := h, hysteresis := w, coolTarget := g })
    ∧ (∀ z : Int, 960 ≤ z → z ≤ 3360 → (∀ g, s.zone.target = some g → g + 80 ≤ z) →
        tune [⟨5, z⟩] = taken { t with zoneCutoff := z })
    ∧ (∀ z g : Int, 960 ≤ z → z ≤ 3360 → s.zone.target = some g → z < g + 80 →
        tune [⟨5, z⟩] = .next (replied 0x04 [3] s))
    ∧ (∀ p i : Int, (2000 < p ∨ p < 0) → tune [⟨1, i⟩, ⟨0, p⟩] = .next (replied 0x04 [4] s))
    ∧ (∀ items : List TuneItem, 10 < items.length → tune items = .next (replied 0x04 [5] s))
    ∧ ∀ items : List TuneItem, items.length ≤ 10 →
      let low (i : TuneItem) : Prop := i.code = 5 ∧ ∃ g, s.zone.target = some g ∧ i.value < g + 80
      ((∀ i ∈ items, TuneOk i) → (∀ i ∈ items, ¬ low i) → tune items = taken (items.foldl tunePut t))
      ∧ ((∀ i ∈ items, TuneOk i) → (∃ i ∈ items, low i) → tune items = .next (replied 0x04 [3] s))
      ∧ ((∃ i ∈ items, ¬ TuneOk i) → tune items = .next (replied 0x04 [4] s))

/-- R109, R123 to R125: ZONE-ABORT, a valid reading at or above the zone cutoff, and three sensor faults of both
sensors enter SAFE, with the cause and the reading logged; in SAFE, ZONE-ABORT changes nothing. That the
ZONE-SAFE entry is the newest is log entry 12, and that an interval acts only when due is log entry 3. -/
def Obligations.SafeEntryLocksTheZoneOut : Prop :=
  ∀ s : State,
    (Ready s → s.zone.state ≠ .safe →
      ∃ t : State, exec .zoneAbort s = .next (replied 0x06 [0] t) ∧ SafeEntered .hostAbort [] s t
        ∧ (received t).link = (received s).link)
    ∧ (Ready s → s.zone.state = .safe → exec .zoneAbort s = .next (replied 0x06 [0] s))
    ∧ (s.part.phase = .running → s.zone.interval = some 0 → s.zone.state ≠ .safe →
      (∀ (a : Int) (q : Option Int), -640 ≤ a → a ≤ 3200 → s.zone.tuning.zoneCutoff ≤ a →
        ∃ t : State, exec (.controlInterval (some a) q) s = .next t
          ∧ SafeEntered .airOvertemp (0 :: s16 a) s t ∧ t.zone.interval = some 1 ∧ t.link = s.link)
      ∧ (∀ a : Int, -640 ≤ a → a ≤ 3200 → s.zone.tuning.zoneCutoff ≤ a →
        ∃ t : State, exec (.controlInterval none (some a)) s = .next t
          ∧ SafeEntered .airOvertemp (1 :: s16 a) s t ∧ t.zone.interval = some 1 ∧ t.link = s.link)
      ∧ (2 ≤ s.zone.primary.faults → 2 ≤ s.zone.secondary.faults →
        ∃ t : State, exec (.controlInterval none none) s = .next t
          ∧ SafeEntered .sensorsLost [] s t ∧ t.zone.interval = some 1 ∧ t.link = s.link
          ∧ t.zone.lastValid = s.zone.lastValid))

/-- R106 to R108, R111 to R114, R116 to R118: a control interval without a SAFE condition. First, one with both
readings valid, below the zone cutoff and within 80 of each other. The primary reading is the control temperature; the loop runs on the effective setpoint
less it; the ramp lands on its target and settles; the counts of SETTLE and SOAK follow the band. Then an interval
in COOL, one whose sensors disagree, one whose secondary sensor alone is valid, and one with no valid sensor. That
the interval that enters SETTLE counts is log entry 15, that the loop output is 0 in an interval without a control
temperature is log entry 17, and that the sensors are compared in SAFE is log entry 18. -/
def Obligations.ControlIntervalRunsTheLoop : Prop :=
  (∀ (s : State) (a b : Int), s.part.phase = .running → s.zone.interval = some 0 →
    -640 ≤ a → a ≤ 3200 → a < s.zone.tuning.zoneCutoff → -640 ≤ b → b ≤ 3200 → b < s.zone.tuning.zoneCutoff →
    a - b ≤ 80 → b - a ≤ 80 → 10 ≤ s.zone.tuning.settleTime →
    let z := s.zone
    let u := z.tuning
    let loop (e : Int) : Int := (u.kp * e).tdiv 256 + (z.integ + u.ki * e).tdiv 4096
    ∃ t : State, exec (.controlInterval (some a) (some b)) s = .next t
      ∧ t = { s with zone := t.zone, alert := { s.alert with raised := t.alert.raised } }
      ∧ t.zone.primary = ⟨a, true, 0⟩ ∧ t.zone.secondary = ⟨b, true, 0⟩
      ∧ t.zone.control = some ⟨a, .primary⟩ ∧ t.zone.lastValid = some a ∧ t.zone.interval = some 1
      ∧ t.zone.discCount = 0 ∧ t.zone.discNote = false ∧ t.zone.tuning = u ∧ t.zone.target = z.target
      ∧ t.zone.throttle = z.throttle
      ∧ (z.state = .idle → t.zone.state = .idle ∧ t.zone.heater = 0 ∧ t.zone.fan = u.fanFloor
          ∧ t.zone.heatEn = false ∧ t.alert = s.alert)
      ∧ (z.state = .safe → t.zone.state = .safe ∧ t.zone.heater = 0 ∧ t.zone.fan = 1000
          ∧ t.zone.heatEn = false)
      ∧ (∀ e : Int, t.zone.effective = some e → (z.state = .settle ∨ z.state = .soak ∨ z.state = .ramp) →
          let err := max (-4000) (min 4000 (e - a))
          t.zone.output = max (-1000) (min 1000 (loop err))
          ∧ (((1000 < loop err ∧ 0 < err) ∨ (loop err < -1000 ∧ err < 0)) → t.zone.integ = z.integ)
          ∧ (¬ ((1000 < loop err ∧ 0 < err) ∨ (loop err < -1000 ∧ err < 0)) →
              t.zone.integ = z.integ + u.ki * err)
          ∧ t.zone.heater = max t.zone.output 0 ∧ t.zone.fan = max u.fanFloor (-t.zone.output)
          ∧ t.zone.heatEn = true)
      ∧ (∀ e g : Int, z.state = .ramp → z.effective = some e → z.target = some g → 1 ≤ z.rampRate →
          ((g - e).natAbs ≤ z.rampRate.natAbs → t.zone.effective = some g ∧ t.zone.state = .settle)
          ∧ (e + z.rampRate < g → t.zone.effective = some (e + z.rampRate) ∧ t.zone.state = .ramp)
          ∧ (g < e - z.rampRate → t.zone.effective = some (e - z.rampRate) ∧ t.zone.state = .ramp))
      ∧ (∀ g : Int, z.target = some g →
          (z.state = .settle → (a - g).natAbs ≤ u.band.toNat → ((z.settleCount : Int) + 1 < u.settleTime ∧ z.settleCount < 3600) →
            t.zone.state = .settle ∧ t.zone.settleCount = z.settleCount + 1)
          ∧ (z.state = .settle → (a - g).natAbs ≤ u.band.toNat → u.settleTime ≤ (z.settleCount : Int) + 1 →
            z.settleCount < 3600 → t.zone.state = .soak ∧ t.zone.excCount = 0 ∧ t.alert.raised.getLsbD 0 = true)
          ∧ (z.state = .settle → u.band.toNat < (a - g).natAbs → t.zone.state = .settle ∧ t.zone.settleCount = 0)
          ∧ (z.state = .soak → u.band.toNat < (a - g).natAbs → z.excCount < 29 →
              t.zone.state = .soak ∧ t.zone.excCount = z.excCount + 1)
          ∧ (z.state = .soak → u.band.toNat < (a - g).natAbs → z.excCount = 29 →
              t.zone.state = .settle ∧ t.zone.settleCount = 0 ∧ t.zone.excNote = true
              ∧ t.alert.raised.getLsbD 0 = true)
          ∧ (z.state = .soak → (a - g).natAbs ≤ u.band.toNat → t.zone.state = .soak ∧ t.zone.excCount = 0)))
  ∧ ∀ s : State, s.part.phase = .running → s.zone.interval = some 0 →
    let z := s.zone
    let u := z.tuning
    let loop (e : Int) : Int := (u.kp * e).tdiv 256 + (z.integ + u.ki * e).tdiv 4096
    let valid (a : Int) : Prop := -640 ≤ a ∧ a ≤ 3200 ∧ a < u.zoneCutoff
    let lost (q : Option Int) : Prop := ∀ a, q = some a → a < -640 ∨ 3200 < a
    let reads (r : SensorRecord) (q : Option Int) : SensorRecord :=
      ⟨match q with
        | some a => max (-640) (min 3200 a)
        | none => r.temp, false, min 3 (r.faults + 1)⟩
    (∀ a b e : Int, valid a → valid b → z.state = .cool → z.effective = some e →
      ∃ t : State, exec (.controlInterval (some a) (some b)) s = .next t
        ∧ t = { s with zone := t.zone, alert := { s.alert with raised := t.alert.raised } }
        ∧ t.zone.control = some ⟨a, .primary⟩ ∧ t.zone.lastValid = some a ∧ t.zone.target = z.target
        ∧ t.zone.heater = 0 ∧ t.zone.heatEn = false
        ∧ (u.coolTarget < e → e - u.coolTarget ≤ z.rampRate → t.zone.effective = some u.coolTarget)
        ∧ (u.coolTarget < e → z.rampRate < e - u.coolTarget → t.zone.effective = some (e - z.rampRate))
        ∧ (e ≤ u.coolTarget → t.zone.effective = some e)
        ∧ (a ≤ u.coolTarget → t.zone.state = .idle ∧ t.zone.integ = 0 ∧ t.zone.output = 0
            ∧ t.zone.fan = u.fanFloor)
        ∧ (u.coolTarget < a → t.zone.state = .cool ∧ t.zone.fan = max u.fanFloor (-t.zone.output)
          ∧ ∀ x : Int, t.zone.effective = some x →
            let err := max (-4000) (min 4000 (x - a))
            t.zone.output = max (-1000) (min 1000 (loop err))
            ∧ (((1000 < loop err ∧ 0 < err) ∨ (loop err < -1000 ∧ err < 0)) → t.zone.integ = z.integ)
            ∧ (¬ ((1000 < loop err ∧ 0 < err) ∨ (loop err < -1000 ∧ err < 0)) →
                t.zone.integ = z.integ + u.ki * err)))
    ∧ (∀ a b : Int, valid a → valid b → 80 < (a - b).natAbs →
      ∃ t : State, exec (.controlInterval (some a) (some b)) s = .next t
        ∧ t.zone.primary = ⟨a, true, 0⟩ ∧ t.zone.secondary = ⟨b, true, 0⟩
        ∧ t.zone.control = some ⟨a, .primary⟩ ∧ t.zone.lastValid = some a
        ∧ t.zone.discCount = min 10 (z.discCount + 1)
        ∧ (z.discCount < 9 → t.zone.discNote = z.discNote)
        ∧ (9 ≤ z.discCount → t.zone.discNote = true ∧ (z.discNote = false → t.alert.raised.getLsbD 0 = true))
        ∧ ((z.discCount < 9 ∨ z.discNote = true) → z.state = .idle → t.alert = s.alert))
    ∧ (∀ (q : Option Int) (b : Int), lost q → valid b →
      ∃ t : State, exec (.controlInterval q (some b)) s = .next t
        ∧ t.zone.primary = reads z.primary q ∧ t.zone.secondary = ⟨b, true, 0⟩
        ∧ t.zone.control = some ⟨b, .secondary⟩ ∧ t.zone.lastValid = some b
        ∧ t.zone.discCount = 0 ∧ t.zone.discNote = z.discNote)
    ∧ (∀ q r : Option Int, lost q → lost r → z.primary.faults < 2 ∨ z.secondary.faults < 2 → z.state ≠ .safe →
      0 ≤ u.fanFloor →
      ∃ t : State, exec (.controlInterval q r) s = .next t
        ∧ t = { s with zone := t.zone }
        ∧ t.zone.primary = reads z.primary q ∧ t.zone.secondary = reads z.secondary r
        ∧ t.zone.control = none ∧ t.zone.lastValid = z.lastValid ∧ t.zone.interval = some 1
        ∧ t.zone.discCount = 0 ∧ t.zone.discNote = z.discNote ∧ t.zone.target = z.target ∧ t.zone.tuning = u
        ∧ t.zone.integ = z.integ ∧ t.zone.heater = 0 ∧ t.zone.fan = u.fanFloor
        ∧ (t.zone.heatEn = true ↔ z.state = .ramp ∨ z.state = .settle ∨ z.state = .soak)
        ∧ (z.state = .idle ∨ z.state = .cool → t.zone.state = z.state)
        ∧ (z.state = .settle → t.zone.state = .settle ∧ t.zone.settleCount = 0 ∧ t.zone.effective = z.effective)
        ∧ (z.state = .soak → t.zone.state = .soak ∧ t.zone.excCount = z.excCount ∧ t.zone.effective = z.effective)
        ∧ (∀ e g : Int, z.state = .ramp → z.effective = some e → z.target = some g → 1 ≤ z.rampRate →
          ((g - e).natAbs ≤ z.rampRate.natAbs →
            t.zone.effective = some g ∧ t.zone.state = .settle ∧ t.zone.settleCount = 0)
          ∧ (e + z.rampRate < g → t.zone.effective = some (e + z.rampRate) ∧ t.zone.state = .ramp)
          ∧ (g < e - z.rampRate → t.zone.effective = some (e - z.rampRate) ∧ t.zone.state = .ramp))
        ∧ (∀ e : Int, z.state = .cool → z.effective = some e →
          (u.coolTarget < e → e - u.coolTarget ≤ z.rampRate → t.zone.effective = some u.coolTarget)
          ∧ (u.coolTarget < e → z.rampRate < e - u.coolTarget → t.zone.effective = some (e - z.rampRate))
          ∧ (e ≤ u.coolTarget → t.zone.effective = some e)))

/-- R16, R56, R89, R99, R121, R127, R146, R156, R173: ZONE-RESET outside SAFE. Tuning, the last valid reading,
the sensor temperatures, the log's entries, the accounts, the stored patterns and the burst configurations are kept. -/
def Obligations.ZoneResetReturnsTheZoneToIdle : Prop :=
  ∀ s : State, Ready s →
    (s.zone.state = .safe → exec .zoneReset s = .next (replied 0x02 [7] s))
    ∧ (s.zone.state ≠ .safe → ∃ t : State, exec .zoneReset s = .next (replied 0x02 [0] t)
      ∧ t.zone.state = .idle ∧ t.zone.target = none ∧ t.zone.rampRate = 16 ∧ t.zone.effective = none
      ∧ t.zone.integ = 0 ∧ t.zone.output = 0 ∧ t.zone.heater = 0 ∧ t.zone.fan = s.zone.tuning.fanFloor
      ∧ t.zone.heatEn = false ∧ t.zone.safeLine = false ∧ t.zone.safeCause = none ∧ t.zone.control = none
      ∧ t.zone.primary = ⟨s.zone.primary.temp, false, 0⟩ ∧ t.zone.secondary = ⟨s.zone.secondary.temp, false, 0⟩
      ∧ t.zone.discCount = 0 ∧ t.zone.settleCount = 0 ∧ t.zone.excCount = 0 ∧ t.zone.discNote = false
      ∧ t.zone.excNote = false
      ∧ t.zone.tuning = s.zone.tuning ∧ t.zone.lastValid = s.zone.lastValid
      ∧ t.zone.interval = s.zone.interval
      ∧ t.acct = { s.acct with snapshot := .absent } ∧ t.log.entries = s.log.entries
      ∧ t.log.discarded = s.log.discarded ∧ t.log.epoch = s.log.epoch
      ∧ t.log.armed = decide (s.log.entries.length < 192)
      ∧ t.alert = { alertReset with raised := if s.log.entries.length < 192 then 0 else 0x40 }
      ∧ t.store = s.store ∧ t.clock = s.clock ∧ t.ret = s.ret ∧ t.part = s.part ∧ t.lines = s.lines
      ∧ (received t).link = (received s).link
      ∧ ∀ k : Slot,
          (t.slot k).board = (if (s.slot k).board.live then .present else (s.slot k).board)
          ∧ (t.slot k).active = { (s.slot k).active with vcore := 0, vio := 0 }
          ∧ (t.slot k).staged = { (s.slot k).staged with vcore := 0, vio := 0 }
          ∧ (t.slot k).vcore = Config.railOff ∧ (t.slot k).vio = Config.railOff
          ∧ (t.slot k).railTrip = false ∧ (t.slot k).socketTrip = false ∧ (t.slot k).burstDone = false
          ∧ (t.slot k).applyDone = false ∧ (t.slot k).abandoned = 0 ∧ (t.slot k).applyDeferred = false
          ∧ (∀ i : Socket, t.socket k i
              = ⟨if (s.socket k i).power = .masked then .masked else .off, 0, none, none⟩)
          ∧ (t.channel k).state = .idle ∧ (t.channel k).active = (s.channel k).active
          ∧ (t.channel k).pending = (s.channel k).pending ∧ (t.compare k).closing = none
          ∧ t.throttle k = ⟨0, none, none⟩
          ∧ ∀ i : Socket, (s.scanner k).running = true → (t.scanner k).records.get i = Config.invalidSample)

/-! ## References and the clock monitor -/

/-- R174, R20, R21, R24, R25, R2, R83, R119, R54, R132, R178: the 1 ms reference slews the rails and counts every
running millisecond timer, sample age and open-interval counter; the 1 s reference, given after 1,000 of them,
counts run-seconds, the retries and both intervals. Nothing else changes. That timers are held as the references still
to come, and that REFERENCE_1S needs 1,000 references of 1 ms, is log entry 3; that retries count whole seconds is log
entry 5. -/
def Obligations.ReferencesCountEveryTimer : Prop :=
  ∀ s : State, s.part.phase = .running →
    let count : Timer → Timer
      | some (n + 1) => some n
      | some 0 => some 0
      | none => none
    let command (r : RailState) (rate : Nat) : Nat :=
      if r.target - r.command + (r.command - r.target) ≤ rate then r.target
      else if r.command < r.target then r.command + rate else r.command - rate
    (∃ t : State, exec .reference1ms s = .next t
      ∧ t = { s with clock := { s.clock with msCount := s.clock.msCount + 1 }, slots := t.slots, chan := t.chan
                     scan := t.scan, zone := { s.zone with throttle := t.zone.throttle }
                     acct := { s.acct with counts := t.acct.counts } }
      ∧ ∀ k : Slot,
          let c := s.slot k
          t.slot k = { c with
            vcore := { c.vcore with command := command c.vcore c.active.slew, settle := count c.vcore.settle }
            vio := { c.vio with command := command c.vio c.active.slew, settle := count c.vio.settle }
            dwell := count c.dwell, drainLimit := count c.drainLimit, identLimit := count c.identLimit }
          ∧ t.channel k = { s.channel k with gap := count (s.channel k).gap }
          ∧ t.throttle k = { s.throttle k with hold := count (s.throttle k).hold
                                               fall := count (s.throttle k).fall }
          ∧ ((s.scanner k).running = false → t.scanner k = s.scanner k)
          ∧ t.scanner k = { s.scanner k with records := (t.scanner k).records }
          ∧ ((s.scanner k).running = true → ∀ i : Socket,
              (t.scanner k).records.get i = { (s.scanner k).records.get i with
                age := satInc 65535 ((s.scanner k).records.get i).age })
          ∧ ∀ i : Socket,
              let n := (s.acct.counts.get k).get i
              let on := (s.socket k i).power = .on
              (t.acct.counts.get k).get i = ⟨if on then satInc 1000 n.on else n.on,
                if on ∧ (s.channel k).state = .burst then satInc 1000 n.ex else n.ex⟩)
    ∧ (s.clock.msCount < 1000 → exec .reference1s s = .next s)
    ∧ (1000 ≤ s.clock.msCount → ∃ t : State, exec .reference1s s = .next t
      ∧ t = { s with
          clock := { s.clock with msCount := s.clock.msCount - 1000
                                  runSeconds := min (2 ^ 32 - 1) (s.clock.runSeconds + 1) }
          slots := t.slots, zone := { s.zone with interval := count s.zone.interval }
          acct := { s.acct with interval := count s.acct.interval } }
      ∧ ∀ k : Slot, t.slot k = { s.slot k with sockets := (t.slot k).sockets }
          ∧ ∀ i : Socket, t.socket k i = { s.socket k i with retry := count (s.socket k i).retry })

/-- R175, R176, R132, R164, R180: a holdover detection in LOCKED selects the internal source, sets the sticky flag
and, while the part runs, marks the open interval and raises CLOCK; a qualification runs only in HOLDOVER, and
its success returns to REFCLK. That the monitor watches in a commit and in RETAINED, where it takes no raise and no mark,
is log entry 37. -/
def Obligations.ClockMonitorFollowsTheReference : Prop :=
  ∀ s : State,
    let c := s.clock
    (c.live = .locked →
      (s.part.phase = .running → exec .holdoverDetection s = .next
        { s with clock := { c with live := .holdover, source := .internal, sticky := true, qualifying := false }
                 acct := { s.acct with holdover := true }
                 alert := { s.alert with raised := s.alert.raised ||| 2#8 } })
      ∧ (s.part.phase = .commit ∨ s.part.phase = .retained → exec .holdoverDetection s = .next
        { s with clock := { c with live := .holdover, source := .internal, sticky := true
                                   qualifying := false } })
      ∧ exec .qualificationStart s = .next s ∧ exec .qualificationFail s = .next s
      ∧ exec .qualificationSuccess s = .next s)
    ∧ (c.live = .holdover →
      exec .holdoverDetection s = .next s
      ∧ (s.part.phase = .running →
        exec .qualificationStart s = .next { s with clock := { c with qualifying := true } }
        ∧ exec .qualificationFail s = .next { s with clock := { c with qualifying := false } }
        ∧ (c.qualifying = true → exec .qualificationSuccess s = .next
            { s with clock := { c with live := .locked, source := .refclk, qualifying := false }
                     alert := { s.alert with raised := s.alert.raised ||| 2#8 } })
        ∧ (c.qualifying = false → exec .qualificationSuccess s = .next s)))

/-! ## Power, retention and reset -/

/-- R17, R117, R147, R179 to R182: POWER-FAIL# or RESET# of a running part starts a commit, which makes every slot
safe and writes the image with its checksum invalid; its completion writes the checksum and the part is
RETAINED. A start waits for RESET#; a loss of power keeps retention memory, whose mark a loss of the backup
supply clears. The link stops at the commit: a part that is not
running receives no byte and no request, and sends only the rest of a frame that has begun (R180, R189). That a frame
still going out when a start or a loss of power comes is dropped is log entry 43. -/
def Obligations.CommitRetainsTheAccounts : Prop :=
  ∀ s : State,
    let fresh (phase : Phase) (lines : Lines) (ret : Retention) : State :=
      { State.reset with part := ⟨phase, false, false⟩, lines := lines, ret := ret, races := s.races
                         pending := s.pending }
    let committed (kept : Bool) (lines : Lines) (t : State) : Prop :=
      t.part = ⟨.commit, kept, s.part.failSeen⟩ ∧ t.lines = lines
        ∧ t.ret = ⟨⟨s.acct.sets, s.log.entries, s.log.discarded, s.log.epoch⟩, none, s.ret.mark⟩
        ∧ t.acct.sets = s.acct.sets ∧ t.log = s.log ∧ t.alert = s.alert ∧ t.clock = s.clock
        ∧ t.zone.heater = 0 ∧ t.zone.heatEn = false ∧ t.zone.fan = 1000 ∧ t.zone.interval = none
        ∧ t.link = { s.link with rx := .hunt, buffer := [], composed := none
                                 owed := match s.link.sending with
                                   | some f => f.isReply
                                   | none => false }
        ∧ t.zone.state = s.zone.state ∧ t.acct.snapshot = .absent ∧ t.acct.interval = none
        ∧ ∀ k : Slot, ((s.slot k).board.live = true → (t.slot k).board = .present ∧ HardOff (t.slot k))
            ∧ ((s.slot k).board = .ident → (t.slot k).board = .empty)
            ∧ ((s.slot k).board = .empty ∨ (s.slot k).board = .present →
                (t.slot k).board = (s.slot k).board)
            ∧ (t.channel k).state = .idle ∧ t.scanner k = scannerStopped ∧ (t.compare k).closing = none
    (s.part.phase = .running →
      (∃ t, exec (.powerFailAssert true) s = .next t ∧ committed false { s.lines with powerFail := true } t)
      ∧ ∃ t, exec .resetAssert s = .next t ∧ committed true { s.lines with reset := true } t)
    ∧ exec (.powerFailAssert false) s = .next { s with lines.powerFail := false }
    ∧ (s.part.phase = .checking →
        exec (.powerFailAssert true) s = .next { s with lines.powerFail := true, part.failSeen := true }
        ∧ exec .resetAssert s = .next { s with lines.reset := true, part.phase := .resetHeld })
    ∧ (s.part.phase = .commit →
        exec .resetAssert s = .next { s with lines.reset := true, part.resetKept := true }
        ∧ (s.part.resetKept = false ∨ s.lines.reset = true → exec .commitComplete s = .next
            { s with ret := ⟨s.ret.image, some s.ret.image, true⟩, part.phase := .retained })
        ∧ (s.part.resetKept = true → s.lines.reset = false → exec .commitComplete s = .next
            (fresh .checking s.lines ⟨s.ret.image, some s.ret.image, true⟩)))
    ∧ (s.part.phase ≠ .commit → exec .commitComplete s = .next s)
    ∧ (s.lines.reset = true → (s.part.phase = .retained ∨ s.part.phase = .resetHeld) →
        exec .resetRelease s = .next (fresh .checking { s.lines with reset := false } s.ret))
    ∧ (s.lines.reset = false → exec .resetRelease s = .next s)
    ∧ (∀ backup : Bool, exec (.powerOnReset backup) s = .next
        (fresh (if s.lines.reset then .resetHeld else .checking) s.lines
          { s.ret with mark := s.ret.mark && backup }))
    ∧ exec .powerLoss s = .next (fresh .unpowered s.lines s.ret)
    ∧ exec .backupSupplyLoss s = .next { s with ret := { s.ret with mark := false } }
    ∧ (s.part.phase ≠ .running →
      (∀ (i : Instr) (f : Frame), requestFrame i = some f → exec i s = .next s)
      ∧ (∀ (b : Byte) (stop : Bool), exec (.byteArrival b stop) s = .next s)
      ∧ exec .frameDiscarded s = .next s ∧ exec .receiveTimeout s = .next s ∧ exec .alertFrame s = .next s
      ∧ (s.link.sending = none → exec .frameSent s = .next s)
      ∧ ∀ f : TxFrame, s.link.sending = some f → exec .frameSent s = .next
          { s with link := { s.link with sending := none, owed := s.link.owed && !f.isReply } })

/-- R143, R183, R184, R153, R156, R15, R179 to R181: the retention check. A marked image with its checksum is restored
with the next epoch, every record of a tagged set marked INTERRUPTED, and POWER-RESTORED logged, for which a full log
loses its oldest entry; any other is LOST. The part then runs, and a board that is present enters IDENT. Where
POWER-FAIL# was seen during the check, or is asserted at its end, a commit starts in the same step and copies what the
check has left (log entry 35; what counts as seen is log entry 42). -/
def Obligations.RetentionCheckRestoresOrLoses : Prop :=
  ∀ s : State, s.part.phase = .checking →
    let m := s.ret.image
    let valid : Prop := s.ret.mark = true ∧ ∃ i, s.ret.checksum = some i ∧ imageCrc i = imageCrc m
    let commits : Prop := s.part.failSeen = true ∨ s.lines.powerFail = true
    ∃ t : State, exec .retentionCheckEnd s = .next t
      ∧ t.lines = s.lines ∧ t.store = s.store ∧ t.clock.runSeconds = 0 ∧ t.clock.msCount = 0 ∧ t.link = linkReset
      ∧ t.part.failSeen = s.part.failSeen
      -- the part runs
      ∧ (¬ commits → t.part = { s.part with phase := .running } ∧ t.ret = ⟨m, none, s.ret.mark⟩
          ∧ t.zone.interval = some 1 ∧ t.acct.interval = some 1
          ∧ ∀ k : Slot, (s.lines.present.get k = true → (t.slot k).board = .ident
              ∧ (t.slot k).identLimit = some 50 ∧ (t.scanner k).running = true)
            ∧ (s.lines.present.get k = false → t.slot k = s.slot k ∧ t.scanner k = s.scanner k))
      -- or commits at once
      ∧ (commits → t.part.phase = .commit ∧ t.part.resetKept = false
          ∧ t.ret = ⟨⟨t.acct.sets, t.log.entries, t.log.discarded, t.log.epoch⟩, none, s.ret.mark⟩
          ∧ t.zone.heater = 0 ∧ t.zone.heatEn = false ∧ t.zone.fan = 1000 ∧ t.zone.interval = none
          ∧ t.acct.interval = none ∧ t.acct.snapshot = .absent
          ∧ ∀ k : Slot, t.scanner k = scannerStopped ∧ (t.channel k).state = .idle
            ∧ (t.compare k).closing = none
            ∧ (s.lines.present.get k = true ∨ (s.slot k).board = .empty → (t.slot k).board = .empty)
            ∧ (s.lines.present.get k = true → (t.slot k).railTrip = false ∧ (t.slot k).socketTrip = false
                ∧ (t.slot k).burstDone = false ∧ (t.slot k).applyDone = false))
      -- what the check has restored
      ∧ (valid → t.clock.outcome = .valid ∧ t.log.epoch = (m.epoch + 1) % 256
          ∧ (∃ e, t.log.entries = (if m.entries.length < 256 then m.entries else m.entries.drop 1) ++ [e]
              ∧ e.cause = .powerRestored ∧ e.slot = none ∧ e.socket = none
              ∧ e.epoch = t.log.epoch ∧ e.detail = u16 m.entries.length)
          ∧ t.log.discarded = (if m.entries.length < 256 then m.discarded else satInc 65535 m.discarded)
          ∧ t.log.armed = decide (t.log.entries.length < 192)
          ∧ (192 ≤ t.log.entries.length → t.alert.raised.getLsbD 6 = true)
          ∧ ∀ k : Slot, (t.acct.sets.get k).tag = (m.sets.get k).tag
              ∧ ∀ i : Socket, t.record k i = { (m.sets.get k).recs.get i with
                  interrupted := ((m.sets.get k).recs.get i).interrupted || (m.sets.get k).tag.isSome })
      ∧ (¬ valid → t.clock.outcome = .lost ∧ t.log.epoch = 1 ∧ t.log.discarded = 0 ∧ t.log.armed = true
          ∧ (∃ e, t.log.entries = [e] ∧ e.cause = .retentionLost ∧ e.slot = none ∧ e.socket = none
              ∧ e.epoch = 1 ∧ e.detail = [])
          ∧ ∀ (k : Slot) (i : Socket), (t.acct.sets.get k).tag = none ∧ t.record k i = Config.zeroRecord)

/-- R15, R18, R42, R56, R57, R65, R68, R71, R72, R93, R104, R115, R127, R130, R131, R146, R173, R175: the values the
manual gives for a power-on reset, block by block. -/
def Obligations.ResetTakesTheManualsValues : Prop :=
  let s := State.reset
  (∀ k : Slot, (s.slot k).board = .empty ∧ (s.slot k).status = .absent ∧ (s.slot k).identity = none
      ∧ (s.slot k).vcore.cond = .off ∧ (s.slot k).vcore.command = 0 ∧ (s.slot k).vio.cond = .off
      ∧ (s.slot k).active = (s.slot k).staged ∧ (s.slot k).active.fullScale = 10000
      ∧ (s.slot k).active.currentLimit = 230 ∧ (s.slot k).active.strikeLimit = 3
      ∧ (s.slot k).active.retryDelay = 30 ∧ (s.slot k).active.policy = .keep
      ∧ (s.slot k).active.dwell = 10 ∧ (s.slot k).active.window = 5 ∧ (s.slot k).active.slew = 10
      ∧ (s.slot k).active.order = .vioFirst ∧ (s.slot k).active.devLimit = 4
      ∧ (s.channel k).state = .idle ∧ (s.channel k).active = none ∧ (s.channel k).pending = none
      ∧ (s.scanner k).running = false ∧ (s.scanner k).vcore.valid = false
      ∧ s.throttle k = ⟨0, none, none⟩
      ∧ (s.slot k).descriptor = none ∧ (s.slot k).railTrip = false ∧ (s.slot k).socketTrip = false
      ∧ (s.slot k).burstDone = false ∧ (s.slot k).applyDone = false ∧ (s.slot k).abandoned = 0
      ∧ (s.slot k).applyDeferred = false ∧ (s.slot k).vcore = ⟨0, 0, .off, 0, 0, none⟩
      ∧ (s.slot k).vio = ⟨0, 0, .off, 0, 0, none⟩
      ∧ (s.slot k).active.vcore = 0 ∧ (s.slot k).active.vio = 0
      ∧ (∀ l : Fin 16, (s.slot k).active.laneMap.get l = ⟨l.val, .normal⟩)
      ∧ (∀ g : Fin 4, (s.slot k).active.phases.get g = 0)
      ∧ (s.scanner k).vcore = ⟨0, 0, false⟩ ∧ (s.scanner k).vio = ⟨0, 0, false⟩ ∧ (s.scanner k).captures = []
      ∧ (s.scanner k).converting = none ∧ (s.scanner k).conversion = none
      ∧ (s.compare k).collecting = none ∧ (s.compare k).closing = none
      ∧ ∀ i : Socket, (s.socket k i).power = .off ∧ (s.socket k i).strikes = 0
          ∧ (s.socket k i).overCode = none ∧ (s.socket k i).retry = none
          ∧ (s.scanner k).records.get i = ⟨0, false, 0, false, false, 65535⟩ ∧ (s.scanner k).faults.get i = 0
          ∧ ((s.scanner k).records.get i).tempValid = false ∧ ((s.scanner k).records.get i).codeValid = false
          ∧ (s.compare k).mismatch.get i = 0 ∧ (s.compare k).member.get i = false
          ∧ (s.compare k).devStrikes.get i = 0)
  ∧ (∀ r : Fin 32, s.store.records.get r = none) ∧ (∀ i : Nat, s.store.read i = ⟨0, false, false⟩)
  ∧ s.zone.state = .idle ∧ s.zone.target = none ∧ s.zone.heater = 0 ∧ s.zone.heatEn = false
  ∧ s.zone.rampRate = 16 ∧ s.zone.effective = none ∧ s.zone.control = none ∧ s.zone.lastValid = none
  ∧ s.zone.integ = 0 ∧ s.zone.fan = 200 ∧ s.zone.safeLine = false ∧ s.zone.safeCause = none
  ∧ s.zone.primary = ⟨0, false, 0⟩ ∧ s.zone.secondary = ⟨0, false, 0⟩ ∧ s.zone.discCount = 0
  ∧ s.zone.settleCount = 0 ∧ s.zone.excCount = 0 ∧ s.zone.discNote = false ∧ s.zone.excNote = false
  ∧ s.zone.tuning = ⟨400, 50, 32, 300, 200, 2400, 2400, 2080, 48, 560⟩
  ∧ s.acct.accel = [⟨0, 256⟩] ∧ s.acct.wEx = 256 ∧ s.acct.wSt = 64 ∧ s.acct.snapshot = .absent
  ∧ s.alert.mask = 0xFF#8 ∧ s.alert.raised = 0#8 ∧ s.alert.inService = 0#8 ∧ s.alert.priority = .fixed
  ∧ s.alert.delivery = .frame ∧ s.alert.base = 0
  ∧ s.clock.live = .locked ∧ s.clock.source = .refclk ∧ s.clock.sticky = false

/-! ## What every step keeps -/

/-- The reset state has each of the properties that steps keep. -/
def Obligations.ResetMeetsEveryInvariant : Prop :=
  StoreAndLogLegal State.reset ∧ SocketsSafe State.reset ∧ ThermalSafe State.reset ∧ VerdictsAgree State.reset
    ∧ StrikesLegal State.reset ∧ ChannelsLegal State.reset

/-- R57, R149, R153, R181: no command breaks the canonical form of the store or fills the failure log beyond 256
entries. -/
def Obligations.EveryStepKeepsStoreAndLogLegal : Prop :=
  ∀ s t : State, StoreAndLogLegal s → step s = .next t → StoreAndLogLegal t

/-- R20, R29, R123: no command leaves a board powered in SAFE or outside running, or a switch closed on a board
that is neither RAMPING nor POWERED. -/
def Obligations.EveryStepKeepsSocketsSafe : Prop :=
  ∀ s t : State, SocketsSafe s → step s = .next t → SocketsSafe t

/-- R116 to R118, R123: no command turns the heater on in IDLE, COOL or SAFE, or takes a duty, the loop output or
the integrator out of its range. -/
def Obligations.EveryStepKeepsThermalSafe : Prop :=
  ∀ s t : State, ThermalSafe s → step s = .next t → ThermalSafe t

/-- R129, R139 to R141: no command separates a socket's verdict from its first-failure record. -/
def Obligations.EveryStepKeepsVerdictsAgree : Prop :=
  ∀ s t : State, VerdictsAgree s → step s = .next t → VerdictsAgree t

/-- R29, R33, R41: no command leaves a socket with more strikes than its limit, or with as many and not
QUARANTINED. -/
def Obligations.EveryStepKeepsStrikesLegal : Prop :=
  ∀ s t : State, StrikesLegal s → step s = .next t → StrikesLegal t

/-- R67, R73, R89, R99, R184: no command leaves a channel out of IDLE on a board that is not POWERED, or a closing
profile record with no point awaited. The premise SocketsSafe, which every step keeps, rules out the states that no
run reaches in which a part that does not run has a POWERED board. -/
def Obligations.EveryStepKeepsChannelsLegal : Prop :=
  ∀ s t : State, SocketsSafe s → ChannelsLegal s → step s = .next t → ChannelsLegal t
end

