-- ==== Sys2Proof/Laws/State.lean ====
section
/-!
SUPPORT. What each update of a container or of the state leaves in each field, so that no later proof unfolds a
record update. A lemma named for an update and `_frame` lists the fields it leaves.
-/

namespace Sys2Proof

/-! ## Containers -/

@[simp] theorem PerSlot.get_set_same {α : Type} (p : PerSlot α) (k : Slot) (x : α) : (p.set k x).get k = x := by
  cases k <;> rfl

theorem PerSlot.get_set_ne {α : Type} (p : PerSlot α) {j k : Slot} (x : α) (h : j ≠ k) :
    (p.set k x).get j = p.get j := by
  cases j <;> cases k <;> first | rfl | exact absurd rfl h

theorem PerSlot.get_set {α : Type} (p : PerSlot α) (j k : Slot) (x : α) :
    (p.set k x).get j = if j = k then x else p.get j := by
  cases j <;> cases k <;> rfl

@[simp] theorem PerSlot.set_get {α : Type} (p : PerSlot α) (k : Slot) : p.set k (p.get k) = p := by
  cases k <;> rfl

@[simp] theorem PerSlot.set_set {α : Type} (p : PerSlot α) (k : Slot) (x y : α) :
    (p.set k x).set k y = p.set k y := by
  cases k <;> rfl

@[simp] theorem PerSlot.get_fill {α : Type} (x : α) (k : Slot) : (PerSlot.fill x).get k = x := by
  cases k <;> rfl

@[simp] theorem PerSlot.get_map {α β : Type} (f : α → β) (p : PerSlot α) (k : Slot) :
    (p.map f).get k = f (p.get k) := by
  cases k <;> rfl

/-- Two families of values, one for each slot, are equal when they agree slot by slot. -/
theorem PerSlot.ext_get {α : Type} {p q : PerSlot α} (h : ∀ k, p.get k = q.get k) : p = q := by
  cases p; cases q
  have ha := h .A; have hb := h .B; have hc := h .C; have hd := h .D
  simp only [PerSlot.get] at ha hb hc hd
  subst ha hb hc hd; rfl

@[simp] theorem Table.get_set_same {n : Nat} {α : Type} (t : Table n α) (i : Fin n) (x : α) :
    (t.set i x).get i = x := by
  simp [Table.get, Table.set]

theorem Table.get_set {n : Nat} {α : Type} (t : Table n α) (i j : Fin n) (x : α) :
    (t.set i x).get j = if j = i then x else t.get j := by
  simp only [Table.get, Table.set, List.getElem_set, Fin.ext_iff, eq_comm]

theorem Table.get_set_ne {n : Nat} {α : Type} (t : Table n α) {i j : Fin n} (x : α) (h : j ≠ i) :
    (t.set i x).get j = t.get j := by
  rw [Table.get_set, if_neg h]

@[simp] theorem Table.get_fill {n : Nat} {α : Type} (x : α) (i : Fin n) : (Table.fill n x).get i = x := by
  simp [Table.get, Table.fill]

@[simp] theorem Table.get_map {n : Nat} {α β : Type} (f : α → β) (t : Table n α) (i : Fin n) :
    (t.map f).get i = f (t.get i) := by
  simp [Table.get, Table.map]

@[simp] theorem Table.get_mapIdx {n : Nat} {α β : Type} (f : Fin n → α → β) (t : Table n α) (i : Fin n) :
    (t.mapIdx f).get i = f i (t.get i) := by
  simp [Table.get, Table.mapIdx]

@[simp] theorem Table.get_ofFn {n : Nat} {α : Type} (f : Fin n → α) (i : Fin n) : (Table.ofFn f).get i = f i := by
  simp [Table.get, Table.ofFn]

/-- Two tables are equal when they agree at every index. -/
theorem Table.ext_get {n : Nat} {α : Type} {t u : Table n α} (h : ∀ i, t.get i = u.get i) : t = u := by
  obtain ⟨l, hl⟩ := t
  obtain ⟨m, hm⟩ := u
  have : l = m := by
    apply List.ext_getElem (by omega)
    intro i h1 h2
    simpa [Table.get] using h ⟨i, by omega⟩
  subst this; rfl

@[simp] theorem Table.set_get {n : Nat} {α : Type} (t : Table n α) (i : Fin n) : t.set i (t.get i) = t := by
  apply Table.ext_get
  intro j
  rw [Table.get_set]
  split
  · next h => rw [h]
  · rfl

@[simp] theorem Table.set_set {n : Nat} {α : Type} (t : Table n α) (i : Fin n) (x y : α) :
    (t.set i x).set i y = t.set i y := by
  simp [Table.set]

namespace Machine

/-! ## Reading a part of the state -/

@[simp] theorem State.get_slots (s : State) (k : Slot) : s.slots.get k = s.slot k := rfl
@[simp] theorem State.get_scan (s : State) (k : Slot) : s.scan.get k = s.scanner k := rfl
@[simp] theorem State.get_chan (s : State) (k : Slot) : s.chan.get k = s.channel k := rfl
@[simp] theorem State.get_cmp (s : State) (k : Slot) : s.cmp.get k = s.compare k := rfl
@[simp] theorem State.get_throttle (s : State) (k : Slot) : s.zone.throttle.get k = s.throttle k := rfl
@[simp] theorem State.get_sockets (s : State) (k : Slot) (i : Socket) : (s.slot k).sockets.get i = s.socket k i := rfl
@[simp] theorem State.get_recs (s : State) (k : Slot) (i : Socket) : (s.acct.sets.get k).recs.get i = s.record k i := rfl

section Literals
variable (part : Part) (lines : Lines) (slots : PerSlot SlotCtl) (scan : PerSlot Scanner) (store : PatternStore)
  (chan : PerSlot Channel) (cmp : PerSlot Compare) (zone : Zone) (acct : Account) (log : FailLog)
  (alert : AlertUnit) (clock : Clock) (ret : Retention) (link : Link) (races : Nat) (pending : List Instr)

@[simp] theorem State.slot_mk (k : Slot) :
    State.slot
      ⟨part, lines, slots, scan, store, chan, cmp, zone, acct, log, alert, clock, ret, link, races, pending⟩ k
      = slots.get k := rfl
@[simp] theorem State.scanner_mk (k : Slot) :
    State.scanner
      ⟨part, lines, slots, scan, store, chan, cmp, zone, acct, log, alert, clock, ret, link, races, pending⟩ k
      = scan.get k := rfl
@[simp] theorem State.channel_mk (k : Slot) :
    State.channel
      ⟨part, lines, slots, scan, store, chan, cmp, zone, acct, log, alert, clock, ret, link, races, pending⟩ k
      = chan.get k := rfl
@[simp] theorem State.compare_mk (k : Slot) :
    State.compare
      ⟨part, lines, slots, scan, store, chan, cmp, zone, acct, log, alert, clock, ret, link, races, pending⟩ k
      = cmp.get k := rfl
@[simp] theorem State.throttle_mk (k : Slot) :
    State.throttle
      ⟨part, lines, slots, scan, store, chan, cmp, zone, acct, log, alert, clock, ret, link, races, pending⟩ k
      = zone.throttle.get k := rfl
@[simp] theorem State.socket_mk (k : Slot) (i : Socket) :
    State.socket
      ⟨part, lines, slots, scan, store, chan, cmp, zone, acct, log, alert, clock, ret, link, races, pending⟩ k i
      = (slots.get k).sockets.get i := rfl
@[simp] theorem State.record_mk (k : Slot) (i : Socket) :
    State.record
      ⟨part, lines, slots, scan, store, chan, cmp, zone, acct, log, alert, clock, ret, link, races, pending⟩ k i
      = (acct.sets.get k).recs.get i := rfl

end Literals

/-! ## Updates of one part -/

@[simp] theorem State.setSlot_frame (s : State) (k : Slot) (c : SlotCtl) :
    (s.setSlot k c).part = s.part ∧ (s.setSlot k c).lines = s.lines ∧ (s.setSlot k c).scan = s.scan
      ∧ (s.setSlot k c).store = s.store ∧ (s.setSlot k c).chan = s.chan ∧ (s.setSlot k c).cmp = s.cmp
      ∧ (s.setSlot k c).zone = s.zone ∧ (s.setSlot k c).acct = s.acct ∧ (s.setSlot k c).log = s.log
      ∧ (s.setSlot k c).alert = s.alert ∧ (s.setSlot k c).clock = s.clock ∧ (s.setSlot k c).ret = s.ret
      ∧ (s.setSlot k c).link = s.link ∧ (s.setSlot k c).races = s.races ∧ (s.setSlot k c).pending = s.pending
      ∧ (∀ j, (s.setSlot k c).scanner j = s.scanner j) ∧ (∀ j, (s.setSlot k c).channel j = s.channel j)
      ∧ (∀ j, (s.setSlot k c).compare j = s.compare j) ∧ (∀ j, (s.setSlot k c).throttle j = s.throttle j)
      ∧ (∀ j n, (s.setSlot k c).record j n = s.record j n) :=
  ⟨rfl, rfl, rfl, rfl, rfl, rfl, rfl, rfl, rfl, rfl, rfl, rfl, rfl, rfl, rfl, fun _ => rfl, fun _ => rfl,
    fun _ => rfl, fun _ => rfl, fun _ _ => rfl⟩

@[simp] theorem State.setScanner_frame (s : State) (k : Slot) (c : Scanner) :
    (s.setScanner k c).part = s.part ∧ (s.setScanner k c).lines = s.lines
      ∧ (s.setScanner k c).slots = s.slots ∧ (s.setScanner k c).store = s.store
      ∧ (s.setScanner k c).chan = s.chan ∧ (s.setScanner k c).cmp = s.cmp ∧ (s.setScanner k c).zone = s.zone
      ∧ (s.setScanner k c).acct = s.acct ∧ (s.setScanner k c).log = s.log
      ∧ (s.setScanner k c).alert = s.alert ∧ (s.setScanner k c).clock = s.clock
      ∧ (s.setScanner k c).ret = s.ret ∧ (s.setScanner k c).link = s.link
      ∧ (s.setScanner k c).races = s.races ∧ (s.setScanner k c).pending = s.pending
      ∧ (∀ j, (s.setScanner k c).slot j = s.slot j) ∧ (∀ j, (s.setScanner k c).channel j = s.channel j)
      ∧ (∀ j, (s.setScanner k c).compare j = s.compare j)
      ∧ (∀ j, (s.setScanner k c).throttle j = s.throttle j)
      ∧ (∀ j n, (s.setScanner k c).socket j n = s.socket j n)
      ∧ (∀ j n, (s.setScanner k c).record j n = s.record j n) :=
  ⟨rfl, rfl, rfl, rfl, rfl, rfl, rfl, rfl, rfl, rfl, rfl, rfl, rfl, rfl, rfl, fun _ => rfl, fun _ => rfl,
    fun _ => rfl, fun _ => rfl, fun _ _ => rfl, fun _ _ => rfl⟩

@[simp] theorem State.setChannel_frame (s : State) (k : Slot) (c : Channel) :
    (s.setChannel k c).part = s.part ∧ (s.setChannel k c).lines = s.lines
      ∧ (s.setChannel k c).slots = s.slots ∧ (s.setChannel k c).scan = s.scan
      ∧ (s.setChannel k c).store = s.store ∧ (s.setChannel k c).cmp = s.cmp
      ∧ (s.setChannel k c).zone = s.zone ∧ (s.setChannel k c).acct = s.acct ∧ (s.setChannel k c).log = s.log
      ∧ (s.setChannel k c).alert = s.alert ∧ (s.setChannel k c).clock = s.clock
      ∧ (s.setChannel k c).ret = s.ret ∧ (s.setChannel k c).link = s.link
      ∧ (s.setChannel k c).races = s.races ∧ (s.setChannel k c).pending = s.pending
      ∧ (∀ j, (s.setChannel k c).slot j = s.slot j) ∧ (∀ j, (s.setChannel k c).scanner j = s.scanner j)
      ∧ (∀ j, (s.setChannel k c).compare j = s.compare j)
      ∧ (∀ j, (s.setChannel k c).throttle j = s.throttle j)
      ∧ (∀ j n, (s.setChannel k c).socket j n = s.socket j n)
      ∧ (∀ j n, (s.setChannel k c).record j n = s.record j n) :=
  ⟨rfl, rfl, rfl, rfl, rfl, rfl, rfl, rfl, rfl, rfl, rfl, rfl, rfl, rfl, rfl, fun _ => rfl, fun _ => rfl,
    fun _ => rfl, fun _ => rfl, fun _ _ => rfl, fun _ _ => rfl⟩

@[simp] theorem State.setCompare_frame (s : State) (k : Slot) (c : Compare) :
    (s.setCompare k c).part = s.part ∧ (s.setCompare k c).lines = s.lines
      ∧ (s.setCompare k c).slots = s.slots ∧ (s.setCompare k c).scan = s.scan
      ∧ (s.setCompare k c).store = s.store ∧ (s.setCompare k c).chan = s.chan
      ∧ (s.setCompare k c).zone = s.zone ∧ (s.setCompare k c).acct = s.acct ∧ (s.setCompare k c).log = s.log
      ∧ (s.setCompare k c).alert = s.alert ∧ (s.setCompare k c).clock = s.clock
      ∧ (s.setCompare k c).ret = s.ret ∧ (s.setCompare k c).link = s.link
      ∧ (s.setCompare k c).races = s.races ∧ (s.setCompare k c).pending = s.pending
      ∧ (∀ j, (s.setCompare k c).slot j = s.slot j) ∧ (∀ j, (s.setCompare k c).scanner j = s.scanner j)
      ∧ (∀ j, (s.setCompare k c).channel j = s.channel j)
      ∧ (∀ j, (s.setCompare k c).throttle j = s.throttle j)
      ∧ (∀ j n, (s.setCompare k c).socket j n = s.socket j n)
      ∧ (∀ j n, (s.setCompare k c).record j n = s.record j n) :=
  ⟨rfl, rfl, rfl, rfl, rfl, rfl, rfl, rfl, rfl, rfl, rfl, rfl, rfl, rfl, rfl, fun _ => rfl, fun _ => rfl,
    fun _ => rfl, fun _ => rfl, fun _ _ => rfl, fun _ _ => rfl⟩

@[simp] theorem State.setThrottle_frame (s : State) (k : Slot) (c : Throttle) :
    (s.setThrottle k c).part = s.part ∧ (s.setThrottle k c).lines = s.lines
      ∧ (s.setThrottle k c).slots = s.slots ∧ (s.setThrottle k c).scan = s.scan
      ∧ (s.setThrottle k c).store = s.store ∧ (s.setThrottle k c).chan = s.chan
      ∧ (s.setThrottle k c).cmp = s.cmp ∧ (s.setThrottle k c).acct = s.acct ∧ (s.setThrottle k c).log = s.log
      ∧ (s.setThrottle k c).alert = s.alert ∧ (s.setThrottle k c).clock = s.clock
      ∧ (s.setThrottle k c).ret = s.ret ∧ (s.setThrottle k c).link = s.link
      ∧ (s.setThrottle k c).races = s.races ∧ (s.setThrottle k c).pending = s.pending
      ∧ (∀ j, (s.setThrottle k c).slot j = s.slot j) ∧ (∀ j, (s.setThrottle k c).scanner j = s.scanner j)
      ∧ (∀ j, (s.setThrottle k c).channel j = s.channel j)
      ∧ (∀ j, (s.setThrottle k c).compare j = s.compare j)
      ∧ (∀ j n, (s.setThrottle k c).socket j n = s.socket j n)
      ∧ (∀ j n, (s.setThrottle k c).record j n = s.record j n) :=
  ⟨rfl, rfl, rfl, rfl, rfl, rfl, rfl, rfl, rfl, rfl, rfl, rfl, rfl, rfl, rfl, fun _ => rfl, fun _ => rfl,
    fun _ => rfl, fun _ => rfl, fun _ _ => rfl, fun _ _ => rfl⟩

@[simp] theorem State.setSocket_frame (s : State) (k : Slot) (i : Socket) (p : SocketPower) :
    (s.setSocket k i p).part = s.part ∧ (s.setSocket k i p).lines = s.lines
      ∧ (s.setSocket k i p).scan = s.scan ∧ (s.setSocket k i p).store = s.store
      ∧ (s.setSocket k i p).chan = s.chan ∧ (s.setSocket k i p).cmp = s.cmp
      ∧ (s.setSocket k i p).zone = s.zone ∧ (s.setSocket k i p).acct = s.acct
      ∧ (s.setSocket k i p).log = s.log ∧ (s.setSocket k i p).alert = s.alert
      ∧ (s.setSocket k i p).clock = s.clock ∧ (s.setSocket k i p).ret = s.ret
      ∧ (s.setSocket k i p).link = s.link ∧ (s.setSocket k i p).races = s.races
      ∧ (s.setSocket k i p).pending = s.pending ∧ (∀ j, (s.setSocket k i p).scanner j = s.scanner j)
      ∧ (∀ j, (s.setSocket k i p).channel j = s.channel j)
      ∧ (∀ j, (s.setSocket k i p).compare j = s.compare j)
      ∧ (∀ j, (s.setSocket k i p).throttle j = s.throttle j)
      ∧ (∀ j n, (s.setSocket k i p).record j n = s.record j n) :=
  ⟨rfl, rfl, rfl, rfl, rfl, rfl, rfl, rfl, rfl, rfl, rfl, rfl, rfl, rfl, rfl, fun _ => rfl, fun _ => rfl,
    fun _ => rfl, fun _ => rfl, fun _ _ => rfl⟩

@[simp] theorem State.setRecord_frame (s : State) (k : Slot) (i : Socket) (r : AcctRecord) :
    (s.setRecord k i r).part = s.part ∧ (s.setRecord k i r).lines = s.lines
      ∧ (s.setRecord k i r).slots = s.slots ∧ (s.setRecord k i r).scan = s.scan
      ∧ (s.setRecord k i r).store = s.store ∧ (s.setRecord k i r).chan = s.chan
      ∧ (s.setRecord k i r).cmp = s.cmp ∧ (s.setRecord k i r).zone = s.zone ∧ (s.setRecord k i r).log = s.log
      ∧ (s.setRecord k i r).alert = s.alert ∧ (s.setRecord k i r).clock = s.clock
      ∧ (s.setRecord k i r).ret = s.ret ∧ (s.setRecord k i r).link = s.link
      ∧ (s.setRecord k i r).races = s.races ∧ (s.setRecord k i r).pending = s.pending
      ∧ (∀ j, (s.setRecord k i r).slot j = s.slot j) ∧ (∀ j, (s.setRecord k i r).scanner j = s.scanner j)
      ∧ (∀ j, (s.setRecord k i r).channel j = s.channel j)
      ∧ (∀ j, (s.setRecord k i r).compare j = s.compare j)
      ∧ (∀ j, (s.setRecord k i r).throttle j = s.throttle j)
      ∧ (∀ j n, (s.setRecord k i r).socket j n = s.socket j n) :=
  ⟨rfl, rfl, rfl, rfl, rfl, rfl, rfl, rfl, rfl, rfl, rfl, rfl, rfl, rfl, rfl, fun _ => rfl, fun _ => rfl,
    fun _ => rfl, fun _ => rfl, fun _ => rfl, fun _ _ => rfl⟩

@[simp] theorem State.setPattern_frame (s : State) (r : Fin 32) (p : Option PatternRecord) :
    (s.setPattern r p).part = s.part ∧ (s.setPattern r p).lines = s.lines
      ∧ (s.setPattern r p).slots = s.slots ∧ (s.setPattern r p).scan = s.scan
      ∧ (s.setPattern r p).chan = s.chan ∧ (s.setPattern r p).cmp = s.cmp ∧ (s.setPattern r p).zone = s.zone
      ∧ (s.setPattern r p).acct = s.acct ∧ (s.setPattern r p).log = s.log
      ∧ (s.setPattern r p).alert = s.alert ∧ (s.setPattern r p).clock = s.clock
      ∧ (s.setPattern r p).ret = s.ret ∧ (s.setPattern r p).link = s.link
      ∧ (s.setPattern r p).races = s.races ∧ (s.setPattern r p).pending = s.pending
      ∧ (∀ j, (s.setPattern r p).slot j = s.slot j) ∧ (∀ j, (s.setPattern r p).scanner j = s.scanner j)
      ∧ (∀ j, (s.setPattern r p).channel j = s.channel j) ∧ (∀ j, (s.setPattern r p).compare j = s.compare j)
      ∧ (∀ j, (s.setPattern r p).throttle j = s.throttle j)
      ∧ (∀ j n, (s.setPattern r p).socket j n = s.socket j n)
      ∧ (∀ j n, (s.setPattern r p).record j n = s.record j n) :=
  ⟨rfl, rfl, rfl, rfl, rfl, rfl, rfl, rfl, rfl, rfl, rfl, rfl, rfl, rfl, rfl, fun _ => rfl, fun _ => rfl,
    fun _ => rfl, fun _ => rfl, fun _ => rfl, fun _ _ => rfl, fun _ _ => rfl⟩

@[simp] theorem raiseSource_frame (src : Source) (s : State) :
    (raiseSource src s).part = s.part ∧ (raiseSource src s).lines = s.lines
      ∧ (raiseSource src s).slots = s.slots ∧ (raiseSource src s).scan = s.scan
      ∧ (raiseSource src s).store = s.store ∧ (raiseSource src s).chan = s.chan
      ∧ (raiseSource src s).cmp = s.cmp ∧ (raiseSource src s).zone = s.zone
      ∧ (raiseSource src s).acct = s.acct ∧ (raiseSource src s).log = s.log
      ∧ (raiseSource src s).clock = s.clock ∧ (raiseSource src s).ret = s.ret
      ∧ (raiseSource src s).link = s.link ∧ (raiseSource src s).races = s.races
      ∧ (raiseSource src s).pending = s.pending ∧ (∀ j, (raiseSource src s).slot j = s.slot j)
      ∧ (∀ j, (raiseSource src s).scanner j = s.scanner j)
      ∧ (∀ j, (raiseSource src s).channel j = s.channel j)
      ∧ (∀ j, (raiseSource src s).compare j = s.compare j)
      ∧ (∀ j, (raiseSource src s).throttle j = s.throttle j)
      ∧ (∀ j n, (raiseSource src s).socket j n = s.socket j n)
      ∧ (∀ j n, (raiseSource src s).record j n = s.record j n) :=
  ⟨rfl, rfl, rfl, rfl, rfl, rfl, rfl, rfl, rfl, rfl, rfl, rfl, rfl, rfl, rfl, fun _ => rfl, fun _ => rfl,
    fun _ => rfl, fun _ => rfl, fun _ => rfl, fun _ _ => rfl, fun _ _ => rfl⟩

@[simp] theorem setSwitchFault_frame (k : Slot) (i : Socket) (b : Bool) (s : State) :
    (setSwitchFault k i b s).part = s.part ∧ (setSwitchFault k i b s).slots = s.slots
      ∧ (setSwitchFault k i b s).scan = s.scan ∧ (setSwitchFault k i b s).store = s.store
      ∧ (setSwitchFault k i b s).chan = s.chan ∧ (setSwitchFault k i b s).cmp = s.cmp
      ∧ (setSwitchFault k i b s).zone = s.zone ∧ (setSwitchFault k i b s).acct = s.acct
      ∧ (setSwitchFault k i b s).log = s.log ∧ (setSwitchFault k i b s).alert = s.alert
      ∧ (setSwitchFault k i b s).clock = s.clock ∧ (setSwitchFault k i b s).ret = s.ret
      ∧ (setSwitchFault k i b s).link = s.link ∧ (setSwitchFault k i b s).races = s.races
      ∧ (setSwitchFault k i b s).pending = s.pending ∧ (∀ j, (setSwitchFault k i b s).slot j = s.slot j)
      ∧ (∀ j, (setSwitchFault k i b s).scanner j = s.scanner j)
      ∧ (∀ j, (setSwitchFault k i b s).channel j = s.channel j)
      ∧ (∀ j, (setSwitchFault k i b s).compare j = s.compare j)
      ∧ (∀ j, (setSwitchFault k i b s).throttle j = s.throttle j)
      ∧ (∀ j n, (setSwitchFault k i b s).socket j n = s.socket j n)
      ∧ (∀ j n, (setSwitchFault k i b s).record j n = s.record j n) :=
  ⟨rfl, rfl, rfl, rfl, rfl, rfl, rfl, rfl, rfl, rfl, rfl, rfl, rfl, rfl, rfl, fun _ => rfl, fun _ => rfl,
    fun _ => rfl, fun _ => rfl, fun _ => rfl, fun _ _ => rfl, fun _ _ => rfl⟩

@[simp] theorem setPresent_frame (k : Slot) (b : Bool) (s : State) :
    (setPresent k b s).part = s.part ∧ (setPresent k b s).slots = s.slots ∧ (setPresent k b s).scan = s.scan
      ∧ (setPresent k b s).store = s.store ∧ (setPresent k b s).chan = s.chan
      ∧ (setPresent k b s).cmp = s.cmp ∧ (setPresent k b s).zone = s.zone ∧ (setPresent k b s).acct = s.acct
      ∧ (setPresent k b s).log = s.log ∧ (setPresent k b s).alert = s.alert
      ∧ (setPresent k b s).clock = s.clock ∧ (setPresent k b s).ret = s.ret
      ∧ (setPresent k b s).link = s.link ∧ (setPresent k b s).races = s.races
      ∧ (setPresent k b s).pending = s.pending ∧ (∀ j, (setPresent k b s).slot j = s.slot j)
      ∧ (∀ j, (setPresent k b s).scanner j = s.scanner j) ∧ (∀ j, (setPresent k b s).channel j = s.channel j)
      ∧ (∀ j, (setPresent k b s).compare j = s.compare j)
      ∧ (∀ j, (setPresent k b s).throttle j = s.throttle j)
      ∧ (∀ j n, (setPresent k b s).socket j n = s.socket j n)
      ∧ (∀ j n, (setPresent k b s).record j n = s.record j n) :=
  ⟨rfl, rfl, rfl, rfl, rfl, rfl, rfl, rfl, rfl, rfl, rfl, rfl, rfl, rfl, rfl, fun _ => rfl, fun _ => rfl,
    fun _ => rfl, fun _ => rfl, fun _ => rfl, fun _ _ => rfl, fun _ _ => rfl⟩

@[simp] theorem zeroRecords_frame (k : Slot) (s : State) :
    (zeroRecords k s).part = s.part ∧ (zeroRecords k s).lines = s.lines ∧ (zeroRecords k s).slots = s.slots
      ∧ (zeroRecords k s).scan = s.scan ∧ (zeroRecords k s).store = s.store ∧ (zeroRecords k s).chan = s.chan
      ∧ (zeroRecords k s).cmp = s.cmp ∧ (zeroRecords k s).zone = s.zone ∧ (zeroRecords k s).log = s.log
      ∧ (zeroRecords k s).alert = s.alert ∧ (zeroRecords k s).clock = s.clock ∧ (zeroRecords k s).ret = s.ret
      ∧ (zeroRecords k s).link = s.link ∧ (zeroRecords k s).races = s.races
      ∧ (zeroRecords k s).pending = s.pending ∧ (∀ j, (zeroRecords k s).slot j = s.slot j)
      ∧ (∀ j, (zeroRecords k s).scanner j = s.scanner j) ∧ (∀ j, (zeroRecords k s).channel j = s.channel j)
      ∧ (∀ j, (zeroRecords k s).compare j = s.compare j) ∧ (∀ j, (zeroRecords k s).throttle j = s.throttle j)
      ∧ (∀ j n, (zeroRecords k s).socket j n = s.socket j n) :=
  ⟨rfl, rfl, rfl, rfl, rfl, rfl, rfl, rfl, rfl, rfl, rfl, rfl, rfl, rfl, rfl, fun _ => rfl, fun _ => rfl,
    fun _ => rfl, fun _ => rfl, fun _ => rfl, fun _ _ => rfl⟩

@[simp] theorem setTag_frame (k : Slot) (i : Identity) (s : State) :
    (setTag k i s).part = s.part ∧ (setTag k i s).lines = s.lines ∧ (setTag k i s).slots = s.slots
      ∧ (setTag k i s).scan = s.scan ∧ (setTag k i s).store = s.store ∧ (setTag k i s).chan = s.chan
      ∧ (setTag k i s).cmp = s.cmp ∧ (setTag k i s).zone = s.zone ∧ (setTag k i s).log = s.log
      ∧ (setTag k i s).alert = s.alert ∧ (setTag k i s).clock = s.clock ∧ (setTag k i s).ret = s.ret
      ∧ (setTag k i s).link = s.link ∧ (setTag k i s).races = s.races ∧ (setTag k i s).pending = s.pending
      ∧ (∀ j, (setTag k i s).slot j = s.slot j) ∧ (∀ j, (setTag k i s).scanner j = s.scanner j)
      ∧ (∀ j, (setTag k i s).channel j = s.channel j) ∧ (∀ j, (setTag k i s).compare j = s.compare j)
      ∧ (∀ j, (setTag k i s).throttle j = s.throttle j) ∧ (∀ j n, (setTag k i s).socket j n = s.socket j n) :=
  ⟨rfl, rfl, rfl, rfl, rfl, rfl, rfl, rfl, rfl, rfl, rfl, rfl, rfl, rfl, rfl, fun _ => rfl, fun _ => rfl,
    fun _ => rfl, fun _ => rfl, fun _ => rfl, fun _ _ => rfl⟩

@[simp] theorem clearDevStrikes_frame (k : Slot) (s : State) :
    (clearDevStrikes k s).part = s.part ∧ (clearDevStrikes k s).lines = s.lines
      ∧ (clearDevStrikes k s).slots = s.slots ∧ (clearDevStrikes k s).scan = s.scan
      ∧ (clearDevStrikes k s).store = s.store ∧ (clearDevStrikes k s).chan = s.chan
      ∧ (clearDevStrikes k s).zone = s.zone ∧ (clearDevStrikes k s).acct = s.acct
      ∧ (clearDevStrikes k s).log = s.log ∧ (clearDevStrikes k s).alert = s.alert
      ∧ (clearDevStrikes k s).clock = s.clock ∧ (clearDevStrikes k s).ret = s.ret
      ∧ (clearDevStrikes k s).link = s.link ∧ (clearDevStrikes k s).races = s.races
      ∧ (clearDevStrikes k s).pending = s.pending ∧ (∀ j, (clearDevStrikes k s).slot j = s.slot j)
      ∧ (∀ j, (clearDevStrikes k s).scanner j = s.scanner j)
      ∧ (∀ j, (clearDevStrikes k s).channel j = s.channel j)
      ∧ (∀ j, (clearDevStrikes k s).throttle j = s.throttle j)
      ∧ (∀ j n, (clearDevStrikes k s).socket j n = s.socket j n)
      ∧ (∀ j n, (clearDevStrikes k s).record j n = s.record j n) :=
  ⟨rfl, rfl, rfl, rfl, rfl, rfl, rfl, rfl, rfl, rfl, rfl, rfl, rfl, rfl, rfl, fun _ => rfl, fun _ => rfl,
    fun _ => rfl, fun _ => rfl, fun _ _ => rfl, fun _ _ => rfl⟩

@[simp] theorem dropClosing_frame (k : Slot) (s : State) :
    (dropClosing k s).part = s.part ∧ (dropClosing k s).lines = s.lines ∧ (dropClosing k s).slots = s.slots
      ∧ (dropClosing k s).scan = s.scan ∧ (dropClosing k s).store = s.store ∧ (dropClosing k s).chan = s.chan
      ∧ (dropClosing k s).zone = s.zone ∧ (dropClosing k s).acct = s.acct ∧ (dropClosing k s).log = s.log
      ∧ (dropClosing k s).alert = s.alert ∧ (dropClosing k s).clock = s.clock ∧ (dropClosing k s).ret = s.ret
      ∧ (dropClosing k s).link = s.link ∧ (dropClosing k s).races = s.races
      ∧ (dropClosing k s).pending = s.pending ∧ (∀ j, (dropClosing k s).slot j = s.slot j)
      ∧ (∀ j, (dropClosing k s).scanner j = s.scanner j) ∧ (∀ j, (dropClosing k s).channel j = s.channel j)
      ∧ (∀ j, (dropClosing k s).throttle j = s.throttle j)
      ∧ (∀ j n, (dropClosing k s).socket j n = s.socket j n)
      ∧ (∀ j n, (dropClosing k s).record j n = s.record j n) :=
  ⟨rfl, rfl, rfl, rfl, rfl, rfl, rfl, rfl, rfl, rfl, rfl, rfl, rfl, rfl, rfl, fun _ => rfl, fun _ => rfl,
    fun _ => rfl, fun _ => rfl, fun _ _ => rfl, fun _ _ => rfl⟩

@[simp] theorem clearConfigs_frame (k : Slot) (s : State) :
    (clearConfigs k s).part = s.part ∧ (clearConfigs k s).lines = s.lines
      ∧ (clearConfigs k s).slots = s.slots ∧ (clearConfigs k s).scan = s.scan
      ∧ (clearConfigs k s).store = s.store ∧ (clearConfigs k s).cmp = s.cmp
      ∧ (clearConfigs k s).zone = s.zone ∧ (clearConfigs k s).acct = s.acct ∧ (clearConfigs k s).log = s.log
      ∧ (clearConfigs k s).alert = s.alert ∧ (clearConfigs k s).clock = s.clock
      ∧ (clearConfigs k s).ret = s.ret ∧ (clearConfigs k s).link = s.link
      ∧ (clearConfigs k s).races = s.races ∧ (clearConfigs k s).pending = s.pending
      ∧ (∀ j, (clearConfigs k s).slot j = s.slot j) ∧ (∀ j, (clearConfigs k s).scanner j = s.scanner j)
      ∧ (∀ j, (clearConfigs k s).compare j = s.compare j)
      ∧ (∀ j, (clearConfigs k s).throttle j = s.throttle j)
      ∧ (∀ j n, (clearConfigs k s).socket j n = s.socket j n)
      ∧ (∀ j n, (clearConfigs k s).record j n = s.record j n) :=
  ⟨rfl, rfl, rfl, rfl, rfl, rfl, rfl, rfl, rfl, rfl, rfl, rfl, rfl, rfl, rfl, fun _ => rfl, fun _ => rfl,
    fun _ => rfl, fun _ => rfl, fun _ _ => rfl, fun _ _ => rfl⟩

@[simp] theorem resetThrottle_frame (k : Slot) (s : State) :
    (resetThrottle k s).part = s.part ∧ (resetThrottle k s).lines = s.lines
      ∧ (resetThrottle k s).slots = s.slots ∧ (resetThrottle k s).scan = s.scan
      ∧ (resetThrottle k s).store = s.store ∧ (resetThrottle k s).chan = s.chan
      ∧ (resetThrottle k s).cmp = s.cmp ∧ (resetThrottle k s).acct = s.acct ∧ (resetThrottle k s).log = s.log
      ∧ (resetThrottle k s).alert = s.alert ∧ (resetThrottle k s).clock = s.clock
      ∧ (resetThrottle k s).ret = s.ret ∧ (resetThrottle k s).link = s.link
      ∧ (resetThrottle k s).races = s.races ∧ (resetThrottle k s).pending = s.pending
      ∧ (∀ j, (resetThrottle k s).slot j = s.slot j) ∧ (∀ j, (resetThrottle k s).scanner j = s.scanner j)
      ∧ (∀ j, (resetThrottle k s).channel j = s.channel j)
      ∧ (∀ j, (resetThrottle k s).compare j = s.compare j)
      ∧ (∀ j n, (resetThrottle k s).socket j n = s.socket j n)
      ∧ (∀ j n, (resetThrottle k s).record j n = s.record j n) :=
  ⟨rfl, rfl, rfl, rfl, rfl, rfl, rfl, rfl, rfl, rfl, rfl, rfl, rfl, rfl, rfl, fun _ => rfl, fun _ => rfl,
    fun _ => rfl, fun _ => rfl, fun _ _ => rfl, fun _ _ => rfl⟩

@[simp] theorem writeImage_frame (s : State) :
    (writeImage s).part = s.part ∧ (writeImage s).lines = s.lines ∧ (writeImage s).slots = s.slots
      ∧ (writeImage s).scan = s.scan ∧ (writeImage s).store = s.store ∧ (writeImage s).chan = s.chan
      ∧ (writeImage s).cmp = s.cmp ∧ (writeImage s).zone = s.zone ∧ (writeImage s).acct = s.acct
      ∧ (writeImage s).log = s.log ∧ (writeImage s).alert = s.alert ∧ (writeImage s).clock = s.clock
      ∧ (writeImage s).link = s.link ∧ (writeImage s).races = s.races ∧ (writeImage s).pending = s.pending
      ∧ (∀ j, (writeImage s).slot j = s.slot j) ∧ (∀ j, (writeImage s).scanner j = s.scanner j)
      ∧ (∀ j, (writeImage s).channel j = s.channel j) ∧ (∀ j, (writeImage s).compare j = s.compare j)
      ∧ (∀ j, (writeImage s).throttle j = s.throttle j) ∧ (∀ j n, (writeImage s).socket j n = s.socket j n)
      ∧ (∀ j n, (writeImage s).record j n = s.record j n) :=
  ⟨rfl, rfl, rfl, rfl, rfl, rfl, rfl, rfl, rfl, rfl, rfl, rfl, rfl, rfl, rfl, fun _ => rfl, fun _ => rfl,
    fun _ => rfl, fun _ => rfl, fun _ => rfl, fun _ _ => rfl, fun _ _ => rfl⟩

/-! ## What is read back after an update -/

@[simp] theorem State.setSlot_slot_same (s : State) (k : Slot) (c : SlotCtl) : (s.setSlot k c).slot k = c := by
  cases k <;> rfl

theorem State.setSlot_slot (s : State) (j k : Slot) (c : SlotCtl) :
    (s.setSlot k c).slot j = if j = k then c else s.slot j := by
  cases j <;> cases k <;> rfl

theorem State.setSlot_slot_ne (s : State) {j k : Slot} (c : SlotCtl) (h : j ≠ k) : (s.setSlot k c).slot j = s.slot j := by
  rw [State.setSlot_slot, if_neg h]

@[simp] theorem State.setSlot_setSlot (s : State) (k : Slot) (c d : SlotCtl) : (s.setSlot k c).setSlot k d = s.setSlot k d := by
  cases k <;> rfl

@[simp] theorem State.setSlot_self (s : State) (k : Slot) : s.setSlot k (s.slot k) = s := by
  cases k <;> rfl

@[simp] theorem State.setScanner_scanner_same (s : State) (k : Slot) (c : Scanner) : (s.setScanner k c).scanner k = c := by
  cases k <;> rfl

theorem State.setScanner_scanner (s : State) (j k : Slot) (c : Scanner) :
    (s.setScanner k c).scanner j = if j = k then c else s.scanner j := by
  cases j <;> cases k <;> rfl

theorem State.setScanner_scanner_ne (s : State) {j k : Slot} (c : Scanner) (h : j ≠ k) : (s.setScanner k c).scanner j = s.scanner j := by
  rw [State.setScanner_scanner, if_neg h]

@[simp] theorem State.setScanner_setScanner (s : State) (k : Slot) (c d : Scanner) : (s.setScanner k c).setScanner k d = s.setScanner k d := by
  cases k <;> rfl

@[simp] theorem State.setScanner_self (s : State) (k : Slot) : s.setScanner k (s.scanner k) = s := by
  cases k <;> rfl

@[simp] theorem State.setChannel_channel_same (s : State) (k : Slot) (c : Channel) : (s.setChannel k c).channel k = c := by
  cases k <;> rfl

theorem State.setChannel_channel (s : State) (j k : Slot) (c : Channel) :
    (s.setChannel k c).channel j = if j = k then c else s.channel j := by
  cases j <;> cases k <;> rfl

theorem State.setChannel_channel_ne (s : State) {j k : Slot} (c : Channel) (h : j ≠ k) : (s.setChannel k c).channel j = s.channel j := by
  rw [State.setChannel_channel, if_neg h]

@[simp] theorem State.setChannel_setChannel (s : State) (k : Slot) (c d : Channel) : (s.setChannel k c).setChannel k d = s.setChannel k d := by
  cases k <;> rfl

@[simp] theorem State.setChannel_self (s : State) (k : Slot) : s.setChannel k (s.channel k) = s := by
  cases k <;> rfl

@[simp] theorem State.setCompare_compare_same (s : State) (k : Slot) (c : Compare) : (s.setCompare k c).compare k = c := by
  cases k <;> rfl

theorem State.setCompare_compare (s : State) (j k : Slot) (c : Compare) :
    (s.setCompare k c).compare j = if j = k then c else s.compare j := by
  cases j <;> cases k <;> rfl

theorem State.setCompare_compare_ne (s : State) {j k : Slot} (c : Compare) (h : j ≠ k) : (s.setCompare k c).compare j = s.compare j := by
  rw [State.setCompare_compare, if_neg h]

@[simp] theorem State.setCompare_setCompare (s : State) (k : Slot) (c d : Compare) : (s.setCompare k c).setCompare k d = s.setCompare k d := by
  cases k <;> rfl

@[simp] theorem State.setCompare_self (s : State) (k : Slot) : s.setCompare k (s.compare k) = s := by
  cases k <;> rfl

@[simp] theorem State.setThrottle_throttle_same (s : State) (k : Slot) (c : Throttle) : (s.setThrottle k c).throttle k = c := by
  cases k <;> rfl

theorem State.setThrottle_throttle (s : State) (j k : Slot) (c : Throttle) :
    (s.setThrottle k c).throttle j = if j = k then c else s.throttle j := by
  cases j <;> cases k <;> rfl

theorem State.setThrottle_throttle_ne (s : State) {j k : Slot} (c : Throttle) (h : j ≠ k) : (s.setThrottle k c).throttle j = s.throttle j := by
  rw [State.setThrottle_throttle, if_neg h]

@[simp] theorem State.setThrottle_setThrottle (s : State) (k : Slot) (c d : Throttle) : (s.setThrottle k c).setThrottle k d = s.setThrottle k d := by
  cases k <;> rfl

@[simp] theorem State.setThrottle_self (s : State) (k : Slot) : s.setThrottle k (s.throttle k) = s := by
  cases k <;> rfl

@[simp] theorem State.setThrottle_zone (s : State) (k : Slot) (c : Throttle) :
    (s.setThrottle k c).zone = { s.zone with throttle := s.zone.throttle.set k c } := rfl

theorem State.setSocket_slot (s : State) (j k : Slot) (i : Socket) (p : SocketPower) :
    (s.setSocket k i p).slot j
      = if j = k then { s.slot k with sockets := (s.slot k).sockets.set i p } else s.slot j := by
  simp [State.setSocket, State.setSlot_slot]

@[simp] theorem State.setSocket_slot_same (s : State) (k : Slot) (i : Socket) (p : SocketPower) :
    (s.setSocket k i p).slot k = { s.slot k with sockets := (s.slot k).sockets.set i p } := by
  simp [State.setSocket]

theorem State.setSocket_socket (s : State) (j k : Slot) (i n : Socket) (p : SocketPower) :
    (s.setSocket k i p).socket j n = if j = k ∧ n = i then p else s.socket j n := by
  by_cases h : j = k
  · subst h
    simp only [State.socket, State.setSocket_slot_same, true_and]
    exact Table.get_set _ _ _ _
  · simp only [State.socket, State.setSocket_slot, h, if_false, false_and]

@[simp] theorem State.setSocket_socket_same (s : State) (k : Slot) (i : Socket) (p : SocketPower) :
    (s.setSocket k i p).socket k i = p := by
  simp [State.setSocket_socket]

@[simp] theorem State.setSocket_self (s : State) (k : Slot) (i : Socket) : s.setSocket k i (s.socket k i) = s := by
  simp only [State.setSocket, State.socket, Table.set_get]
  exact State.setSlot_self s k

/-- The socket read after a whole slot is replaced. -/
theorem State.setSlot_socket (s : State) (j k : Slot) (c : SlotCtl) (i : Socket) :
    (s.setSlot k c).socket j i = if j = k then c.sockets.get i else s.socket j i := by
  simp only [State.socket, State.setSlot_slot]
  split <;> rfl

@[simp] theorem State.setSlot_socket_same (s : State) (k : Slot) (c : SlotCtl) (i : Socket) :
    (s.setSlot k c).socket k i = c.sockets.get i := by
  simp [State.setSlot_socket]

theorem State.setRecord_record (s : State) (j k : Slot) (i n : Socket) (r : AcctRecord) :
    (s.setRecord k i r).record j n = if j = k ∧ n = i then r else s.record j n := by
  by_cases h : j = k
  · subst h
    simp only [State.record, State.setRecord, PerSlot.get_set_same, true_and]
    exact Table.get_set _ _ _ _
  · simp only [State.record, State.setRecord, PerSlot.get_set, h, if_false, false_and]

@[simp] theorem State.setRecord_record_same (s : State) (k : Slot) (i : Socket) (r : AcctRecord) :
    (s.setRecord k i r).record k i = r := by
  simp [State.setRecord_record]

@[simp] theorem State.setRecord_acct (s : State) (k : Slot) (i : Socket) (r : AcctRecord) :
    (s.setRecord k i r).acct.accel = s.acct.accel ∧ (s.setRecord k i r).acct.wEx = s.acct.wEx ∧ (s.setRecord k i r).acct.wSt = s.acct.wSt
      ∧ (s.setRecord k i r).acct.interval = s.acct.interval ∧ (s.setRecord k i r).acct.counts = s.acct.counts
      ∧ (s.setRecord k i r).acct.holdover = s.acct.holdover ∧ (s.setRecord k i r).acct.snapshot = s.acct.snapshot :=
  ⟨rfl, rfl, rfl, rfl, rfl, rfl, rfl⟩

@[simp] theorem zeroRecords_acct (k : Slot) (s : State) :
    (zeroRecords k s).acct.accel = s.acct.accel ∧ (zeroRecords k s).acct.wEx = s.acct.wEx ∧ (zeroRecords k s).acct.wSt = s.acct.wSt
      ∧ (zeroRecords k s).acct.interval = s.acct.interval ∧ (zeroRecords k s).acct.counts = s.acct.counts
      ∧ (zeroRecords k s).acct.holdover = s.acct.holdover ∧ (zeroRecords k s).acct.snapshot = s.acct.snapshot :=
  ⟨rfl, rfl, rfl, rfl, rfl, rfl, rfl⟩

@[simp] theorem setTag_acct (k : Slot) (i : Identity) (s : State) :
    (setTag k i s).acct.accel = s.acct.accel ∧ (setTag k i s).acct.wEx = s.acct.wEx ∧ (setTag k i s).acct.wSt = s.acct.wSt
      ∧ (setTag k i s).acct.interval = s.acct.interval ∧ (setTag k i s).acct.counts = s.acct.counts
      ∧ (setTag k i s).acct.holdover = s.acct.holdover ∧ (setTag k i s).acct.snapshot = s.acct.snapshot :=
  ⟨rfl, rfl, rfl, rfl, rfl, rfl, rfl⟩

@[simp] theorem State.setRecord_tag (s : State) (j k : Slot) (i : Socket) (r : AcctRecord) :
    ((s.setRecord k i r).acct.sets.get j).tag = (s.acct.sets.get j).tag := by
  by_cases h : j = k
  · subst h; simp [State.setRecord]
  · simp [State.setRecord, PerSlot.get_set, h]

theorem State.setRecord_set_ne (s : State) {j k : Slot} (i : Socket) (r : AcctRecord) (h : j ≠ k) :
    (s.setRecord k i r).acct.sets.get j = s.acct.sets.get j := by
  simp [State.setRecord, PerSlot.get_set, h]

@[simp] theorem raiseSource_alert (src : Source) (s : State) :
    (raiseSource src s).alert = { s.alert with raised := s.alert.raised ||| sourceBit src.number } := rfl

@[simp] theorem SlotCtl.setRail_of_same (c : SlotCtl) (r : Rail) (x : RailState) : r.of (c.setRail r x) = x := by
  cases r <;> rfl

@[simp] theorem SlotCtl.setRail_of_other (c : SlotCtl) (r : Rail) (x : RailState) :
    r.other.of (c.setRail r x) = r.other.of c := by
  cases r <;> rfl

@[simp] theorem SlotCtl.setRail_of_other' (c : SlotCtl) (r : Rail) (x : RailState) :
    r.of (c.setRail r.other x) = r.of c := by
  cases r <;> rfl

@[simp] theorem SlotCtl.setRail_frame (c : SlotCtl) (r : Rail) (x : RailState) :
    (c.setRail r x).board = c.board ∧ (c.setRail r x).identity = c.identity
      ∧ (c.setRail r x).descriptor = c.descriptor ∧ (c.setRail r x).status = c.status
      ∧ (c.setRail r x).active = c.active ∧ (c.setRail r x).staged = c.staged
      ∧ (c.setRail r x).sockets = c.sockets ∧ (c.setRail r x).railTrip = c.railTrip
      ∧ (c.setRail r x).socketTrip = c.socketTrip ∧ (c.setRail r x).burstDone = c.burstDone
      ∧ (c.setRail r x).applyDone = c.applyDone ∧ (c.setRail r x).abandoned = c.abandoned
      ∧ (c.setRail r x).applyDeferred = c.applyDeferred ∧ (c.setRail r x).ramp = c.ramp
      ∧ (c.setRail r x).dwell = c.dwell ∧ (c.setRail r x).drain = c.drain
      ∧ (c.setRail r x).drainLimit = c.drainLimit ∧ (c.setRail r x).identLimit = c.identLimit := by
  cases r <;> simp [SlotCtl.setRail]

@[simp] theorem slotOfCode_code (k : Slot) : slotOfCode k.code = some k := by
  cases k <;> rfl

@[simp] theorem withSlot_code (s : State) (k : Slot) (f : Slot → Served) : withSlot s k.code f = f k := by
  simp [withSlot]

@[simp] theorem socketOf_val (i : Socket) : socketOf i.val = i := by
  apply Fin.ext
  simp [socketOf, Fin.ofNat, Nat.mod_eq_of_lt i.isLt]

/-- The eight numbers a loop over all sockets takes in order are all the sockets. -/
@[simp] theorem Socket.mem_all (i : Socket) : i ∈ Socket.all := List.mem_finRange i

theorem Socket.all_nodup : Socket.all.Nodup := List.nodup_finRange 32

@[simp] theorem Slot.mem_all (k : Slot) : k ∈ Slot.all := by cases k <;> simp [Slot.all]

end Machine
end Sys2Proof
end

