-- ==== Sys2Proof/Laws/Ops.lean ====
section
/-!
SUPPORT. The shared operations of Machine/Ops.lean: for each, the parts of the state it leaves (`_frame`), that
it touches one slot alone (`_slotFrame`), and what it does.
-/

namespace Sys2Proof.Machine

/-! ## Loops -/

/-- What every turn of a loop keeps, the loop keeps. -/
theorem forSockets_keeps {α : Type} (g : State → α) (f : Socket → State → State)
    (h : ∀ i s, g (f i s) = g s) (l : List Socket) (s : State) : g (forSockets l f s) = g s := by
  induction l generalizing s with
  | nil => rfl
  | cons i l ih => exact (ih (f i s)).trans (h i s)

@[simp] theorem forSockets_nil (f : Socket → State → State) (s : State) : forSockets [] f s = s := rfl

theorem forSockets_cons (f : Socket → State → State) (i : Socket) (l : List Socket) (s : State) :
    forSockets (i :: l) f s = forSockets l f (f i s) := rfl

/-- A property that every turn keeps holds after the loop. -/
theorem forSockets_invariant (P : State → Prop) (f : Socket → State → State) (h : ∀ i s, P s → P (f i s))
    (l : List Socket) (s : State) (hs : P s) : P (forSockets l f s) := by
  induction l generalizing s with
  | nil => exact hs
  | cons i l ih => exact ih _ (h i s hs)

/-- A property that every turn keeps holds after the work on all four slots. -/
theorem forSlots_invariant (P : State → Prop) (f : Slot → State → State) (h : ∀ k s, P s → P (f k s)) (s : State)
    (hs : P s) : P (forSlots f s) :=
  h _ _ (h _ _ (h _ _ (h _ _ hs)))

/-- What the work on each slot keeps, the work on all four keeps. -/
theorem forSlots_keeps {α : Type} (g : State → α) (f : Slot → State → State) (h : ∀ k s, g (f k s) = g s)
    (s : State) : g (forSlots f s) = g s :=
  (h _ _).trans ((h _ _).trans ((h _ _).trans (h _ _)))

end Sys2Proof.Machine

namespace Sys2Proof.Safety

open Machine

/-! ## A step of one slot -/

theorem SlotFrame.refl (k : Slot) (s : State) : SlotFrame k s s :=
  ⟨rfl, rfl, rfl, rfl, rfl, rfl, rfl, rfl, rfl, rfl, fun _ _ => ⟨rfl, rfl, rfl, rfl, rfl, rfl⟩⟩

theorem SlotFrame.trans {k : Slot} {s t u : State} (h : SlotFrame k s t) (g : SlotFrame k t u) : SlotFrame k s u := by
  obtain ⟨a1, a2, a3, a4, a5, a6, a7, a8, a9, a10, a11⟩ := h
  obtain ⟨b1, b2, b3, b4, b5, b6, b7, b8, b9, b10, b11⟩ := g
  refine ⟨b1.trans a1, b2.trans a2, b3.trans a3, b4.trans a4, b5.trans a5, b6.trans a6, b7.trans a7, ?_, ?_, ?_, ?_⟩
  · rw [b8, a8]
  · rw [b9, a9]
  · rw [b10, a10]
  · intro j hj
    obtain ⟨c1, c2, c3, c4, c5, c6⟩ := a11 j hj
    obtain ⟨d1, d2, d3, d4, d5, d6⟩ := b11 j hj
    exact ⟨d1.trans c1, d2.trans c2, d3.trans c3, d4.trans c4, d5.trans c5, d6.trans c6⟩

/-- A loop whose turns touch one slot touches that slot alone. -/
theorem forSockets_slotFrame {k : Slot} (f : Socket → State → State) (h : ∀ i s, SlotFrame k s (f i s))
    (l : List Socket) (s : State) : SlotFrame k s (forSockets l f s) :=
  forSockets_invariant (SlotFrame k s) f (fun i _ ht => ht.trans (h i _)) l s (SlotFrame.refl k s)

end Sys2Proof.Safety

namespace Sys2Proof.Machine

open Safety

theorem State.setSlot_slotFrame (s : State) (k : Slot) (c : SlotCtl) : SlotFrame k s (s.setSlot k c) :=
  ⟨rfl, rfl, rfl, rfl, rfl, rfl, rfl, rfl, rfl, rfl,
    fun _ h => ⟨State.setSlot_slot_ne s c h, rfl, rfl, rfl, rfl, rfl⟩⟩

theorem State.setScanner_slotFrame (s : State) (k : Slot) (c : Scanner) : SlotFrame k s (s.setScanner k c) :=
  ⟨rfl, rfl, rfl, rfl, rfl, rfl, rfl, rfl, rfl, rfl,
    fun _ h => ⟨rfl, State.setScanner_scanner_ne s c h, rfl, rfl, rfl, rfl⟩⟩

theorem State.setChannel_slotFrame (s : State) (k : Slot) (c : Channel) : SlotFrame k s (s.setChannel k c) :=
  ⟨rfl, rfl, rfl, rfl, rfl, rfl, rfl, rfl, rfl, rfl,
    fun _ h => ⟨rfl, rfl, State.setChannel_channel_ne s c h, rfl, rfl, rfl⟩⟩

theorem State.setCompare_slotFrame (s : State) (k : Slot) (c : Compare) : SlotFrame k s (s.setCompare k c) :=
  ⟨rfl, rfl, rfl, rfl, rfl, rfl, rfl, rfl, rfl, rfl,
    fun _ h => ⟨rfl, rfl, rfl, State.setCompare_compare_ne s c h, rfl, rfl⟩⟩

theorem State.setThrottle_slotFrame (s : State) (k : Slot) (c : Throttle) : SlotFrame k s (s.setThrottle k c) :=
  ⟨rfl, rfl, rfl, rfl, rfl, rfl, rfl, rfl, rfl, rfl,
    fun _ h => ⟨rfl, rfl, rfl, rfl, State.setThrottle_throttle_ne s c h, rfl⟩⟩

theorem State.setSocket_slotFrame (s : State) (k : Slot) (i : Socket) (p : SocketPower) :
    SlotFrame k s (s.setSocket k i p) :=
  State.setSlot_slotFrame s k _

theorem State.setRecord_slotFrame (s : State) (k : Slot) (i : Socket) (r : AcctRecord) :
    SlotFrame k s (s.setRecord k i r) :=
  ⟨rfl, rfl, rfl, rfl, rfl, rfl, rfl, rfl, rfl, rfl,
    fun _ h => ⟨rfl, rfl, rfl, rfl, rfl, State.setRecord_set_ne s i r h⟩⟩

theorem AlertUnit.with_raised {a b : AlertUnit} (h1 : a.inService = b.inService) (h2 : a.mask = b.mask)
    (h3 : a.priority = b.priority) (h4 : a.base = b.base) (h5 : a.delivery = b.delivery) :
    a = { b with raised := a.raised } := by
  cases a; cases b; simp_all

theorem raiseSource_slotFrame (k : Slot) (src : Source) (s : State) : SlotFrame k s (raiseSource src s) :=
  ⟨rfl, rfl, rfl, rfl, rfl, rfl, rfl, rfl, rfl, rfl, fun _ _ => ⟨rfl, rfl, rfl, rfl, rfl, rfl⟩⟩

/-! ## Outputs -/

/-- R66: in BURST the lanes carry the driven vector. -/
theorem Channel.drive_burst (c : Channel) (p : Play) (hs : c.state = .burst) (hp : c.play = some p) :
    c.drive = p.driven.drive := by simp [Channel.drive, hs, hp]

/-- R67: outside BURST the lanes carry the idle word. -/
theorem Channel.drive_idle (c : Channel) (h : c.state ≠ .burst) : c.drive = 0 := by
  unfold Channel.drive; split
  · contradiction
  · rfl

/-! ## Alerts and the log -/

@[simp] theorem logCompare_frame (s : State) :
    (logCompare s).part = s.part ∧ (logCompare s).lines = s.lines ∧ (logCompare s).slots = s.slots
      ∧ (logCompare s).scan = s.scan ∧ (logCompare s).store = s.store ∧ (logCompare s).chan = s.chan
      ∧ (logCompare s).cmp = s.cmp ∧ (logCompare s).zone = s.zone ∧ (logCompare s).acct = s.acct
      ∧ (logCompare s).clock = s.clock ∧ (logCompare s).ret = s.ret ∧ (logCompare s).link = s.link
      ∧ (logCompare s).races = s.races ∧ (logCompare s).pending = s.pending
      ∧ (∀ j, (logCompare s).slot j = s.slot j) ∧ (∀ j, (logCompare s).scanner j = s.scanner j)
      ∧ (∀ j, (logCompare s).channel j = s.channel j) ∧ (∀ j, (logCompare s).compare j = s.compare j)
      ∧ (∀ j, (logCompare s).throttle j = s.throttle j) ∧ (∀ j n, (logCompare s).socket j n = s.socket j n)
      ∧ (∀ j n, (logCompare s).record j n = s.record j n)
      ∧ (logCompare s).alert.inService = s.alert.inService ∧ (logCompare s).alert.mask = s.alert.mask
      ∧ (logCompare s).alert.priority = s.alert.priority ∧ (logCompare s).alert.base = s.alert.base
      ∧ (logCompare s).alert.delivery = s.alert.delivery ∧ (logCompare s).log.epoch = s.log.epoch := by
  unfold logCompare
  split <;> simp

@[simp] theorem logCompare_entries (s : State) :
    (logCompare s).log.entries = s.log.entries ∧ (logCompare s).log.discarded = s.log.discarded := by
  unfold logCompare
  split <;> simp

/-- R155: the comparison raises LOG alone. -/
theorem logCompare_raised (s : State) (n : Nat) (h : s.alert.raised.getLsbD n = true) :
    (logCompare s).alert.raised.getLsbD n = true := by
  unfold logCompare
  split <;> simp [h]

@[simp] theorem raiseSlot_frame (slot : Option Slot) (s : State) :
    (raiseSlot slot s).part = s.part ∧ (raiseSlot slot s).lines = s.lines
      ∧ (raiseSlot slot s).slots = s.slots ∧ (raiseSlot slot s).scan = s.scan
      ∧ (raiseSlot slot s).store = s.store ∧ (raiseSlot slot s).chan = s.chan
      ∧ (raiseSlot slot s).cmp = s.cmp ∧ (raiseSlot slot s).zone = s.zone ∧ (raiseSlot slot s).acct = s.acct
      ∧ (raiseSlot slot s).log = s.log ∧ (raiseSlot slot s).clock = s.clock ∧ (raiseSlot slot s).ret = s.ret
      ∧ (raiseSlot slot s).link = s.link ∧ (raiseSlot slot s).races = s.races
      ∧ (raiseSlot slot s).pending = s.pending ∧ (∀ j, (raiseSlot slot s).slot j = s.slot j)
      ∧ (∀ j, (raiseSlot slot s).scanner j = s.scanner j)
      ∧ (∀ j, (raiseSlot slot s).channel j = s.channel j)
      ∧ (∀ j, (raiseSlot slot s).compare j = s.compare j)
      ∧ (∀ j, (raiseSlot slot s).throttle j = s.throttle j)
      ∧ (∀ j n, (raiseSlot slot s).socket j n = s.socket j n)
      ∧ (∀ j n, (raiseSlot slot s).record j n = s.record j n)
      ∧ (raiseSlot slot s).alert.inService = s.alert.inService
      ∧ (raiseSlot slot s).alert.mask = s.alert.mask ∧ (raiseSlot slot s).alert.priority = s.alert.priority
      ∧ (raiseSlot slot s).alert.base = s.alert.base ∧ (raiseSlot slot s).alert.delivery = s.alert.delivery := by
  cases slot <;> simp [raiseSlot]

@[simp] theorem appendEntry_frame (a : Option Slot) (i : Option Socket) (c : LogCause) (d : List Byte) (s : State) :
    (appendEntry a i c d s).part = s.part ∧ (appendEntry a i c d s).lines = s.lines
      ∧ (appendEntry a i c d s).slots = s.slots ∧ (appendEntry a i c d s).scan = s.scan
      ∧ (appendEntry a i c d s).store = s.store ∧ (appendEntry a i c d s).chan = s.chan
      ∧ (appendEntry a i c d s).cmp = s.cmp ∧ (appendEntry a i c d s).zone = s.zone
      ∧ (appendEntry a i c d s).acct = s.acct ∧ (appendEntry a i c d s).clock = s.clock
      ∧ (appendEntry a i c d s).ret = s.ret ∧ (appendEntry a i c d s).link = s.link
      ∧ (appendEntry a i c d s).races = s.races ∧ (appendEntry a i c d s).pending = s.pending
      ∧ (∀ j, (appendEntry a i c d s).slot j = s.slot j)
      ∧ (∀ j, (appendEntry a i c d s).scanner j = s.scanner j)
      ∧ (∀ j, (appendEntry a i c d s).channel j = s.channel j)
      ∧ (∀ j, (appendEntry a i c d s).compare j = s.compare j)
      ∧ (∀ j, (appendEntry a i c d s).throttle j = s.throttle j)
      ∧ (∀ j n, (appendEntry a i c d s).socket j n = s.socket j n)
      ∧ (∀ j n, (appendEntry a i c d s).record j n = s.record j n)
      ∧ (appendEntry a i c d s).alert.inService = s.alert.inService
      ∧ (appendEntry a i c d s).alert.mask = s.alert.mask
      ∧ (appendEntry a i c d s).alert.priority = s.alert.priority
      ∧ (appendEntry a i c d s).alert.base = s.alert.base
      ∧ (appendEntry a i c d s).alert.delivery = s.alert.delivery
      ∧ (appendEntry a i c d s).log.epoch = s.log.epoch := by
  simp [appendEntry, FailLog.push]
  split <;> rfl

/-- R153: what the newest end of the log holds after an append. -/
theorem FailLog.push_newest (l : FailLog) (e : LogEntry) : (l.push e).entries.getLast? = some e := by
  unfold FailLog.push
  split <;> simp

/-- R149, R153: an append to a log of at most 256 entries leaves at most 256. -/
theorem FailLog.push_length (l : FailLog) (e : LogEntry) (h : l.entries.length ≤ 256) :
    (l.push e).entries.length ≤ 256 := by
  unfold FailLog.push Config.logSize
  split <;> simp <;> omega

theorem appendEntry_log (a : Option Slot) (i : Option Socket) (c : LogCause) (d : List Byte) (s : State) :
    (appendEntry a i c d s).log.entries = (s.log.push (entryNow s a i c d)).entries := by
  simp [appendEntry]

/-- R149: an append keeps the bound of the log. -/
theorem appendEntry_length (a : Option Slot) (i : Option Socket) (c : LogCause) (d : List Byte) (s : State)
    (h : s.log.entries.length ≤ 256) : (appendEntry a i c d s).log.entries.length ≤ 256 := by
  rw [appendEntry_log]
  exact FailLog.push_length _ _ h

/-- R150, R152: the newest entry after an append. -/
theorem appendEntry_newest (a : Option Slot) (i : Option Socket) (c : LogCause) (d : List Byte) (s : State) :
    NewestIs (appendEntry a i c d s) a i c d := by
  refine ⟨entryNow s a i c d, ?_, rfl, rfl, rfl, rfl, ?_, ?_⟩
  · rw [newest, appendEntry_log, FailLog.push_newest]
  · simp [entryNow]
  · simp [entryNow]

/-- The newest entry and the fields it must agree with, carried over a step that leaves the log and the clock. -/
theorem newestIs_of_eq {a : Option Slot} {i : Option Socket} {c : LogCause} {d : List Byte} {s t : State}
    (h : NewestIs s a i c d) (hl : t.log.entries = s.log.entries) (he : t.log.epoch = s.log.epoch)
    (hc : t.clock = s.clock) : NewestIs t a i c d := by
  obtain ⟨e, h1, h2, h3, h4, h5, h6, h7⟩ := h
  exact ⟨e, by rw [newest, hl]; exact h1, h2, h3, h4, h5, by rw [he]; exact h6, by rw [hc]; exact h7⟩

theorem sourceBit_self (k : Slot) : (sourceBit (boardSource k).number).getLsbD (2 + k.code) = true := by
  cases k <;> decide

/-- R154: an append whose entry names a slot raises that slot's source. -/
theorem appendEntry_raises (k : Slot) (i : Option Socket) (c : LogCause) (d : List Byte) (s : State) :
    (appendEntry (some k) i c d s).alert.raised.getLsbD (2 + k.code) = true := by
  apply logCompare_raised
  simp [raiseSlot, sourceBit_self]

/-- R164: an append lowers no source. -/
theorem appendEntry_raised (a : Option Slot) (i : Option Socket) (c : LogCause) (d : List Byte) (s : State) (n : Nat)
    (h : s.alert.raised.getLsbD n = true) : (appendEntry a i c d s).alert.raised.getLsbD n = true := by
  apply logCompare_raised
  cases a <;> simp [raiseSlot, h]

theorem appendEntry_slotFrame (k : Slot) (a : Option Slot) (i : Option Socket) (c : LogCause) (d : List Byte)
    (s : State) : SlotFrame k s (appendEntry a i c d s) := by
  refine ⟨?_, ?_, ?_, ?_, ?_, ?_, ?_, ?_, ?_, ?_, ?_⟩ <;> simp [received]
  exact AlertUnit.with_raised (by simp) (by simp) (by simp) (by simp) (by simp)

@[simp] theorem setPower_frame (k : Slot) (i : Socket) (p : PowerState) (t : Timer) (s : State) :
    (setPower k i p t s).part = s.part ∧ (setPower k i p t s).lines = s.lines
      ∧ (setPower k i p t s).scan = s.scan ∧ (setPower k i p t s).store = s.store
      ∧ (setPower k i p t s).chan = s.chan ∧ (setPower k i p t s).zone = s.zone
      ∧ (setPower k i p t s).acct = s.acct ∧ (setPower k i p t s).log = s.log
      ∧ (setPower k i p t s).alert = s.alert ∧ (setPower k i p t s).clock = s.clock
      ∧ (setPower k i p t s).ret = s.ret ∧ (setPower k i p t s).link = s.link
      ∧ (setPower k i p t s).races = s.races ∧ (setPower k i p t s).pending = s.pending
      ∧ (∀ j, (setPower k i p t s).scanner j = s.scanner j)
      ∧ (∀ j, (setPower k i p t s).channel j = s.channel j)
      ∧ (∀ j, (setPower k i p t s).throttle j = s.throttle j)
      ∧ (∀ j n, (setPower k i p t s).record j n = s.record j n) := by
  unfold setPower
  split <;> simp

@[simp] theorem dropNotice_frame (k : Slot) (i : Socket) (s : State) :
    (dropNotice k i s).part = s.part ∧ (dropNotice k i s).lines = s.lines ∧ (dropNotice k i s).scan = s.scan
      ∧ (dropNotice k i s).store = s.store ∧ (dropNotice k i s).chan = s.chan
      ∧ (dropNotice k i s).zone = s.zone ∧ (dropNotice k i s).acct = s.acct ∧ (dropNotice k i s).log = s.log
      ∧ (dropNotice k i s).alert = s.alert ∧ (dropNotice k i s).clock = s.clock
      ∧ (dropNotice k i s).ret = s.ret ∧ (dropNotice k i s).link = s.link
      ∧ (dropNotice k i s).races = s.races ∧ (dropNotice k i s).pending = s.pending
      ∧ (∀ j, (dropNotice k i s).scanner j = s.scanner j)
      ∧ (∀ j, (dropNotice k i s).channel j = s.channel j)
      ∧ (∀ j, (dropNotice k i s).throttle j = s.throttle j)
      ∧ (∀ j n, (dropNotice k i s).record j n = s.record j n) := by
  unfold dropNotice
  split <;> simp

theorem setPower_socket (k j : Slot) (i n : Socket) (p : PowerState) (t : Timer) (s : State) :
    (setPower k i p t s).socket j n = if j = k ∧ n = i then
      ⟨p, (s.socket k i).strikes, if p = .on then (s.socket k i).overCode else none, t⟩ else s.socket j n := by
  unfold setPower
  split <;> simp [State.setSocket_socket, *]

@[simp] theorem setPower_socket_same (k : Slot) (i : Socket) (p : PowerState) (t : Timer) (s : State) :
    (setPower k i p t s).socket k i
      = ⟨p, (s.socket k i).strikes, if p = .on then (s.socket k i).overCode else none, t⟩ := by
  simp [setPower_socket]

/-- R91: a socket that leaves ON loses its membership and its count. -/
theorem setPower_compare (k j : Slot) (i : Socket) (p : PowerState) (t : Timer) (s : State) :
    (setPower k i p t s).compare j = if j = k ∧ p ≠ .on then
      { s.compare k with member := (s.compare k).member.set i false
                         mismatch := (s.compare k).mismatch.set i 0 } else s.compare j := by
  unfold setPower
  split <;> simp [State.setCompare_compare, *]

theorem setPower_slotFrame (k : Slot) (i : Socket) (p : PowerState) (t : Timer) (s : State) :
    SlotFrame k s (setPower k i p t s) := by
  unfold setPower
  split
  · exact State.setSocket_slotFrame _ _ _ _
  · exact (State.setSocket_slotFrame _ _ _ _).trans (State.setCompare_slotFrame _ _ _)

@[simp] theorem State.setSocket_slotFields (s : State) (k : Slot) (i : Socket) (p : SocketPower) (j : Slot) :
    ((s.setSocket k i p).slot j).board = (s.slot j).board
      ∧ ((s.setSocket k i p).slot j).identity = (s.slot j).identity
      ∧ ((s.setSocket k i p).slot j).descriptor = (s.slot j).descriptor
      ∧ ((s.setSocket k i p).slot j).status = (s.slot j).status
      ∧ ((s.setSocket k i p).slot j).active = (s.slot j).active
      ∧ ((s.setSocket k i p).slot j).staged = (s.slot j).staged
      ∧ ((s.setSocket k i p).slot j).railTrip = (s.slot j).railTrip
      ∧ ((s.setSocket k i p).slot j).socketTrip = (s.slot j).socketTrip
      ∧ ((s.setSocket k i p).slot j).burstDone = (s.slot j).burstDone
      ∧ ((s.setSocket k i p).slot j).applyDone = (s.slot j).applyDone
      ∧ ((s.setSocket k i p).slot j).abandoned = (s.slot j).abandoned
      ∧ ((s.setSocket k i p).slot j).applyDeferred = (s.slot j).applyDeferred
      ∧ ((s.setSocket k i p).slot j).vcore = (s.slot j).vcore
      ∧ ((s.setSocket k i p).slot j).vio = (s.slot j).vio
      ∧ ((s.setSocket k i p).slot j).ramp = (s.slot j).ramp
      ∧ ((s.setSocket k i p).slot j).dwell = (s.slot j).dwell
      ∧ ((s.setSocket k i p).slot j).drain = (s.slot j).drain
      ∧ ((s.setSocket k i p).slot j).drainLimit = (s.slot j).drainLimit
      ∧ ((s.setSocket k i p).slot j).identLimit = (s.slot j).identLimit := by
  simp only [State.setSocket_slot]
  split
  · next h => subst h; simp
  · simp

@[simp] theorem setPower_slotFields (k : Slot) (i : Socket) (p : PowerState) (t : Timer) (s : State) (j : Slot) :
    ((setPower k i p t s).slot j).board = (s.slot j).board
      ∧ ((setPower k i p t s).slot j).identity = (s.slot j).identity
      ∧ ((setPower k i p t s).slot j).descriptor = (s.slot j).descriptor
      ∧ ((setPower k i p t s).slot j).status = (s.slot j).status
      ∧ ((setPower k i p t s).slot j).active = (s.slot j).active
      ∧ ((setPower k i p t s).slot j).staged = (s.slot j).staged
      ∧ ((setPower k i p t s).slot j).railTrip = (s.slot j).railTrip
      ∧ ((setPower k i p t s).slot j).socketTrip = (s.slot j).socketTrip
      ∧ ((setPower k i p t s).slot j).burstDone = (s.slot j).burstDone
      ∧ ((setPower k i p t s).slot j).applyDone = (s.slot j).applyDone
      ∧ ((setPower k i p t s).slot j).abandoned = (s.slot j).abandoned
      ∧ ((setPower k i p t s).slot j).applyDeferred = (s.slot j).applyDeferred
      ∧ ((setPower k i p t s).slot j).vcore = (s.slot j).vcore
      ∧ ((setPower k i p t s).slot j).vio = (s.slot j).vio
      ∧ ((setPower k i p t s).slot j).ramp = (s.slot j).ramp
      ∧ ((setPower k i p t s).slot j).dwell = (s.slot j).dwell
      ∧ ((setPower k i p t s).slot j).drain = (s.slot j).drain
      ∧ ((setPower k i p t s).slot j).drainLimit = (s.slot j).drainLimit
      ∧ ((setPower k i p t s).slot j).identLimit = (s.slot j).identLimit := by
  unfold setPower
  split <;> simp

@[simp] theorem dropNotice_slotFields (k : Slot) (i : Socket) (s : State) (j : Slot) :
    ((dropNotice k i s).slot j).board = (s.slot j).board
      ∧ ((dropNotice k i s).slot j).identity = (s.slot j).identity
      ∧ ((dropNotice k i s).slot j).descriptor = (s.slot j).descriptor
      ∧ ((dropNotice k i s).slot j).status = (s.slot j).status
      ∧ ((dropNotice k i s).slot j).active = (s.slot j).active
      ∧ ((dropNotice k i s).slot j).staged = (s.slot j).staged
      ∧ ((dropNotice k i s).slot j).railTrip = (s.slot j).railTrip
      ∧ ((dropNotice k i s).slot j).socketTrip = (s.slot j).socketTrip
      ∧ ((dropNotice k i s).slot j).burstDone = (s.slot j).burstDone
      ∧ ((dropNotice k i s).slot j).applyDone = (s.slot j).applyDone
      ∧ ((dropNotice k i s).slot j).abandoned = (s.slot j).abandoned
      ∧ ((dropNotice k i s).slot j).applyDeferred = (s.slot j).applyDeferred
      ∧ ((dropNotice k i s).slot j).vcore = (s.slot j).vcore
      ∧ ((dropNotice k i s).slot j).vio = (s.slot j).vio
      ∧ ((dropNotice k i s).slot j).ramp = (s.slot j).ramp
      ∧ ((dropNotice k i s).slot j).dwell = (s.slot j).dwell
      ∧ ((dropNotice k i s).slot j).drain = (s.slot j).drain
      ∧ ((dropNotice k i s).slot j).drainLimit = (s.slot j).drainLimit
      ∧ ((dropNotice k i s).slot j).identLimit = (s.slot j).identLimit := by
  unfold dropNotice
  split <;> simp

theorem dropNotice_slotFrame (k : Slot) (i : Socket) (s : State) : SlotFrame k s (dropNotice k i s) := by
  unfold dropNotice
  split <;> first | exact setPower_slotFrame _ _ _ _ _ | exact SlotFrame.refl _ _

/-- R35: what a DROP notice does to each socket. -/
theorem dropNotice_socket (k j : Slot) (i n : Socket) (s : State) :
    (dropNotice k i s).socket j n =
      if j = k ∧ n = i ∧ ((s.socket k i).power = .on ∨ (s.socket k i).power = .tripWait) then
        ⟨.off, (s.socket k i).strikes, none, none⟩ else s.socket j n := by
  unfold dropNotice
  split <;> simp_all [setPower_socket]

/-! ## Failure reports -/

@[simp] theorem logFailure_frame (k : Slot) (i : Socket) (c : FailCause) (d : List Byte) (s : State) :
    (logFailure k i c d s).part = s.part ∧ (logFailure k i c d s).lines = s.lines
      ∧ (logFailure k i c d s).slots = s.slots ∧ (logFailure k i c d s).scan = s.scan
      ∧ (logFailure k i c d s).store = s.store ∧ (logFailure k i c d s).chan = s.chan
      ∧ (logFailure k i c d s).cmp = s.cmp ∧ (logFailure k i c d s).zone = s.zone
      ∧ (logFailure k i c d s).clock = s.clock ∧ (logFailure k i c d s).ret = s.ret
      ∧ (logFailure k i c d s).link = s.link ∧ (logFailure k i c d s).races = s.races
      ∧ (logFailure k i c d s).pending = s.pending ∧ (∀ j, (logFailure k i c d s).slot j = s.slot j)
      ∧ (∀ j, (logFailure k i c d s).scanner j = s.scanner j)
      ∧ (∀ j, (logFailure k i c d s).channel j = s.channel j)
      ∧ (∀ j, (logFailure k i c d s).compare j = s.compare j)
      ∧ (∀ j, (logFailure k i c d s).throttle j = s.throttle j)
      ∧ (∀ j n, (logFailure k i c d s).socket j n = s.socket j n)
      ∧ (logFailure k i c d s).acct.accel = s.acct.accel ∧ (logFailure k i c d s).acct.wEx = s.acct.wEx
      ∧ (logFailure k i c d s).acct.wSt = s.acct.wSt
      ∧ (logFailure k i c d s).acct.interval = s.acct.interval
      ∧ (logFailure k i c d s).acct.counts = s.acct.counts
      ∧ (logFailure k i c d s).acct.holdover = s.acct.holdover
      ∧ (logFailure k i c d s).acct.snapshot = s.acct.snapshot
      ∧ (∀ j, ((logFailure k i c d s).acct.sets.get j).tag = (s.acct.sets.get j).tag)
      ∧ (logFailure k i c d s).alert.inService = s.alert.inService
      ∧ (logFailure k i c d s).alert.mask = s.alert.mask
      ∧ (logFailure k i c d s).alert.priority = s.alert.priority
      ∧ (logFailure k i c d s).alert.base = s.alert.base
      ∧ (logFailure k i c d s).alert.delivery = s.alert.delivery
      ∧ (logFailure k i c d s).log.epoch = s.log.epoch := by
  unfold logFailure
  split <;> simp [appendSocket]

/-- R139, R140: what turning FAILED does, by the verdict and the fail policy. -/
theorem turnFailed_cases (k : Slot) (i : Socket) (c : FailCause) (d : List Byte) (s : State) :
    ((s.record k i).verdict = .failed ∧ turnFailed k i c d s = s)
      ∨ ((s.record k i).verdict = .good
        ∧ ∃ r, r = { s.record k i with verdict := .failed
                                       first := some ⟨c, (s.record k i).stress, s.log.epoch, s.clock.runSeconds, d⟩ }
          ∧ (((s.slot k).active.policy = .drop ∧ turnFailed k i c d s = dropNotice k i (s.setRecord k i r))
            ∨ ((s.slot k).active.policy = .keep ∧ turnFailed k i c d s = s.setRecord k i r))) := by
  unfold turnFailed
  cases h : (s.record k i).verdict
  · right
    refine ⟨rfl, _, rfl, ?_⟩
    cases hp : (s.slot k).active.policy <;> simp [h, hp]
  · left; simp [h]

@[simp] theorem turnFailed_frame (k : Slot) (i : Socket) (c : FailCause) (d : List Byte) (s : State) :
    (turnFailed k i c d s).part = s.part ∧ (turnFailed k i c d s).lines = s.lines
      ∧ (turnFailed k i c d s).scan = s.scan ∧ (turnFailed k i c d s).store = s.store
      ∧ (turnFailed k i c d s).chan = s.chan ∧ (turnFailed k i c d s).zone = s.zone
      ∧ (turnFailed k i c d s).log = s.log ∧ (turnFailed k i c d s).alert = s.alert
      ∧ (turnFailed k i c d s).clock = s.clock ∧ (turnFailed k i c d s).ret = s.ret
      ∧ (turnFailed k i c d s).link = s.link ∧ (turnFailed k i c d s).races = s.races
      ∧ (turnFailed k i c d s).pending = s.pending ∧ (∀ j, (turnFailed k i c d s).scanner j = s.scanner j)
      ∧ (∀ j, (turnFailed k i c d s).channel j = s.channel j)
      ∧ (∀ j, (turnFailed k i c d s).throttle j = s.throttle j)
      ∧ (turnFailed k i c d s).acct.accel = s.acct.accel ∧ (turnFailed k i c d s).acct.wEx = s.acct.wEx
      ∧ (turnFailed k i c d s).acct.wSt = s.acct.wSt
      ∧ (turnFailed k i c d s).acct.interval = s.acct.interval
      ∧ (turnFailed k i c d s).acct.counts = s.acct.counts
      ∧ (turnFailed k i c d s).acct.holdover = s.acct.holdover
      ∧ (turnFailed k i c d s).acct.snapshot = s.acct.snapshot
      ∧ (∀ j, ((turnFailed k i c d s).acct.sets.get j).tag = (s.acct.sets.get j).tag) := by
  obtain ⟨_, h⟩ | ⟨_, r, _, ⟨_, h⟩ | ⟨_, h⟩⟩ := turnFailed_cases k i c d s <;> rw [h] <;> simp

@[simp] theorem reportFailure_frame (k : Slot) (i : Socket) (c : FailCause) (d : List Byte) (s : State) :
    (reportFailure k i c d s).part = s.part ∧ (reportFailure k i c d s).lines = s.lines
      ∧ (reportFailure k i c d s).scan = s.scan ∧ (reportFailure k i c d s).store = s.store
      ∧ (reportFailure k i c d s).chan = s.chan ∧ (reportFailure k i c d s).zone = s.zone
      ∧ (reportFailure k i c d s).clock = s.clock ∧ (reportFailure k i c d s).ret = s.ret
      ∧ (reportFailure k i c d s).link = s.link ∧ (reportFailure k i c d s).races = s.races
      ∧ (reportFailure k i c d s).pending = s.pending
      ∧ (∀ j, (reportFailure k i c d s).scanner j = s.scanner j)
      ∧ (∀ j, (reportFailure k i c d s).channel j = s.channel j)
      ∧ (∀ j, (reportFailure k i c d s).throttle j = s.throttle j)
      ∧ (reportFailure k i c d s).acct.accel = s.acct.accel
      ∧ (reportFailure k i c d s).acct.wEx = s.acct.wEx ∧ (reportFailure k i c d s).acct.wSt = s.acct.wSt
      ∧ (reportFailure k i c d s).acct.interval = s.acct.interval
      ∧ (reportFailure k i c d s).acct.counts = s.acct.counts
      ∧ (reportFailure k i c d s).acct.holdover = s.acct.holdover
      ∧ (reportFailure k i c d s).acct.snapshot = s.acct.snapshot
      ∧ (∀ j, ((reportFailure k i c d s).acct.sets.get j).tag = (s.acct.sets.get j).tag)
      ∧ (reportFailure k i c d s).alert.inService = s.alert.inService
      ∧ (reportFailure k i c d s).alert.mask = s.alert.mask
      ∧ (reportFailure k i c d s).alert.priority = s.alert.priority
      ∧ (reportFailure k i c d s).alert.base = s.alert.base
      ∧ (reportFailure k i c d s).alert.delivery = s.alert.delivery
      ∧ (reportFailure k i c d s).log.epoch = s.log.epoch := by
  simp [reportFailure]

@[simp] theorem logFailure_slotFields (k : Slot) (i : Socket) (c : FailCause) (d : List Byte) (s : State) (j : Slot) :
    ((logFailure k i c d s).slot j).board = (s.slot j).board
      ∧ ((logFailure k i c d s).slot j).identity = (s.slot j).identity
      ∧ ((logFailure k i c d s).slot j).descriptor = (s.slot j).descriptor
      ∧ ((logFailure k i c d s).slot j).status = (s.slot j).status
      ∧ ((logFailure k i c d s).slot j).active = (s.slot j).active
      ∧ ((logFailure k i c d s).slot j).staged = (s.slot j).staged
      ∧ ((logFailure k i c d s).slot j).sockets = (s.slot j).sockets
      ∧ ((logFailure k i c d s).slot j).railTrip = (s.slot j).railTrip
      ∧ ((logFailure k i c d s).slot j).socketTrip = (s.slot j).socketTrip
      ∧ ((logFailure k i c d s).slot j).burstDone = (s.slot j).burstDone
      ∧ ((logFailure k i c d s).slot j).applyDone = (s.slot j).applyDone
      ∧ ((logFailure k i c d s).slot j).abandoned = (s.slot j).abandoned
      ∧ ((logFailure k i c d s).slot j).applyDeferred = (s.slot j).applyDeferred
      ∧ ((logFailure k i c d s).slot j).vcore = (s.slot j).vcore
      ∧ ((logFailure k i c d s).slot j).vio = (s.slot j).vio
      ∧ ((logFailure k i c d s).slot j).ramp = (s.slot j).ramp
      ∧ ((logFailure k i c d s).slot j).dwell = (s.slot j).dwell
      ∧ ((logFailure k i c d s).slot j).drain = (s.slot j).drain
      ∧ ((logFailure k i c d s).slot j).drainLimit = (s.slot j).drainLimit
      ∧ ((logFailure k i c d s).slot j).identLimit = (s.slot j).identLimit := by
  simp

@[simp] theorem turnFailed_slotFields (k : Slot) (i : Socket) (c : FailCause) (d : List Byte) (s : State) (j : Slot) :
    ((turnFailed k i c d s).slot j).board = (s.slot j).board
      ∧ ((turnFailed k i c d s).slot j).identity = (s.slot j).identity
      ∧ ((turnFailed k i c d s).slot j).descriptor = (s.slot j).descriptor
      ∧ ((turnFailed k i c d s).slot j).status = (s.slot j).status
      ∧ ((turnFailed k i c d s).slot j).active = (s.slot j).active
      ∧ ((turnFailed k i c d s).slot j).staged = (s.slot j).staged
      ∧ ((turnFailed k i c d s).slot j).railTrip = (s.slot j).railTrip
      ∧ ((turnFailed k i c d s).slot j).socketTrip = (s.slot j).socketTrip
      ∧ ((turnFailed k i c d s).slot j).burstDone = (s.slot j).burstDone
      ∧ ((turnFailed k i c d s).slot j).applyDone = (s.slot j).applyDone
      ∧ ((turnFailed k i c d s).slot j).abandoned = (s.slot j).abandoned
      ∧ ((turnFailed k i c d s).slot j).applyDeferred = (s.slot j).applyDeferred
      ∧ ((turnFailed k i c d s).slot j).vcore = (s.slot j).vcore
      ∧ ((turnFailed k i c d s).slot j).vio = (s.slot j).vio
      ∧ ((turnFailed k i c d s).slot j).ramp = (s.slot j).ramp
      ∧ ((turnFailed k i c d s).slot j).dwell = (s.slot j).dwell
      ∧ ((turnFailed k i c d s).slot j).drain = (s.slot j).drain
      ∧ ((turnFailed k i c d s).slot j).drainLimit = (s.slot j).drainLimit
      ∧ ((turnFailed k i c d s).slot j).identLimit = (s.slot j).identLimit := by
  obtain ⟨_, h⟩ | ⟨_, r, _, ⟨_, h⟩ | ⟨_, h⟩⟩ := turnFailed_cases k i c d s <;> rw [h] <;> simp

@[simp] theorem reportFailure_slotFields (k : Slot) (i : Socket) (c : FailCause) (d : List Byte) (s : State) (j : Slot) :
    ((reportFailure k i c d s).slot j).board = (s.slot j).board
      ∧ ((reportFailure k i c d s).slot j).identity = (s.slot j).identity
      ∧ ((reportFailure k i c d s).slot j).descriptor = (s.slot j).descriptor
      ∧ ((reportFailure k i c d s).slot j).status = (s.slot j).status
      ∧ ((reportFailure k i c d s).slot j).active = (s.slot j).active
      ∧ ((reportFailure k i c d s).slot j).staged = (s.slot j).staged
      ∧ ((reportFailure k i c d s).slot j).railTrip = (s.slot j).railTrip
      ∧ ((reportFailure k i c d s).slot j).socketTrip = (s.slot j).socketTrip
      ∧ ((reportFailure k i c d s).slot j).burstDone = (s.slot j).burstDone
      ∧ ((reportFailure k i c d s).slot j).applyDone = (s.slot j).applyDone
      ∧ ((reportFailure k i c d s).slot j).abandoned = (s.slot j).abandoned
      ∧ ((reportFailure k i c d s).slot j).applyDeferred = (s.slot j).applyDeferred
      ∧ ((reportFailure k i c d s).slot j).vcore = (s.slot j).vcore
      ∧ ((reportFailure k i c d s).slot j).vio = (s.slot j).vio
      ∧ ((reportFailure k i c d s).slot j).ramp = (s.slot j).ramp
      ∧ ((reportFailure k i c d s).slot j).dwell = (s.slot j).dwell
      ∧ ((reportFailure k i c d s).slot j).drain = (s.slot j).drain
      ∧ ((reportFailure k i c d s).slot j).drainLimit = (s.slot j).drainLimit
      ∧ ((reportFailure k i c d s).slot j).identLimit = (s.slot j).identLimit := by
  simp [reportFailure]

theorem logFailure_slotFrame (k : Slot) (i : Socket) (c : FailCause) (d : List Byte) (s : State) :
    SlotFrame k s (logFailure k i c d s) := by
  unfold logFailure
  split
  · exact SlotFrame.refl _ _
  · exact (appendEntry_slotFrame _ _ _ _ _ _).trans (State.setRecord_slotFrame _ _ _ _)

theorem turnFailed_slotFrame (k : Slot) (i : Socket) (c : FailCause) (d : List Byte) (s : State) :
    SlotFrame k s (turnFailed k i c d s) := by
  obtain ⟨_, h⟩ | ⟨_, r, _, ⟨_, h⟩ | ⟨_, h⟩⟩ := turnFailed_cases k i c d s <;> rw [h]
  · exact SlotFrame.refl _ _
  · exact (State.setRecord_slotFrame _ _ _ _).trans (dropNotice_slotFrame _ _ _)
  · exact State.setRecord_slotFrame _ _ _ _

theorem reportFailure_slotFrame (k : Slot) (i : Socket) (c : FailCause) (d : List Byte) (s : State) :
    SlotFrame k s (reportFailure k i c d s) :=
  (State.setRecord_slotFrame _ _ _ _).trans ((logFailure_slotFrame _ _ _ _ _).trans (turnFailed_slotFrame _ _ _ _ _))

/-- R139, steps 1 to 3: the record of the socket a failure report names. -/
theorem reportFailure_record_same (k : Slot) (i : Socket) (c : FailCause) (d : List Byte) (s : State) :
    (reportFailure k i c d s).record k i =
      let r := ((s.record k i).countReport c).markLogged c
      if (s.record k i).verdict = .good then
        { r with verdict := .failed
                 first := some ⟨c, (s.record k i).stress, s.log.epoch, s.clock.runSeconds, d⟩ }
      else r := by
  have hlog : (logFailure k i c d (s.setRecord k i ((s.record k i).countReport c))).record k i
      = ((s.record k i).countReport c).markLogged c := by
    unfold logFailure
    split
    · next h =>
      rw [State.setRecord_record_same] at h
      rw [State.setRecord_record_same]
      cases c <;> simp [AcctRecord.logged, AcctRecord.countReport, AcctRecord.markLogged] at h ⊢
      all_goals
        generalize s.record k i = r at *
        cases r; simp_all
    · simp [appendSocket]
  unfold reportFailure
  obtain ⟨hv, h⟩ | ⟨hv, r, hr, ⟨_, h⟩ | ⟨_, h⟩⟩ :=
    turnFailed_cases k i c d (logFailure k i c d (s.setRecord k i ((s.record k i).countReport c))) <;> rw [h]
  all_goals
    rw [hlog] at hv
    have hv' : (s.record k i).verdict = (((s.record k i).countReport c).markLogged c).verdict := by cases c <;> rfl
    have hs' : (s.record k i).stress = (((s.record k i).countReport c).markLogged c).stress := by cases c <;> rfl
    rw [hv] at hv'
    simp only [hv', hlog]
  · simp
  · simp [hr, hlog, hs']
  · simp [hr, hlog, hs']

/-- A failure report changes no other record. -/
theorem reportFailure_record_ne (k : Slot) (i : Socket) (c : FailCause) (d : List Byte) (s : State) {j : Slot} {n : Socket}
    (h : ¬ (j = k ∧ n = i)) : (reportFailure k i c d s).record j n = s.record j n := by
  have hlog : (logFailure k i c d (s.setRecord k i ((s.record k i).countReport c))).record j n = s.record j n := by
    unfold logFailure
    split <;> simp [appendSocket, State.setRecord_record, h]
  unfold reportFailure
  obtain ⟨_, e⟩ | ⟨_, r, _, ⟨_, e⟩ | ⟨_, e⟩⟩ :=
    turnFailed_cases k i c d (logFailure k i c d (s.setRecord k i ((s.record k i).countReport c))) <;>
    rw [e] <;> simp [State.setRecord_record, h, hlog]

/-- R139, step 4: a failure report switches a socket off only on a DROP notice. -/
theorem reportFailure_socket (k : Slot) (i : Socket) (c : FailCause) (d : List Byte) (s : State) (j : Slot) (n : Socket) :
    (reportFailure k i c d s).socket j n =
      if (s.record k i).verdict = .good ∧ (s.slot k).active.policy = .drop ∧ j = k ∧ n = i
          ∧ ((s.socket k i).power = .on ∨ (s.socket k i).power = .tripWait) then
        ⟨.off, (s.socket k i).strikes, none, none⟩ else s.socket j n := by
  have hv : ((logFailure k i c d (s.setRecord k i ((s.record k i).countReport c))).record k i).verdict
      = (s.record k i).verdict := by
    unfold logFailure
    split <;> cases c <;> simp [appendSocket, AcctRecord.countReport, AcctRecord.markLogged]
  unfold reportFailure
  obtain ⟨h1, e⟩ | ⟨h1, r, _, ⟨h2, e⟩ | ⟨h2, e⟩⟩ :=
    turnFailed_cases k i c d (logFailure k i c d (s.setRecord k i ((s.record k i).countReport c))) <;>
    rw [e] <;> rw [hv] at h1
  · simp [h1]
  · simp only [logFailure_slotFields, State.setRecord_frame] at h2
    simp [dropNotice_socket, h1, h2]
  · simp only [logFailure_slotFields, State.setRecord_frame] at h2
    simp [h1, h2]

/-- R139, step 2: the log after a failure report. -/
theorem reportFailure_logged (k : Slot) (i : Socket) (c : FailCause) (d : List Byte) (s : State) :
    ((s.record k i).logged c = true → (reportFailure k i c d s).log = s.log)
      ∧ ((s.record k i).logged c = false →
          NewestIs (reportFailure k i c d s) (some k) (some i) c.logCause d) := by
  have hl : ((s.record k i).countReport c).logged c = (s.record k i).logged c := by
    cases c <;> simp [AcctRecord.logged, AcctRecord.countReport]
  constructor
  · intro h
    rw [h] at hl
    simp [reportFailure, logFailure, hl]
  · intro h
    rw [h] at hl
    apply newestIs_of_eq (appendEntry_newest (some k) (some i) c.logCause d
      (s.setRecord k i ((s.record k i).countReport c))) <;> simp [reportFailure, logFailure, hl, appendSocket]

/-- A failure report lowers no alert source. -/
theorem reportFailure_raised (k : Slot) (i : Socket) (c : FailCause) (d : List Byte) (s : State) (n : Nat)
    (h : s.alert.raised.getLsbD n = true) : (reportFailure k i c d s).alert.raised.getLsbD n = true := by
  simp only [reportFailure, turnFailed_frame]
  unfold logFailure
  split
  · simpa using h
  · simpa [appendSocket] using appendEntry_raised _ _ _ _ _ _ (by simpa using h)

/-- R149: a failure report keeps the bound of the log. -/
theorem reportFailure_length (k : Slot) (i : Socket) (c : FailCause) (d : List Byte) (s : State) (h : s.log.entries.length ≤ 256) :
    (reportFailure k i c d s).log.entries.length ≤ 256 := by
  simp only [reportFailure, turnFailed_frame]
  unfold logFailure
  split
  · simpa using h
  · simpa [appendSocket] using appendEntry_length _ _ _ _ _ (by simpa using h)

/-- A failure report of a socket that is not ON or waiting leaves the compare unit. -/
theorem reportFailure_quarantine_compare (k : Slot) (i : Socket) (d : List Byte) (s : State)
    (h : (s.socket k i).power = .quarantined) : (reportFailure k i .quarantine d s).compare k = s.compare k := by
  unfold reportFailure
  obtain ⟨_, e⟩ | ⟨_, r, _, ⟨_, e⟩ | ⟨_, e⟩⟩ :=
    turnFailed_cases k i .quarantine d
      (logFailure k i .quarantine d (s.setRecord k i ((s.record k i).countReport .quarantine))) <;>
    rw [e] <;> simp [dropNotice, h]

/-! ## Socket trips -/

/-- R32: only an ON socket is tripped. -/
theorem tripSocket_of_not_on (k : Slot) (i : Socket) (c : LogCause) (d : List Byte) (s : State)
    (h : (s.socket k i).power ≠ .on) : tripSocket k i c d s = s := by
  simp [tripSocket, h]

/-- R33: the trip of an ON socket: the state the entry and the flag leave, and the quarantine it may end in. -/
theorem tripSocket_of_on (k : Slot) (i : Socket) (c : LogCause) (d : List Byte) (s : State)
    (h : (s.socket k i).power = .on) :
    ∃ (q : Bool) (s2 s4 : State), q = decide ((s.socket k i).strikes + 1 = (s.slot k).active.strikeLimit)
      ∧ s2 = setPower k i (if q then .quarantined else .tripWait) (if q then none else some (s.slot k).active.retryDelay)
          (s.setSocket k i { s.socket k i with strikes := (s.socket k i).strikes + 1 })
      ∧ s4 = appendSocket k i c d (s2.setRecord k i { s2.record k i with trips := satInc 65535 (s2.record k i).trips })
      ∧ tripSocket k i c d s =
        if q then reportFailure k i .quarantine (u8 c.code) (s4.setSlot k { s4.slot k with socketTrip := true })
        else s4.setSlot k { s4.slot k with socketTrip := true } := by
  refine ⟨_, _, _, rfl, rfl, rfl, ?_⟩
  simp [tripSocket, h]

@[simp] theorem tripSocket_frame (k : Slot) (i : Socket) (c : LogCause) (d : List Byte) (s : State) :
    (tripSocket k i c d s).part = s.part ∧ (tripSocket k i c d s).lines = s.lines
      ∧ (tripSocket k i c d s).scan = s.scan ∧ (tripSocket k i c d s).store = s.store
      ∧ (tripSocket k i c d s).chan = s.chan ∧ (tripSocket k i c d s).zone = s.zone
      ∧ (tripSocket k i c d s).clock = s.clock ∧ (tripSocket k i c d s).ret = s.ret
      ∧ (tripSocket k i c d s).link = s.link ∧ (tripSocket k i c d s).races = s.races
      ∧ (tripSocket k i c d s).pending = s.pending ∧ (∀ j, (tripSocket k i c d s).scanner j = s.scanner j)
      ∧ (∀ j, (tripSocket k i c d s).channel j = s.channel j)
      ∧ (∀ j, (tripSocket k i c d s).throttle j = s.throttle j)
      ∧ (tripSocket k i c d s).acct.accel = s.acct.accel ∧ (tripSocket k i c d s).acct.wEx = s.acct.wEx
      ∧ (tripSocket k i c d s).acct.wSt = s.acct.wSt
      ∧ (tripSocket k i c d s).acct.interval = s.acct.interval
      ∧ (tripSocket k i c d s).acct.counts = s.acct.counts
      ∧ (tripSocket k i c d s).acct.holdover = s.acct.holdover
      ∧ (tripSocket k i c d s).acct.snapshot = s.acct.snapshot
      ∧ (∀ j, ((tripSocket k i c d s).acct.sets.get j).tag = (s.acct.sets.get j).tag)
      ∧ (tripSocket k i c d s).alert.inService = s.alert.inService
      ∧ (tripSocket k i c d s).alert.mask = s.alert.mask
      ∧ (tripSocket k i c d s).alert.priority = s.alert.priority
      ∧ (tripSocket k i c d s).alert.base = s.alert.base
      ∧ (tripSocket k i c d s).alert.delivery = s.alert.delivery
      ∧ (tripSocket k i c d s).log.epoch = s.log.epoch := by
  by_cases h : (s.socket k i).power = .on
  · obtain ⟨q, s2, s4, hq, h2, h4, h5⟩ := tripSocket_of_on k i c d s h
    rw [h5]
    cases q <;> simp [h4, h2, appendSocket]
  · simp [tripSocket_of_not_on k i c d s h]

@[simp] theorem tripSocket_slotFields (k : Slot) (i : Socket) (c : LogCause) (d : List Byte) (s : State) (j : Slot) :
    ((tripSocket k i c d s).slot j).board = (s.slot j).board
      ∧ ((tripSocket k i c d s).slot j).identity = (s.slot j).identity
      ∧ ((tripSocket k i c d s).slot j).descriptor = (s.slot j).descriptor
      ∧ ((tripSocket k i c d s).slot j).status = (s.slot j).status
      ∧ ((tripSocket k i c d s).slot j).active = (s.slot j).active
      ∧ ((tripSocket k i c d s).slot j).staged = (s.slot j).staged
      ∧ ((tripSocket k i c d s).slot j).railTrip = (s.slot j).railTrip
      ∧ ((tripSocket k i c d s).slot j).burstDone = (s.slot j).burstDone
      ∧ ((tripSocket k i c d s).slot j).applyDone = (s.slot j).applyDone
      ∧ ((tripSocket k i c d s).slot j).abandoned = (s.slot j).abandoned
      ∧ ((tripSocket k i c d s).slot j).applyDeferred = (s.slot j).applyDeferred
      ∧ ((tripSocket k i c d s).slot j).vcore = (s.slot j).vcore
      ∧ ((tripSocket k i c d s).slot j).vio = (s.slot j).vio
      ∧ ((tripSocket k i c d s).slot j).ramp = (s.slot j).ramp
      ∧ ((tripSocket k i c d s).slot j).dwell = (s.slot j).dwell
      ∧ ((tripSocket k i c d s).slot j).drain = (s.slot j).drain
      ∧ ((tripSocket k i c d s).slot j).drainLimit = (s.slot j).drainLimit
      ∧ ((tripSocket k i c d s).slot j).identLimit = (s.slot j).identLimit := by
  by_cases h : (s.socket k i).power = .on
  · obtain ⟨q, s2, s4, hq, h2, h4, h5⟩ := tripSocket_of_on k i c d s h
    rw [h5]
    by_cases hj : j = k
    · subst hj
      cases q <;> simp [h4, h2, appendSocket]
    · cases q <;> simp [h4, h2, appendSocket, State.setSlot_slot_ne _ _ hj]
  · simp [tripSocket_of_not_on k i c d s h]

theorem tripSocket_slotFrame (k : Slot) (i : Socket) (c : LogCause) (d : List Byte) (s : State) :
    SlotFrame k s (tripSocket k i c d s) := by
  by_cases h : (s.socket k i).power = .on
  · obtain ⟨q, s2, s4, hq, h2, h4, h5⟩ := tripSocket_of_on k i c d s h
    have f2 : SlotFrame k s s2 := by
      rw [h2]
      exact (State.setSocket_slotFrame _ _ _ _).trans (setPower_slotFrame _ _ _ _ _)
    have f4 : SlotFrame k s s4 := by
      rw [h4]
      exact f2.trans ((State.setRecord_slotFrame _ _ _ _).trans (appendEntry_slotFrame _ _ _ _ _ _))
    have f5 : SlotFrame k s (s4.setSlot k { s4.slot k with socketTrip := true }) :=
      f4.trans (State.setSlot_slotFrame _ _ _)
    rw [h5]
    cases q
    · exact f5
    · exact f5.trans (reportFailure_slotFrame _ _ _ _ _)
  · rw [tripSocket_of_not_on k i c d s h]
    exact SlotFrame.refl _ _

/-- R33: a trip of an ON socket changes that socket alone. -/
theorem tripSocket_others (k : Slot) (i : Socket) (c : LogCause) (d : List Byte) (s : State) {j : Slot} {n : Socket}
    (hn : ¬ (j = k ∧ n = i)) :
    (tripSocket k i c d s).socket j n = s.socket j n ∧ (tripSocket k i c d s).record j n = s.record j n := by
  by_cases h : (s.socket k i).power = .on
  · obtain ⟨q, s2, s4, hq, h2, h4, h5⟩ := tripSocket_of_on k i c d s h
    have e4 : s4.socket j n = s.socket j n ∧ s4.record j n = s.record j n := by
      rw [h4, h2]
      simp [appendSocket, setPower_socket, State.setSocket_socket, State.setRecord_record, hn]
    have e5 : (s4.setSlot k { s4.slot k with socketTrip := true }).socket j n = s4.socket j n := by
      rw [State.setSlot_socket]
      split
      · next e => subst e; rfl
      · rfl
    rw [h5]
    cases q
    · simp only [Bool.false_eq_true, if_false, e5]
      exact ⟨e4.1, e4.2⟩
    · simp only [if_true]
      rw [reportFailure_record_ne _ _ _ _ _ hn, reportFailure_socket, if_neg, e5]
      · exact ⟨e4.1, e4.2⟩
      · exact fun e => hn ⟨e.2.2.1, e.2.2.2.1⟩
  · rw [tripSocket_of_not_on k i c d s h]
    exact ⟨rfl, rfl⟩

/-- R33, R91: what a trip of an ON socket leaves. -/
theorem tripSocket_spec (k : Slot) (i : Socket) (c : LogCause) (d : List Byte) (s : State)
    (h : (s.socket k i).power = .on) : SocketTripped k i s (tripSocket k i c d s) ∧ TripLogged k i c d s (tripSocket k i c d s) := by
  obtain ⟨q, s2, s4, hq, h2, h4, h5⟩ := tripSocket_of_on k i c d s h
  have p2 : s2.socket k i = ⟨if q then .quarantined else .tripWait, (s.socket k i).strikes + 1, none,
      if q then none else some (s.slot k).active.retryDelay⟩ := by
    rw [h2]
    cases q <;> simp
  have c2 : (s2.compare k).member.get i = false ∧ (s2.compare k).mismatch.get i = 0 := by
    rw [h2]
    cases q <;> simp [setPower_compare]
  have r2 : s2.record k i = s.record k i := by rw [h2]; simp
  have r4 : s4.record k i = { s.record k i with trips := satInc 65535 (s.record k i).trips } := by
    rw [h4]; simp [appendSocket, r2]
  have p4 : s4.socket k i = s2.socket k i := by rw [h4]; simp [appendSocket]
  have c4 : s4.compare k = s2.compare k := by rw [h4]; simp [appendSocket]
  have a4 : s4.alert.raised.getLsbD (2 + k.code) = true := by rw [h4]; exact appendEntry_raises _ _ _ _ _
  generalize h6 : s4.setSlot k { s4.slot k with socketTrip := true } = s5 at h5
  have p5 : s5.socket k i = s2.socket k i := by
    rw [← h6, State.setSlot_socket_same, ← p4]; rfl
  have r5 : s5.record k i = s4.record k i := by rw [← h6]; simp
  have c5 : s5.compare k = s2.compare k := by rw [← h6]; simp [c4]
  have t5 : (s5.slot k).socketTrip = true := by rw [← h6]; simp
  have a5 : s5.alert.raised.getLsbD (2 + k.code) = true := by rw [← h6]; exact a4
  have n5 : NewestIs s5 (some k) (some i) c d := by
    rw [← h6]
    refine newestIs_of_eq (s := s4) ?_ rfl rfl rfl
    rw [h4]
    exact appendEntry_newest _ _ _ _ _
  unfold SocketTripped TripLogged
  cases q
  · have hq' : ¬ (s.socket k i).strikes + 1 = (s.slot k).active.strikeLimit := by simpa using hq
    simp only [Bool.false_eq_true, if_false] at h5
    simp only [if_neg hq', h5]
    refine ⟨⟨?_, ?_, ?_, ?_, t5, a5⟩, n5⟩
    · rw [p5, p2]; simp
    · rw [r5, r4]
    · rw [c5]; exact c2.1
    · rw [c5]; exact c2.2
  · have hq' : (s.socket k i).strikes + 1 = (s.slot k).active.strikeLimit := by simpa using hq
    simp only [if_true] at h5
    simp only [if_pos hq', h5]
    have hs : (reportFailure k i .quarantine (u8 c.code) s5).socket k i = s5.socket k i := by
      rw [reportFailure_socket, if_neg]
      rw [p5, p2]; simp
    refine ⟨⟨⟨?_, ?_, ?_⟩, ?_, ?_, ?_, ?_, reportFailure_raised _ _ _ _ _ _ a5⟩, ?_⟩
    · rw [hs, p5, p2]; simp
    · rw [reportFailure_record_same, r5, r4]
      cases hv : (s.record k i).verdict <;> simp [hv, AcctRecord.countReport, AcctRecord.markLogged]
    · rw [reportFailure_record_same]
      dsimp only
      split <;> simp [AcctRecord.countReport, AcctRecord.markLogged]
    · rw [reportFailure_record_same, r5, r4]
      dsimp only
      split <;> simp [AcctRecord.countReport, AcctRecord.markLogged]
    · rw [reportFailure_quarantine_compare _ _ _ _ (by rw [p5, p2]; simp), c5]; exact c2.1
    · rw [reportFailure_quarantine_compare _ _ _ _ (by rw [p5, p2]; simp), c5]; exact c2.2
    · simpa using t5
    · intro hl
      refine (reportFailure_logged k i .quarantine _ s5).2 ?_
      rw [r5, r4]; exact hl

/-- R31, R32: what switching a socket on can do. -/
theorem switchOn_cases (k : Slot) (i : Socket) (s : State) :
    (¬ ((s.socket k i).power = .off ∧ s.eligible k i = true) ∧ switchOn k i s = s)
      ∨ (((s.socket k i).power = .off ∧ s.eligible k i = true)
        ∧ (((s.lines.switchFault.get k).get i = false ∧ switchOn k i s = setPower k i .on none s)
          ∨ ((s.lines.switchFault.get k).get i = true
            ∧ switchOn k i s = tripSocket k i .switchFault [] (setPower k i .on none s)))) := by
  unfold switchOn
  by_cases h : (s.socket k i).power = .off ∧ s.eligible k i = true
  · refine Or.inr ⟨h, ?_⟩
    cases (s.lines.switchFault.get k).get i <;> simp [h]
  · exact Or.inl ⟨h, if_neg h⟩

@[simp] theorem switchOn_frame (k : Slot) (i : Socket) (s : State) :
    (switchOn k i s).part = s.part ∧ (switchOn k i s).lines = s.lines ∧ (switchOn k i s).scan = s.scan
      ∧ (switchOn k i s).store = s.store ∧ (switchOn k i s).chan = s.chan ∧ (switchOn k i s).zone = s.zone
      ∧ (switchOn k i s).clock = s.clock ∧ (switchOn k i s).ret = s.ret ∧ (switchOn k i s).link = s.link
      ∧ (switchOn k i s).races = s.races ∧ (switchOn k i s).pending = s.pending
      ∧ (∀ j, (switchOn k i s).scanner j = s.scanner j) ∧ (∀ j, (switchOn k i s).channel j = s.channel j)
      ∧ (∀ j, (switchOn k i s).throttle j = s.throttle j) ∧ (switchOn k i s).acct.accel = s.acct.accel
      ∧ (switchOn k i s).acct.wEx = s.acct.wEx ∧ (switchOn k i s).acct.wSt = s.acct.wSt
      ∧ (switchOn k i s).acct.interval = s.acct.interval ∧ (switchOn k i s).acct.counts = s.acct.counts
      ∧ (switchOn k i s).acct.holdover = s.acct.holdover ∧ (switchOn k i s).acct.snapshot = s.acct.snapshot
      ∧ (∀ j, ((switchOn k i s).acct.sets.get j).tag = (s.acct.sets.get j).tag)
      ∧ (switchOn k i s).alert.inService = s.alert.inService ∧ (switchOn k i s).alert.mask = s.alert.mask
      ∧ (switchOn k i s).alert.priority = s.alert.priority ∧ (switchOn k i s).alert.base = s.alert.base
      ∧ (switchOn k i s).alert.delivery = s.alert.delivery ∧ (switchOn k i s).log.epoch = s.log.epoch := by
  obtain ⟨_, e⟩ | ⟨_, ⟨_, e⟩ | ⟨_, e⟩⟩ := switchOn_cases k i s <;> rw [e] <;> simp

@[simp] theorem switchOn_slotFields (k : Slot) (i : Socket) (s : State) (j : Slot) :
    ((switchOn k i s).slot j).board = (s.slot j).board
      ∧ ((switchOn k i s).slot j).identity = (s.slot j).identity
      ∧ ((switchOn k i s).slot j).descriptor = (s.slot j).descriptor
      ∧ ((switchOn k i s).slot j).status = (s.slot j).status
      ∧ ((switchOn k i s).slot j).active = (s.slot j).active
      ∧ ((switchOn k i s).slot j).staged = (s.slot j).staged
      ∧ ((switchOn k i s).slot j).railTrip = (s.slot j).railTrip
      ∧ ((switchOn k i s).slot j).burstDone = (s.slot j).burstDone
      ∧ ((switchOn k i s).slot j).applyDone = (s.slot j).applyDone
      ∧ ((switchOn k i s).slot j).abandoned = (s.slot j).abandoned
      ∧ ((switchOn k i s).slot j).applyDeferred = (s.slot j).applyDeferred
      ∧ ((switchOn k i s).slot j).vcore = (s.slot j).vcore ∧ ((switchOn k i s).slot j).vio = (s.slot j).vio
      ∧ ((switchOn k i s).slot j).ramp = (s.slot j).ramp
      ∧ ((switchOn k i s).slot j).dwell = (s.slot j).dwell
      ∧ ((switchOn k i s).slot j).drain = (s.slot j).drain
      ∧ ((switchOn k i s).slot j).drainLimit = (s.slot j).drainLimit
      ∧ ((switchOn k i s).slot j).identLimit = (s.slot j).identLimit := by
  obtain ⟨_, e⟩ | ⟨_, ⟨_, e⟩ | ⟨_, e⟩⟩ := switchOn_cases k i s <;> rw [e] <;> simp

theorem switchOn_slotFrame (k : Slot) (i : Socket) (s : State) : SlotFrame k s (switchOn k i s) := by
  obtain ⟨_, e⟩ | ⟨_, ⟨_, e⟩ | ⟨_, e⟩⟩ := switchOn_cases k i s <;> rw [e]
  · exact SlotFrame.refl _ _
  · exact setPower_slotFrame _ _ _ _ _
  · exact (setPower_slotFrame _ _ _ _ _).trans (tripSocket_slotFrame _ _ _ _ _)

/-- Switching a socket on changes that socket alone. -/
theorem switchOn_others (k : Slot) (i : Socket) (s : State) {j : Slot} {n : Socket} (hn : ¬ (j = k ∧ n = i)) :
    (switchOn k i s).socket j n = s.socket j n ∧ (switchOn k i s).record j n = s.record j n := by
  obtain ⟨_, e⟩ | ⟨_, ⟨_, e⟩ | ⟨_, e⟩⟩ := switchOn_cases k i s <;> rw [e]
  · exact ⟨rfl, rfl⟩
  · simp [setPower_socket, hn]
  · obtain ⟨h1, h2⟩ := tripSocket_others k i .switchFault [] (setPower k i .on none s) hn
    rw [h1, h2]
    simp [setPower_socket, hn]

/-- A trip depends on the state before it only through the socket's strikes and record and the settings. -/
theorem socketTripped_congr {k : Slot} {i : Socket} {s u t : State}
    (h : SocketTripped k i s t) (h1 : (u.socket k i).strikes = (s.socket k i).strikes)
    (h2 : (u.slot k).active = (s.slot k).active) (h3 : u.record k i = s.record k i) : SocketTripped k i u t := by
  unfold SocketTripped at h ⊢
  rw [h1, h2, h3]
  exact h

/-- R31, R32: an OFF and eligible socket goes ON, or is tripped where its switch-fault input is active. -/
theorem switchOn_chosen (k : Slot) (i : Socket) (s : State) (h : (s.socket k i).power = .off ∧ s.eligible k i = true) :
    ((s.lines.switchFault.get k).get i = false → (switchOn k i s).socket k i
        = ⟨.on, (s.socket k i).strikes, (s.socket k i).overCode, none⟩)
      ∧ ((s.lines.switchFault.get k).get i = true → SocketTripped k i s (switchOn k i s)) := by
  obtain ⟨h', _⟩ | ⟨_, ⟨hf, e⟩ | ⟨hf, e⟩⟩ := switchOn_cases k i s
  · exact absurd h h'
  · rw [hf]
    simp [e]
  · rw [hf]
    simp only [reduceCtorEq, false_imp_iff, true_imp_iff, true_and, e]
    refine socketTripped_congr (tripSocket_spec k i .switchFault [] _ (by simp)).1 ?_ ?_ ?_ <;> simp

/-- A socket that is not OFF or not eligible stays as it is. -/
theorem switchOn_of_not (k : Slot) (i : Socket) (s : State) (h : ¬ ((s.socket k i).power = .off ∧ s.eligible k i = true)) : switchOn k i s = s := by
  simp only [switchOn, if_neg h]

/-- R30: eligibility depends on the socket's own power state and verdict, the descriptor and the policy. -/
theorem eligible_congr {k : Slot} {i : Socket} {s t : State} (h1 : (t.socket k i).power = (s.socket k i).power)
    (h2 : (t.slot k).descriptor = (s.slot k).descriptor) (h3 : (t.slot k).active.policy = (s.slot k).active.policy)
    (h4 : (t.record k i).verdict = (s.record k i).verdict) : t.eligible k i = s.eligible k i := by
  unfold State.eligible
  simp only [State.get_sockets, h1, h2, h3, h4]
  rfl

/-- What a loop does to one socket: nothing where it is not listed; else what its own turn does, from a state that
shows the socket as before, and with nothing undone that every turn keeps. -/
theorem forSockets_at {α : Type} (view : Socket → State → α) (inv : State → Prop) (f : Socket → State → State)
    (hview : ∀ i n s, n ≠ i → view n (f i s) = view n s) (hinv : ∀ i s, inv s → inv (f i s))
    (l : List Socket) (hl : l.Nodup) (s : State) (hs : inv s) (n : Socket) :
    (n ∉ l → view n (forSockets l f s) = view n s)
      ∧ (n ∈ l → ∃ u, inv u ∧ view n u = view n s ∧ view n (forSockets l f s) = view n (f n u)
          ∧ ∀ P : State → Prop, (∀ i s, P s → P (f i s)) → P (f n u) → P (forSockets l f s)) := by
  induction l generalizing s with
  | nil => simp
  | cons i l ih =>
    obtain ⟨hi, hl'⟩ := List.nodup_cons.mp hl
    obtain ⟨h1, h2⟩ := ih hl' (f i s) (hinv i s hs)
    rw [forSockets_cons]
    constructor
    · intro hn
      have hne : n ≠ i := fun e => hn (by simp [e])
      rw [h1 (fun e => hn (by simp [e])), hview i n s hne]
    · intro hn
      rcases List.mem_cons.mp hn with e | e
      · subst e
        exact ⟨s, hs, rfl, h1 hi, fun P hP h => forSockets_invariant P f hP l _ h⟩
      · obtain ⟨u, hu, hv, hr, hP⟩ := h2 e
        have hne : n ≠ i := fun e' => hi (e' ▸ e)
        exact ⟨u, hu, by rw [hv, hview i n s hne], hr, hP⟩

theorem tripEither_cases (k : Slot) (i : Socket) (a b : Option (LogCause × List Byte)) (s : State) :
    (a = none ∧ b = none ∧ tripEither k i a b s = s)
      ∨ (∃ c d n, (a = some (c, d) ∨ b = some (c, d)) ∧ (a = none ∨ b = none → n = s.races)
        ∧ tripEither k i a b s = tripSocket k i c d { s with races := n }) := by
  match a, b with
  | none, none => exact Or.inl ⟨rfl, rfl, rfl⟩
  | some (c, d), none => exact Or.inr ⟨c, d, s.races, Or.inl rfl, fun _ => rfl, rfl⟩
  | none, some (c, d) => exact Or.inr ⟨c, d, s.races, Or.inr rfl, fun _ => rfl, rfl⟩
  | some (c, d), some (c', d') =>
    right
    cases h : Config.raceFirst s.races
    · exact ⟨c, d, s.races + 1, Or.inl rfl, by simp, by simp [tripEither, h]⟩
    · exact ⟨c', d', s.races + 1, Or.inr rfl, by simp, by simp [tripEither, h]⟩

@[simp] theorem tripEither_frame (k : Slot) (i : Socket) (a b : Option (LogCause × List Byte)) (s : State) :
    (tripEither k i a b s).part = s.part ∧ (tripEither k i a b s).lines = s.lines
      ∧ (tripEither k i a b s).scan = s.scan ∧ (tripEither k i a b s).store = s.store
      ∧ (tripEither k i a b s).chan = s.chan ∧ (tripEither k i a b s).zone = s.zone
      ∧ (tripEither k i a b s).clock = s.clock ∧ (tripEither k i a b s).ret = s.ret
      ∧ (tripEither k i a b s).link = s.link ∧ (tripEither k i a b s).pending = s.pending
      ∧ (∀ j, (tripEither k i a b s).scanner j = s.scanner j)
      ∧ (∀ j, (tripEither k i a b s).channel j = s.channel j)
      ∧ (∀ j, (tripEither k i a b s).throttle j = s.throttle j)
      ∧ (tripEither k i a b s).acct.accel = s.acct.accel ∧ (tripEither k i a b s).acct.wEx = s.acct.wEx
      ∧ (tripEither k i a b s).acct.wSt = s.acct.wSt
      ∧ (tripEither k i a b s).acct.interval = s.acct.interval
      ∧ (tripEither k i a b s).acct.counts = s.acct.counts
      ∧ (tripEither k i a b s).acct.holdover = s.acct.holdover
      ∧ (tripEither k i a b s).acct.snapshot = s.acct.snapshot
      ∧ (∀ j, ((tripEither k i a b s).acct.sets.get j).tag = (s.acct.sets.get j).tag)
      ∧ (tripEither k i a b s).alert.inService = s.alert.inService
      ∧ (tripEither k i a b s).alert.mask = s.alert.mask
      ∧ (tripEither k i a b s).alert.priority = s.alert.priority
      ∧ (tripEither k i a b s).alert.base = s.alert.base
      ∧ (tripEither k i a b s).alert.delivery = s.alert.delivery
      ∧ (tripEither k i a b s).log.epoch = s.log.epoch := by
  obtain ⟨_, _, e⟩ | ⟨c, d, n, _, _, e⟩ := tripEither_cases k i a b s <;> rw [e] <;> simp

@[simp] theorem tripEither_slotFields (k : Slot) (i : Socket) (a b : Option (LogCause × List Byte)) (s : State) (j : Slot) :
    ((tripEither k i a b s).slot j).board = (s.slot j).board
      ∧ ((tripEither k i a b s).slot j).identity = (s.slot j).identity
      ∧ ((tripEither k i a b s).slot j).descriptor = (s.slot j).descriptor
      ∧ ((tripEither k i a b s).slot j).status = (s.slot j).status
      ∧ ((tripEither k i a b s).slot j).active = (s.slot j).active
      ∧ ((tripEither k i a b s).slot j).staged = (s.slot j).staged
      ∧ ((tripEither k i a b s).slot j).railTrip = (s.slot j).railTrip
      ∧ ((tripEither k i a b s).slot j).burstDone = (s.slot j).burstDone
      ∧ ((tripEither k i a b s).slot j).applyDone = (s.slot j).applyDone
      ∧ ((tripEither k i a b s).slot j).abandoned = (s.slot j).abandoned
      ∧ ((tripEither k i a b s).slot j).applyDeferred = (s.slot j).applyDeferred
      ∧ ((tripEither k i a b s).slot j).vcore = (s.slot j).vcore
      ∧ ((tripEither k i a b s).slot j).vio = (s.slot j).vio
      ∧ ((tripEither k i a b s).slot j).ramp = (s.slot j).ramp
      ∧ ((tripEither k i a b s).slot j).dwell = (s.slot j).dwell
      ∧ ((tripEither k i a b s).slot j).drain = (s.slot j).drain
      ∧ ((tripEither k i a b s).slot j).drainLimit = (s.slot j).drainLimit
      ∧ ((tripEither k i a b s).slot j).identLimit = (s.slot j).identLimit := by
  obtain ⟨_, _, e⟩ | ⟨c, d, n, _, _, e⟩ := tripEither_cases k i a b s <;> rw [e] <;> simp

theorem races_slotFrame (k : Slot) (n : Nat) (s : State) : SlotFrame k s { s with races := n } :=
  ⟨rfl, rfl, rfl, rfl, rfl, rfl, rfl, rfl, rfl, rfl, fun _ _ => ⟨rfl, rfl, rfl, rfl, rfl, rfl⟩⟩

theorem tripEither_slotFrame (k : Slot) (i : Socket) (a b : Option (LogCause × List Byte)) (s : State) :
    SlotFrame k s (tripEither k i a b s) := by
  obtain ⟨_, _, e⟩ | ⟨c, d, n, _, _, e⟩ := tripEither_cases k i a b s <;> rw [e]
  · exact SlotFrame.refl _ _
  · exact (races_slotFrame _ _ _).trans (tripSocket_slotFrame _ _ _ _ _)

/-! ## Applies -/

/-- R41: what a lowered strike limit does to one socket. -/
theorem lowerLimit_cases (k : Slot) (l : Nat) (i : Socket) (s : State) :
    (¬ ((s.socket k i).power = .quarantined ∨ l ≤ (s.socket k i).strikes) ∧ lowerLimit k l i s = s)
      ∨ (((s.socket k i).power = .quarantined ∨ l ≤ (s.socket k i).strikes)
        ∧ ∃ s1, s1 = s.setSocket k i { s.socket k i with strikes := l }
        ∧ (((s.socket k i).power = .quarantined ∧ lowerLimit k l i s = s1)
          ∨ ((s.socket k i).power ≠ .quarantined ∧ lowerLimit k l i s
            = reportFailure k i .quarantine (u8 limitLoweredCode) (setPower k i .quarantined none s1)))) := by
  unfold lowerLimit
  by_cases hq : (s.socket k i).power = .quarantined
  · exact Or.inr ⟨Or.inl hq, _, rfl, Or.inl ⟨hq, by simp [hq]⟩⟩
  · by_cases h : l ≤ (s.socket k i).strikes
    · exact Or.inr ⟨Or.inr h, _, rfl, Or.inr ⟨hq, by simp [hq, h]⟩⟩
    · exact Or.inl ⟨by simp [hq, h], by simp [hq, h]⟩

theorem dropFailed_cases (k : Slot) (i : Socket) (s : State) : dropFailed k i s = s ∨ dropFailed k i s = dropNotice k i s := by
  unfold dropFailed
  split
  · exact Or.inr rfl
  · exact Or.inl rfl

@[simp] theorem lowerLimit_frame (k : Slot) (l : Nat) (i : Socket) (s : State) :
    (lowerLimit k l i s).part = s.part ∧ (lowerLimit k l i s).lines = s.lines
      ∧ (lowerLimit k l i s).scan = s.scan ∧ (lowerLimit k l i s).store = s.store
      ∧ (lowerLimit k l i s).chan = s.chan ∧ (lowerLimit k l i s).zone = s.zone
      ∧ (lowerLimit k l i s).clock = s.clock ∧ (lowerLimit k l i s).ret = s.ret
      ∧ (lowerLimit k l i s).link = s.link ∧ (lowerLimit k l i s).races = s.races
      ∧ (lowerLimit k l i s).pending = s.pending ∧ (∀ j, (lowerLimit k l i s).scanner j = s.scanner j)
      ∧ (∀ j, (lowerLimit k l i s).channel j = s.channel j)
      ∧ (∀ j, (lowerLimit k l i s).throttle j = s.throttle j)
      ∧ (lowerLimit k l i s).acct.accel = s.acct.accel ∧ (lowerLimit k l i s).acct.wEx = s.acct.wEx
      ∧ (lowerLimit k l i s).acct.wSt = s.acct.wSt ∧ (lowerLimit k l i s).acct.interval = s.acct.interval
      ∧ (lowerLimit k l i s).acct.counts = s.acct.counts
      ∧ (lowerLimit k l i s).acct.holdover = s.acct.holdover
      ∧ (lowerLimit k l i s).acct.snapshot = s.acct.snapshot
      ∧ (∀ j, ((lowerLimit k l i s).acct.sets.get j).tag = (s.acct.sets.get j).tag)
      ∧ (lowerLimit k l i s).alert.inService = s.alert.inService
      ∧ (lowerLimit k l i s).alert.mask = s.alert.mask
      ∧ (lowerLimit k l i s).alert.priority = s.alert.priority
      ∧ (lowerLimit k l i s).alert.base = s.alert.base
      ∧ (lowerLimit k l i s).alert.delivery = s.alert.delivery
      ∧ (lowerLimit k l i s).log.epoch = s.log.epoch := by
  obtain ⟨_, e⟩ | ⟨_, s1, h1, ⟨_, e⟩ | ⟨_, e⟩⟩ := lowerLimit_cases k l i s <;> rw [e] <;> simp [*]

@[simp] theorem lowerLimit_slotFields (k : Slot) (l : Nat) (i : Socket) (s : State) (j : Slot) :
    ((lowerLimit k l i s).slot j).board = (s.slot j).board
      ∧ ((lowerLimit k l i s).slot j).identity = (s.slot j).identity
      ∧ ((lowerLimit k l i s).slot j).descriptor = (s.slot j).descriptor
      ∧ ((lowerLimit k l i s).slot j).status = (s.slot j).status
      ∧ ((lowerLimit k l i s).slot j).active = (s.slot j).active
      ∧ ((lowerLimit k l i s).slot j).staged = (s.slot j).staged
      ∧ ((lowerLimit k l i s).slot j).railTrip = (s.slot j).railTrip
      ∧ ((lowerLimit k l i s).slot j).socketTrip = (s.slot j).socketTrip
      ∧ ((lowerLimit k l i s).slot j).burstDone = (s.slot j).burstDone
      ∧ ((lowerLimit k l i s).slot j).applyDone = (s.slot j).applyDone
      ∧ ((lowerLimit k l i s).slot j).abandoned = (s.slot j).abandoned
      ∧ ((lowerLimit k l i s).slot j).applyDeferred = (s.slot j).applyDeferred
      ∧ ((lowerLimit k l i s).slot j).vcore = (s.slot j).vcore
      ∧ ((lowerLimit k l i s).slot j).vio = (s.slot j).vio
      ∧ ((lowerLimit k l i s).slot j).ramp = (s.slot j).ramp
      ∧ ((lowerLimit k l i s).slot j).dwell = (s.slot j).dwell
      ∧ ((lowerLimit k l i s).slot j).drain = (s.slot j).drain
      ∧ ((lowerLimit k l i s).slot j).drainLimit = (s.slot j).drainLimit
      ∧ ((lowerLimit k l i s).slot j).identLimit = (s.slot j).identLimit := by
  obtain ⟨_, e⟩ | ⟨_, s1, h1, ⟨_, e⟩ | ⟨_, e⟩⟩ := lowerLimit_cases k l i s <;> rw [e] <;> simp [*]

@[simp] theorem dropFailed_frame (k : Slot) (i : Socket) (s : State) :
    (dropFailed k i s).part = s.part ∧ (dropFailed k i s).lines = s.lines ∧ (dropFailed k i s).scan = s.scan
      ∧ (dropFailed k i s).store = s.store ∧ (dropFailed k i s).chan = s.chan
      ∧ (dropFailed k i s).zone = s.zone ∧ (dropFailed k i s).acct = s.acct ∧ (dropFailed k i s).log = s.log
      ∧ (dropFailed k i s).alert = s.alert ∧ (dropFailed k i s).clock = s.clock
      ∧ (dropFailed k i s).ret = s.ret ∧ (dropFailed k i s).link = s.link
      ∧ (dropFailed k i s).races = s.races ∧ (dropFailed k i s).pending = s.pending
      ∧ (∀ j, (dropFailed k i s).scanner j = s.scanner j)
      ∧ (∀ j, (dropFailed k i s).channel j = s.channel j)
      ∧ (∀ j, (dropFailed k i s).throttle j = s.throttle j)
      ∧ (∀ j n, (dropFailed k i s).record j n = s.record j n) := by
  obtain e | e := dropFailed_cases k i s <;> rw [e] <;> simp

@[simp] theorem dropFailed_slotFields (k : Slot) (i : Socket) (s : State) (j : Slot) :
    ((dropFailed k i s).slot j).board = (s.slot j).board
      ∧ ((dropFailed k i s).slot j).identity = (s.slot j).identity
      ∧ ((dropFailed k i s).slot j).descriptor = (s.slot j).descriptor
      ∧ ((dropFailed k i s).slot j).status = (s.slot j).status
      ∧ ((dropFailed k i s).slot j).active = (s.slot j).active
      ∧ ((dropFailed k i s).slot j).staged = (s.slot j).staged
      ∧ ((dropFailed k i s).slot j).railTrip = (s.slot j).railTrip
      ∧ ((dropFailed k i s).slot j).socketTrip = (s.slot j).socketTrip
      ∧ ((dropFailed k i s).slot j).burstDone = (s.slot j).burstDone
      ∧ ((dropFailed k i s).slot j).applyDone = (s.slot j).applyDone
      ∧ ((dropFailed k i s).slot j).abandoned = (s.slot j).abandoned
      ∧ ((dropFailed k i s).slot j).applyDeferred = (s.slot j).applyDeferred
      ∧ ((dropFailed k i s).slot j).vcore = (s.slot j).vcore
      ∧ ((dropFailed k i s).slot j).vio = (s.slot j).vio
      ∧ ((dropFailed k i s).slot j).ramp = (s.slot j).ramp
      ∧ ((dropFailed k i s).slot j).dwell = (s.slot j).dwell
      ∧ ((dropFailed k i s).slot j).drain = (s.slot j).drain
      ∧ ((dropFailed k i s).slot j).drainLimit = (s.slot j).drainLimit
      ∧ ((dropFailed k i s).slot j).identLimit = (s.slot j).identLimit := by
  obtain e | e := dropFailed_cases k i s <;> rw [e] <;> simp

@[simp] theorem copyStaged_frame (k : Slot) (s : State) :
    (copyStaged k s).part = s.part ∧ (copyStaged k s).lines = s.lines ∧ (copyStaged k s).scan = s.scan
      ∧ (copyStaged k s).store = s.store ∧ (copyStaged k s).chan = s.chan ∧ (copyStaged k s).cmp = s.cmp
      ∧ (copyStaged k s).zone = s.zone ∧ (copyStaged k s).acct = s.acct ∧ (copyStaged k s).log = s.log
      ∧ (copyStaged k s).alert = s.alert ∧ (copyStaged k s).clock = s.clock ∧ (copyStaged k s).ret = s.ret
      ∧ (copyStaged k s).link = s.link ∧ (copyStaged k s).races = s.races
      ∧ (copyStaged k s).pending = s.pending ∧ (∀ j, (copyStaged k s).scanner j = s.scanner j)
      ∧ (∀ j, (copyStaged k s).channel j = s.channel j) ∧ (∀ j, (copyStaged k s).compare j = s.compare j)
      ∧ (∀ j, (copyStaged k s).throttle j = s.throttle j)
      ∧ (∀ j n, (copyStaged k s).record j n = s.record j n) := by
  simp [copyStaged]

@[simp] theorem copyStaged_slot_same (k : Slot) (s : State) : (copyStaged k s).slot k =
    { s.slot k with
        active := (s.slot k).staged, applyDeferred := false, applyDone := true
        vcore := (s.slot k).vcore.retarget (s.slot k).board.checked (s.slot k).active.vcore (s.slot k).staged.vcore
        vio := (s.slot k).vio.retarget (s.slot k).board.checked (s.slot k).active.vio (s.slot k).staged.vio } := by
  simp [copyStaged]

theorem copyStaged_slotFrame (k : Slot) (s : State) : SlotFrame k s (copyStaged k s) :=
  State.setSlot_slotFrame _ _ _

theorem dropFailed_slotFrame (k : Slot) (i : Socket) (s : State) : SlotFrame k s (dropFailed k i s) := by
  obtain e | e := dropFailed_cases k i s <;> rw [e]
  · exact SlotFrame.refl _ _
  · exact dropNotice_slotFrame _ _ _

theorem lowerLimit_slotFrame (k : Slot) (l : Nat) (i : Socket) (s : State) : SlotFrame k s (lowerLimit k l i s) := by
  obtain ⟨_, e⟩ | ⟨_, s1, h1, ⟨_, e⟩ | ⟨_, e⟩⟩ := lowerLimit_cases k l i s <;> rw [e]
  · exact SlotFrame.refl _ _
  · rw [h1]; exact State.setSocket_slotFrame _ _ _ _
  · rw [h1]
    exact (State.setSocket_slotFrame _ _ _ _).trans
      ((setPower_slotFrame _ _ _ _ _).trans (reportFailure_slotFrame _ _ _ _ _))

/-- What a loop of switch-ons or of limit changes leaves. -/
theorem forSockets_frame (f : Socket → State → State) (l : List Socket) (s : State)
    (h : ∀ i u, (f i u).part = u.part ∧ (f i u).lines = u.lines ∧ (f i u).scan = u.scan ∧ (f i u).store = u.store
      ∧ (f i u).chan = u.chan ∧ (f i u).zone = u.zone ∧ (f i u).clock = u.clock ∧ (f i u).ret = u.ret
      ∧ (f i u).link = u.link ∧ (f i u).races = u.races ∧ (f i u).pending = u.pending
      ∧ (∀ j, (f i u).scanner j = u.scanner j) ∧ (∀ j, (f i u).channel j = u.channel j)
      ∧ (∀ j, (f i u).throttle j = u.throttle j) ∧ (f i u).acct.accel = u.acct.accel
      ∧ (f i u).acct.wEx = u.acct.wEx ∧ (f i u).acct.wSt = u.acct.wSt
      ∧ (f i u).acct.interval = u.acct.interval ∧ (f i u).acct.counts = u.acct.counts
      ∧ (f i u).acct.holdover = u.acct.holdover ∧ (f i u).acct.snapshot = u.acct.snapshot
      ∧ (∀ j, ((f i u).acct.sets.get j).tag = (u.acct.sets.get j).tag)
      ∧ (f i u).alert.inService = u.alert.inService ∧ (f i u).alert.mask = u.alert.mask
      ∧ (f i u).alert.priority = u.alert.priority ∧ (f i u).alert.base = u.alert.base
      ∧ (f i u).alert.delivery = u.alert.delivery ∧ (f i u).log.epoch = u.log.epoch) :
    (forSockets l f s).part = s.part ∧ (forSockets l f s).lines = s.lines ∧ (forSockets l f s).scan = s.scan
      ∧ (forSockets l f s).store = s.store ∧ (forSockets l f s).chan = s.chan
      ∧ (forSockets l f s).zone = s.zone ∧ (forSockets l f s).clock = s.clock
      ∧ (forSockets l f s).ret = s.ret ∧ (forSockets l f s).link = s.link
      ∧ (forSockets l f s).races = s.races ∧ (forSockets l f s).pending = s.pending
      ∧ (∀ j, (forSockets l f s).scanner j = s.scanner j)
      ∧ (∀ j, (forSockets l f s).channel j = s.channel j)
      ∧ (∀ j, (forSockets l f s).throttle j = s.throttle j) ∧ (forSockets l f s).acct.accel = s.acct.accel
      ∧ (forSockets l f s).acct.wEx = s.acct.wEx ∧ (forSockets l f s).acct.wSt = s.acct.wSt
      ∧ (forSockets l f s).acct.interval = s.acct.interval ∧ (forSockets l f s).acct.counts = s.acct.counts
      ∧ (forSockets l f s).acct.holdover = s.acct.holdover
      ∧ (forSockets l f s).acct.snapshot = s.acct.snapshot
      ∧ (∀ j, ((forSockets l f s).acct.sets.get j).tag = (s.acct.sets.get j).tag)
      ∧ (forSockets l f s).alert.inService = s.alert.inService
      ∧ (forSockets l f s).alert.mask = s.alert.mask ∧ (forSockets l f s).alert.priority = s.alert.priority
      ∧ (forSockets l f s).alert.base = s.alert.base ∧ (forSockets l f s).alert.delivery = s.alert.delivery
      ∧ (forSockets l f s).log.epoch = s.log.epoch := by
  induction l generalizing s with
  | nil => simp
  | cons i l ih => simp [forSockets_cons, ih, h]

@[simp] theorem applyLimit_frame (k : Slot) (n : Nat) (s : State) :
    (applyLimit k n s).part = s.part ∧ (applyLimit k n s).lines = s.lines ∧ (applyLimit k n s).scan = s.scan
      ∧ (applyLimit k n s).store = s.store ∧ (applyLimit k n s).chan = s.chan
      ∧ (applyLimit k n s).zone = s.zone ∧ (applyLimit k n s).clock = s.clock
      ∧ (applyLimit k n s).ret = s.ret ∧ (applyLimit k n s).link = s.link
      ∧ (applyLimit k n s).races = s.races ∧ (applyLimit k n s).pending = s.pending
      ∧ (∀ j, (applyLimit k n s).scanner j = s.scanner j)
      ∧ (∀ j, (applyLimit k n s).channel j = s.channel j)
      ∧ (∀ j, (applyLimit k n s).throttle j = s.throttle j) ∧ (applyLimit k n s).acct.accel = s.acct.accel
      ∧ (applyLimit k n s).acct.wEx = s.acct.wEx ∧ (applyLimit k n s).acct.wSt = s.acct.wSt
      ∧ (applyLimit k n s).acct.interval = s.acct.interval ∧ (applyLimit k n s).acct.counts = s.acct.counts
      ∧ (applyLimit k n s).acct.holdover = s.acct.holdover
      ∧ (applyLimit k n s).acct.snapshot = s.acct.snapshot
      ∧ (∀ j, ((applyLimit k n s).acct.sets.get j).tag = (s.acct.sets.get j).tag)
      ∧ (applyLimit k n s).alert.inService = s.alert.inService
      ∧ (applyLimit k n s).alert.mask = s.alert.mask ∧ (applyLimit k n s).alert.priority = s.alert.priority
      ∧ (applyLimit k n s).alert.base = s.alert.base ∧ (applyLimit k n s).alert.delivery = s.alert.delivery
      ∧ (applyLimit k n s).log.epoch = s.log.epoch := by
  unfold applyLimit
  dsimp only
  split
  · exact forSockets_frame _ _ _ (fun i u => by simp)
  · simp

@[simp] theorem applyPolicy_frame (k : Slot) (p : FailPolicy) (s : State) :
    (applyPolicy k p s).part = s.part ∧ (applyPolicy k p s).lines = s.lines
      ∧ (applyPolicy k p s).scan = s.scan ∧ (applyPolicy k p s).store = s.store
      ∧ (applyPolicy k p s).chan = s.chan ∧ (applyPolicy k p s).zone = s.zone
      ∧ (applyPolicy k p s).clock = s.clock ∧ (applyPolicy k p s).ret = s.ret
      ∧ (applyPolicy k p s).link = s.link ∧ (applyPolicy k p s).races = s.races
      ∧ (applyPolicy k p s).pending = s.pending ∧ (∀ j, (applyPolicy k p s).scanner j = s.scanner j)
      ∧ (∀ j, (applyPolicy k p s).channel j = s.channel j)
      ∧ (∀ j, (applyPolicy k p s).throttle j = s.throttle j) ∧ (applyPolicy k p s).acct.accel = s.acct.accel
      ∧ (applyPolicy k p s).acct.wEx = s.acct.wEx ∧ (applyPolicy k p s).acct.wSt = s.acct.wSt
      ∧ (applyPolicy k p s).acct.interval = s.acct.interval
      ∧ (applyPolicy k p s).acct.counts = s.acct.counts
      ∧ (applyPolicy k p s).acct.holdover = s.acct.holdover
      ∧ (applyPolicy k p s).acct.snapshot = s.acct.snapshot
      ∧ (∀ j, ((applyPolicy k p s).acct.sets.get j).tag = (s.acct.sets.get j).tag)
      ∧ (applyPolicy k p s).alert.inService = s.alert.inService
      ∧ (applyPolicy k p s).alert.mask = s.alert.mask
      ∧ (applyPolicy k p s).alert.priority = s.alert.priority
      ∧ (applyPolicy k p s).alert.base = s.alert.base
      ∧ (applyPolicy k p s).alert.delivery = s.alert.delivery ∧ (applyPolicy k p s).log.epoch = s.log.epoch := by
  unfold applyPolicy
  split
  · split
    · exact forSockets_frame _ _ _ (fun i u => by simp)
    · simp
  · exact forSockets_frame _ _ _ (fun i u => by simp)
  · simp

@[simp] theorem takeApply_frame (k : Slot) (s : State) :
    (takeApply k s).part = s.part ∧ (takeApply k s).lines = s.lines ∧ (takeApply k s).scan = s.scan
      ∧ (takeApply k s).store = s.store ∧ (takeApply k s).chan = s.chan ∧ (takeApply k s).zone = s.zone
      ∧ (takeApply k s).clock = s.clock ∧ (takeApply k s).ret = s.ret ∧ (takeApply k s).link = s.link
      ∧ (takeApply k s).races = s.races ∧ (takeApply k s).pending = s.pending
      ∧ (∀ j, (takeApply k s).scanner j = s.scanner j) ∧ (∀ j, (takeApply k s).channel j = s.channel j)
      ∧ (∀ j, (takeApply k s).throttle j = s.throttle j) ∧ (takeApply k s).acct.accel = s.acct.accel
      ∧ (takeApply k s).acct.wEx = s.acct.wEx ∧ (takeApply k s).acct.wSt = s.acct.wSt
      ∧ (takeApply k s).acct.interval = s.acct.interval ∧ (takeApply k s).acct.counts = s.acct.counts
      ∧ (takeApply k s).acct.holdover = s.acct.holdover ∧ (takeApply k s).acct.snapshot = s.acct.snapshot
      ∧ (∀ j, ((takeApply k s).acct.sets.get j).tag = (s.acct.sets.get j).tag)
      ∧ (takeApply k s).alert.inService = s.alert.inService ∧ (takeApply k s).alert.mask = s.alert.mask
      ∧ (takeApply k s).alert.priority = s.alert.priority ∧ (takeApply k s).alert.base = s.alert.base
      ∧ (takeApply k s).alert.delivery = s.alert.delivery ∧ (takeApply k s).log.epoch = s.log.epoch := by
  simp [takeApply]

/-- What such a loop leaves of each slot. -/
theorem forSockets_slotFields (f : Socket → State → State) (l : List Socket) (s : State) (j : Slot)
    (h : ∀ i u, ((f i u).slot j).board = (u.slot j).board ∧ ((f i u).slot j).identity = (u.slot j).identity
      ∧ ((f i u).slot j).descriptor = (u.slot j).descriptor ∧ ((f i u).slot j).status = (u.slot j).status
      ∧ ((f i u).slot j).active = (u.slot j).active ∧ ((f i u).slot j).staged = (u.slot j).staged
      ∧ ((f i u).slot j).railTrip = (u.slot j).railTrip ∧ ((f i u).slot j).burstDone = (u.slot j).burstDone
      ∧ ((f i u).slot j).applyDone = (u.slot j).applyDone
      ∧ ((f i u).slot j).abandoned = (u.slot j).abandoned
      ∧ ((f i u).slot j).applyDeferred = (u.slot j).applyDeferred
      ∧ ((f i u).slot j).vcore = (u.slot j).vcore ∧ ((f i u).slot j).vio = (u.slot j).vio
      ∧ ((f i u).slot j).ramp = (u.slot j).ramp ∧ ((f i u).slot j).dwell = (u.slot j).dwell
      ∧ ((f i u).slot j).drain = (u.slot j).drain ∧ ((f i u).slot j).drainLimit = (u.slot j).drainLimit
      ∧ ((f i u).slot j).identLimit = (u.slot j).identLimit) :
    ((forSockets l f s).slot j).board = (s.slot j).board
      ∧ ((forSockets l f s).slot j).identity = (s.slot j).identity
      ∧ ((forSockets l f s).slot j).descriptor = (s.slot j).descriptor
      ∧ ((forSockets l f s).slot j).status = (s.slot j).status
      ∧ ((forSockets l f s).slot j).active = (s.slot j).active
      ∧ ((forSockets l f s).slot j).staged = (s.slot j).staged
      ∧ ((forSockets l f s).slot j).railTrip = (s.slot j).railTrip
      ∧ ((forSockets l f s).slot j).burstDone = (s.slot j).burstDone
      ∧ ((forSockets l f s).slot j).applyDone = (s.slot j).applyDone
      ∧ ((forSockets l f s).slot j).abandoned = (s.slot j).abandoned
      ∧ ((forSockets l f s).slot j).applyDeferred = (s.slot j).applyDeferred
      ∧ ((forSockets l f s).slot j).vcore = (s.slot j).vcore
      ∧ ((forSockets l f s).slot j).vio = (s.slot j).vio
      ∧ ((forSockets l f s).slot j).ramp = (s.slot j).ramp
      ∧ ((forSockets l f s).slot j).dwell = (s.slot j).dwell
      ∧ ((forSockets l f s).slot j).drain = (s.slot j).drain
      ∧ ((forSockets l f s).slot j).drainLimit = (s.slot j).drainLimit
      ∧ ((forSockets l f s).slot j).identLimit = (s.slot j).identLimit := by
  induction l generalizing s with
  | nil => simp
  | cons i l ih => simp [forSockets_cons, ih, h]

@[simp] theorem applyLimit_slotFields (k : Slot) (n : Nat) (s : State) (j : Slot) :
    ((applyLimit k n s).slot j).board = (s.slot j).board
      ∧ ((applyLimit k n s).slot j).identity = (s.slot j).identity
      ∧ ((applyLimit k n s).slot j).descriptor = (s.slot j).descriptor
      ∧ ((applyLimit k n s).slot j).status = (s.slot j).status
      ∧ ((applyLimit k n s).slot j).active = (s.slot j).active
      ∧ ((applyLimit k n s).slot j).staged = (s.slot j).staged
      ∧ ((applyLimit k n s).slot j).railTrip = (s.slot j).railTrip
      ∧ ((applyLimit k n s).slot j).burstDone = (s.slot j).burstDone
      ∧ ((applyLimit k n s).slot j).applyDone = (s.slot j).applyDone
      ∧ ((applyLimit k n s).slot j).abandoned = (s.slot j).abandoned
      ∧ ((applyLimit k n s).slot j).applyDeferred = (s.slot j).applyDeferred
      ∧ ((applyLimit k n s).slot j).vcore = (s.slot j).vcore
      ∧ ((applyLimit k n s).slot j).vio = (s.slot j).vio
      ∧ ((applyLimit k n s).slot j).ramp = (s.slot j).ramp
      ∧ ((applyLimit k n s).slot j).dwell = (s.slot j).dwell
      ∧ ((applyLimit k n s).slot j).drain = (s.slot j).drain
      ∧ ((applyLimit k n s).slot j).drainLimit = (s.slot j).drainLimit
      ∧ ((applyLimit k n s).slot j).identLimit = (s.slot j).identLimit := by
  unfold applyLimit
  dsimp only
  split
  · exact forSockets_slotFields _ _ _ _ (fun i u => by simp)
  · simp

@[simp] theorem applyPolicy_slotFields (k : Slot) (p : FailPolicy) (s : State) (j : Slot) :
    ((applyPolicy k p s).slot j).board = (s.slot j).board
      ∧ ((applyPolicy k p s).slot j).identity = (s.slot j).identity
      ∧ ((applyPolicy k p s).slot j).descriptor = (s.slot j).descriptor
      ∧ ((applyPolicy k p s).slot j).status = (s.slot j).status
      ∧ ((applyPolicy k p s).slot j).active = (s.slot j).active
      ∧ ((applyPolicy k p s).slot j).staged = (s.slot j).staged
      ∧ ((applyPolicy k p s).slot j).railTrip = (s.slot j).railTrip
      ∧ ((applyPolicy k p s).slot j).burstDone = (s.slot j).burstDone
      ∧ ((applyPolicy k p s).slot j).applyDone = (s.slot j).applyDone
      ∧ ((applyPolicy k p s).slot j).abandoned = (s.slot j).abandoned
      ∧ ((applyPolicy k p s).slot j).applyDeferred = (s.slot j).applyDeferred
      ∧ ((applyPolicy k p s).slot j).vcore = (s.slot j).vcore
      ∧ ((applyPolicy k p s).slot j).vio = (s.slot j).vio
      ∧ ((applyPolicy k p s).slot j).ramp = (s.slot j).ramp
      ∧ ((applyPolicy k p s).slot j).dwell = (s.slot j).dwell
      ∧ ((applyPolicy k p s).slot j).drain = (s.slot j).drain
      ∧ ((applyPolicy k p s).slot j).drainLimit = (s.slot j).drainLimit
      ∧ ((applyPolicy k p s).slot j).identLimit = (s.slot j).identLimit := by
  unfold applyPolicy
  split
  · split
    · exact forSockets_slotFields _ _ _ _ (fun i u => by simp)
    · simp
  · exact forSockets_slotFields _ _ _ _ (fun i u => by simp)
  · simp

theorem applyLimit_slotFrame (k : Slot) (n : Nat) (s : State) : SlotFrame k s (applyLimit k n s) := by
  unfold applyLimit
  dsimp only
  split
  · exact forSockets_slotFrame _ (fun i u => lowerLimit_slotFrame _ _ _ _) _ _
  · exact SlotFrame.refl _ _

theorem applyPolicy_slotFrame (k : Slot) (p : FailPolicy) (s : State) : SlotFrame k s (applyPolicy k p s) := by
  unfold applyPolicy
  split
  · split
    · exact forSockets_slotFrame _ (fun i u => switchOn_slotFrame _ _ _) _ _
    · exact SlotFrame.refl _ _
  · exact forSockets_slotFrame _ (fun i u => dropFailed_slotFrame _ _ _) _ _
  · exact SlotFrame.refl _ _

theorem takeApply_slotFrame (k : Slot) (s : State) : SlotFrame k s (takeApply k s) :=
  (copyStaged_slotFrame k s).trans ((applyLimit_slotFrame _ _ _).trans (applyPolicy_slotFrame _ _ _))

/-- R40, R41: what an apply leaves in the slot besides the sockets. -/
theorem takeApply_slot (k : Slot) (s : State) :
    ((takeApply k s).slot k).active = (s.slot k).staged
      ∧ ((takeApply k s).slot k).staged = (s.slot k).staged ∧ ((takeApply k s).slot k).applyDeferred = false
      ∧ ((takeApply k s).slot k).applyDone = true
      ∧ ((takeApply k s).slot k).vcore = (s.slot k).vcore.retarget (s.slot k).board.checked (s.slot k).active.vcore (s.slot k).staged.vcore
      ∧ ((takeApply k s).slot k).vio = (s.slot k).vio.retarget (s.slot k).board.checked (s.slot k).active.vio (s.slot k).staged.vio
      ∧ ((takeApply k s).slot k).board = (s.slot k).board
      ∧ ((takeApply k s).slot k).identity = (s.slot k).identity
      ∧ ((takeApply k s).slot k).descriptor = (s.slot k).descriptor
      ∧ ((takeApply k s).slot k).status = (s.slot k).status
      ∧ ((takeApply k s).slot k).railTrip = (s.slot k).railTrip
      ∧ ((takeApply k s).slot k).burstDone = (s.slot k).burstDone
      ∧ ((takeApply k s).slot k).abandoned = (s.slot k).abandoned
      ∧ ((takeApply k s).slot k).ramp = (s.slot k).ramp ∧ ((takeApply k s).slot k).dwell = (s.slot k).dwell
      ∧ ((takeApply k s).slot k).drain = (s.slot k).drain
      ∧ ((takeApply k s).slot k).drainLimit = (s.slot k).drainLimit
      ∧ ((takeApply k s).slot k).identLimit = (s.slot k).identLimit := by
  simp [takeApply]

/-! ## Bursts abandoned and channels stopped -/

@[simp] theorem discardBurst_frame (k : Slot) (s : State) :
    (discardBurst k s).part = s.part ∧ (discardBurst k s).lines = s.lines
      ∧ (discardBurst k s).store = s.store ∧ (discardBurst k s).zone = s.zone
      ∧ (discardBurst k s).acct = s.acct ∧ (discardBurst k s).log = s.log
      ∧ (discardBurst k s).alert = s.alert ∧ (discardBurst k s).clock = s.clock
      ∧ (discardBurst k s).ret = s.ret ∧ (discardBurst k s).link = s.link
      ∧ (discardBurst k s).races = s.races ∧ (discardBurst k s).pending = s.pending
      ∧ (∀ j, (discardBurst k s).throttle j = s.throttle j)
      ∧ (∀ j n, (discardBurst k s).record j n = s.record j n) := by
  simp [discardBurst]

@[simp] theorem discardBurst_slot (k : Slot) (s : State) :
    (discardBurst k s).slot k = { s.slot k with abandoned := satInc 255 (s.slot k).abandoned }
      ∧ (∀ n, (discardBurst k s).socket k n = s.socket k n) := by
  simp [discardBurst]

@[simp] theorem discardBurst_channel (k : Slot) (s : State) : (discardBurst k s).channel k =
    { s.channel k with state := .idle, play := none, pulses := Table.fill 4 [] } := by
  simp [discardBurst]

@[simp] theorem discardBurst_scanner (k : Slot) (s : State) :
    (discardBurst k s).scanner k = (s.scanner k).forget (s.channel k).burst := by
  simp [discardBurst]

@[simp] theorem discardBurst_compare (k : Slot) (s : State) :
    (discardBurst k s).compare k = { (s.compare k).clearBurst with collecting := none } := by
  simp [discardBurst]

theorem discardBurst_slotFrame (k : Slot) (s : State) : SlotFrame k s (discardBurst k s) :=
  (State.setCompare_slotFrame _ _ _).trans ((State.setScanner_slotFrame _ _ _).trans
    ((State.setChannel_slotFrame _ _ _).trans (State.setSlot_slotFrame _ _ _)))

/-- R88: what the end of a deferred apply can be. -/
theorem endDeferred_cases (k : Slot) (cancel : Bool) (s : State) :
    ((s.slot k).applyDeferred = false ∧ endDeferred k cancel s = s)
      ∨ ((s.slot k).applyDeferred = true ∧ cancel = true
        ∧ endDeferred k cancel s = s.setSlot k { s.slot k with applyDeferred := false })
      ∨ ((s.slot k).applyDeferred = true ∧ cancel = false ∧ endDeferred k cancel s = takeApply k s) := by
  unfold endDeferred
  cases h : (s.slot k).applyDeferred <;> cases cancel <;> simp

@[simp] theorem endDeferred_frame (k : Slot) (cancel : Bool) (s : State) :
    (endDeferred k cancel s).part = s.part ∧ (endDeferred k cancel s).lines = s.lines
      ∧ (endDeferred k cancel s).scan = s.scan ∧ (endDeferred k cancel s).store = s.store
      ∧ (endDeferred k cancel s).chan = s.chan ∧ (endDeferred k cancel s).zone = s.zone
      ∧ (endDeferred k cancel s).clock = s.clock ∧ (endDeferred k cancel s).ret = s.ret
      ∧ (endDeferred k cancel s).link = s.link ∧ (endDeferred k cancel s).races = s.races
      ∧ (endDeferred k cancel s).pending = s.pending
      ∧ (∀ j, (endDeferred k cancel s).scanner j = s.scanner j)
      ∧ (∀ j, (endDeferred k cancel s).channel j = s.channel j)
      ∧ (∀ j, (endDeferred k cancel s).throttle j = s.throttle j)
      ∧ (endDeferred k cancel s).acct.accel = s.acct.accel ∧ (endDeferred k cancel s).acct.wEx = s.acct.wEx
      ∧ (endDeferred k cancel s).acct.wSt = s.acct.wSt
      ∧ (endDeferred k cancel s).acct.interval = s.acct.interval
      ∧ (endDeferred k cancel s).acct.counts = s.acct.counts
      ∧ (endDeferred k cancel s).acct.holdover = s.acct.holdover
      ∧ (endDeferred k cancel s).acct.snapshot = s.acct.snapshot
      ∧ (∀ j, ((endDeferred k cancel s).acct.sets.get j).tag = (s.acct.sets.get j).tag)
      ∧ (endDeferred k cancel s).alert.inService = s.alert.inService
      ∧ (endDeferred k cancel s).alert.mask = s.alert.mask
      ∧ (endDeferred k cancel s).alert.priority = s.alert.priority
      ∧ (endDeferred k cancel s).alert.base = s.alert.base
      ∧ (endDeferred k cancel s).alert.delivery = s.alert.delivery
      ∧ (endDeferred k cancel s).log.epoch = s.log.epoch := by
  obtain ⟨_, e⟩ | ⟨_, _, e⟩ | ⟨_, _, e⟩ := endDeferred_cases k cancel s <;> rw [e] <;> simp

theorem endDeferred_slotFrame (k : Slot) (cancel : Bool) (s : State) : SlotFrame k s (endDeferred k cancel s) := by
  obtain ⟨_, e⟩ | ⟨_, _, e⟩ | ⟨_, _, e⟩ := endDeferred_cases k cancel s <;> rw [e]
  · exact SlotFrame.refl _ _
  · exact State.setSlot_slotFrame _ _ _
  · exact takeApply_slotFrame _ _

/-- The board, and with it the state of a rail that is OFF, survive the end of a deferred apply. -/
@[simp] theorem endDeferred_slot (k : Slot) (cancel : Bool) (s : State) :
    ((endDeferred k cancel s).slot k).board = (s.slot k).board
      ∧ ((endDeferred k cancel s).slot k).identity = (s.slot k).identity
      ∧ ((endDeferred k cancel s).slot k).descriptor = (s.slot k).descriptor
      ∧ ((endDeferred k cancel s).slot k).status = (s.slot k).status
      ∧ ((endDeferred k cancel s).slot k).staged = (s.slot k).staged
      ∧ ((endDeferred k cancel s).slot k).railTrip = (s.slot k).railTrip
      ∧ ((endDeferred k cancel s).slot k).burstDone = (s.slot k).burstDone
      ∧ ((endDeferred k cancel s).slot k).abandoned = (s.slot k).abandoned
      ∧ ((endDeferred k cancel s).slot k).ramp = (s.slot k).ramp
      ∧ ((endDeferred k cancel s).slot k).dwell = (s.slot k).dwell
      ∧ ((endDeferred k cancel s).slot k).drain = (s.slot k).drain
      ∧ ((endDeferred k cancel s).slot k).drainLimit = (s.slot k).drainLimit
      ∧ ((endDeferred k cancel s).slot k).identLimit = (s.slot k).identLimit := by
  obtain ⟨_, e⟩ | ⟨_, _, e⟩ | ⟨_, _, e⟩ := endDeferred_cases k cancel s <;> rw [e]
  · simp
  · simp
  · simp [takeApply_slot]

theorem abandonBurst_cases (k : Slot) (cancel : Bool) (s : State) :
    ((s.channel k).state ≠ .burst ∧ abandonBurst k cancel s = s)
      ∨ ((s.channel k).state = .burst ∧ abandonBurst k cancel s = endDeferred k cancel (discardBurst k s)) := by
  unfold abandonBurst
  by_cases h : (s.channel k).state = .burst
  · exact Or.inr ⟨h, if_pos h⟩
  · exact Or.inl ⟨h, if_neg h⟩

@[simp] theorem abandonBurst_frame (k : Slot) (cancel : Bool) (s : State) :
    (abandonBurst k cancel s).part = s.part ∧ (abandonBurst k cancel s).lines = s.lines
      ∧ (abandonBurst k cancel s).store = s.store ∧ (abandonBurst k cancel s).zone = s.zone
      ∧ (abandonBurst k cancel s).clock = s.clock ∧ (abandonBurst k cancel s).ret = s.ret
      ∧ (abandonBurst k cancel s).link = s.link ∧ (abandonBurst k cancel s).races = s.races
      ∧ (abandonBurst k cancel s).pending = s.pending
      ∧ (∀ j, (abandonBurst k cancel s).throttle j = s.throttle j)
      ∧ (abandonBurst k cancel s).acct.accel = s.acct.accel
      ∧ (abandonBurst k cancel s).acct.wEx = s.acct.wEx ∧ (abandonBurst k cancel s).acct.wSt = s.acct.wSt
      ∧ (abandonBurst k cancel s).acct.interval = s.acct.interval
      ∧ (abandonBurst k cancel s).acct.counts = s.acct.counts
      ∧ (abandonBurst k cancel s).acct.holdover = s.acct.holdover
      ∧ (abandonBurst k cancel s).acct.snapshot = s.acct.snapshot
      ∧ (∀ j, ((abandonBurst k cancel s).acct.sets.get j).tag = (s.acct.sets.get j).tag)
      ∧ (abandonBurst k cancel s).alert.inService = s.alert.inService
      ∧ (abandonBurst k cancel s).alert.mask = s.alert.mask
      ∧ (abandonBurst k cancel s).alert.priority = s.alert.priority
      ∧ (abandonBurst k cancel s).alert.base = s.alert.base
      ∧ (abandonBurst k cancel s).alert.delivery = s.alert.delivery
      ∧ (abandonBurst k cancel s).log.epoch = s.log.epoch := by
  obtain ⟨_, e⟩ | ⟨_, e⟩ := abandonBurst_cases k cancel s <;> rw [e] <;> simp

theorem abandonBurst_slotFrame (k : Slot) (cancel : Bool) (s : State) : SlotFrame k s (abandonBurst k cancel s) := by
  obtain ⟨_, e⟩ | ⟨_, e⟩ := abandonBurst_cases k cancel s <;> rw [e]
  · exact SlotFrame.refl _ _
  · exact (discardBurst_slotFrame _ _).trans (endDeferred_slotFrame _ _ _)

@[simp] theorem stopChannel_frame (k : Slot) (cancel : Bool) (s : State) :
    (stopChannel k cancel s).part = s.part ∧ (stopChannel k cancel s).lines = s.lines
      ∧ (stopChannel k cancel s).store = s.store ∧ (stopChannel k cancel s).zone = s.zone
      ∧ (stopChannel k cancel s).clock = s.clock ∧ (stopChannel k cancel s).ret = s.ret
      ∧ (stopChannel k cancel s).link = s.link ∧ (stopChannel k cancel s).races = s.races
      ∧ (stopChannel k cancel s).pending = s.pending
      ∧ (∀ j, (stopChannel k cancel s).throttle j = s.throttle j)
      ∧ (stopChannel k cancel s).acct.accel = s.acct.accel ∧ (stopChannel k cancel s).acct.wEx = s.acct.wEx
      ∧ (stopChannel k cancel s).acct.wSt = s.acct.wSt
      ∧ (stopChannel k cancel s).acct.interval = s.acct.interval
      ∧ (stopChannel k cancel s).acct.counts = s.acct.counts
      ∧ (stopChannel k cancel s).acct.holdover = s.acct.holdover
      ∧ (stopChannel k cancel s).acct.snapshot = s.acct.snapshot
      ∧ (∀ j, ((stopChannel k cancel s).acct.sets.get j).tag = (s.acct.sets.get j).tag)
      ∧ (stopChannel k cancel s).alert.inService = s.alert.inService
      ∧ (stopChannel k cancel s).alert.mask = s.alert.mask
      ∧ (stopChannel k cancel s).alert.priority = s.alert.priority
      ∧ (stopChannel k cancel s).alert.base = s.alert.base
      ∧ (stopChannel k cancel s).alert.delivery = s.alert.delivery
      ∧ (stopChannel k cancel s).log.epoch = s.log.epoch := by
  simp [stopChannel]

theorem stopChannel_slotFrame (k : Slot) (cancel : Bool) (s : State) : SlotFrame k s (stopChannel k cancel s) :=
  (abandonBurst_slotFrame _ _ _).trans (State.setChannel_slotFrame _ _ _)

/-- R87, R89: the channel after it stops. -/
theorem stopChannel_channel (k : Slot) (cancel : Bool) (s : State) :
    ((stopChannel k cancel s).channel k).state = .idle ∧ ((stopChannel k cancel s).channel k).play = none
      ∧ ((stopChannel k cancel s).channel k).gap = none
      ∧ ((stopChannel k cancel s).channel k).active = (s.channel k).active
      ∧ ((stopChannel k cancel s).channel k).pending = (s.channel k).pending := by
  unfold stopChannel
  obtain ⟨_, e⟩ | ⟨_, e⟩ := abandonBurst_cases k cancel s <;> rw [e] <;> simp

/-- A channel that is not in BURST stops with nothing else changed. -/
theorem stopChannel_of_not_burst (k : Slot) (cancel : Bool) (s : State) (h : (s.channel k).state ≠ .burst) :
    stopChannel k cancel s = s.setChannel k { s.channel k with state := .idle, play := none, gap := none } := by
  simp [stopChannel, abandonBurst, h]

/-- What a channel that stops leaves of its slot. -/
@[simp] theorem stopChannel_slot (k : Slot) (cancel : Bool) (s : State) :
    ((stopChannel k cancel s).slot k).board = (s.slot k).board
      ∧ ((stopChannel k cancel s).slot k).identity = (s.slot k).identity
      ∧ ((stopChannel k cancel s).slot k).descriptor = (s.slot k).descriptor
      ∧ ((stopChannel k cancel s).slot k).status = (s.slot k).status
      ∧ ((stopChannel k cancel s).slot k).staged = (s.slot k).staged
      ∧ ((stopChannel k cancel s).slot k).railTrip = (s.slot k).railTrip
      ∧ ((stopChannel k cancel s).slot k).burstDone = (s.slot k).burstDone
      ∧ ((stopChannel k cancel s).slot k).ramp = (s.slot k).ramp
      ∧ ((stopChannel k cancel s).slot k).dwell = (s.slot k).dwell
      ∧ ((stopChannel k cancel s).slot k).drain = (s.slot k).drain
      ∧ ((stopChannel k cancel s).slot k).drainLimit = (s.slot k).drainLimit
      ∧ ((stopChannel k cancel s).slot k).identLimit = (s.slot k).identLimit := by
  unfold stopChannel
  obtain ⟨_, e⟩ | ⟨_, e⟩ := abandonBurst_cases k cancel s <;> rw [e] <;> simp

/-! ## Hard-off -/

/-- No socket of the slot is ON or waits for a retry (R20, R28). -/
def Released (k : Slot) (s : State) : Prop :=
  ∀ i : Socket, (s.socket k i).power ≠ .on ∧ (s.socket k i).power ≠ .tripWait

theorem lowerLimit_released (k : Slot) (l : Nat) (i : Socket) (s : State) (h : Released k s) :
    Released k (lowerLimit k l i s) := by
  obtain ⟨_, e⟩ | ⟨_, s1, h1, ⟨hq, e⟩ | ⟨_, e⟩⟩ := lowerLimit_cases k l i s <;> rw [e]
  · exact h
  · intro n
    rw [h1, State.setSocket_socket]
    split
    · simp [hq]
    · exact h n
  · intro n
    rw [reportFailure_socket, if_neg (by simp [h1])]
    rw [setPower_socket]
    split
    · simp
    · rw [h1, State.setSocket_socket]
      split
      · next e' => exact absurd e' (by assumption)
      · exact h n

theorem dropFailed_released (k : Slot) (i : Socket) (s : State) (h : Released k s) :
    Released k (dropFailed k i s) := by
  obtain e | e := dropFailed_cases k i s <;> rw [e]
  · exact h
  · intro n
    rw [dropNotice_socket]
    split
    · simp
    · exact h n

/-- R41: an apply of a board that is not POWERED switches no socket on. -/
theorem takeApply_released (k : Slot) (s : State) (hb : (s.slot k).board ≠ .powered) (h : Released k s) :
    Released k (takeApply k s) := by
  have h1 : Released k (copyStaged k s) := by
    intro n
    have : (copyStaged k s).socket k n = s.socket k n := by simp [copyStaged]
    rw [this]; exact h n
  have h2 : Released k (applyLimit k (s.slot k).active.strikeLimit (copyStaged k s)) := by
    unfold applyLimit
    dsimp only
    split
    · exact forSockets_invariant (Released k) _ (fun i u hu => lowerLimit_released k _ i u hu) _ _ h1
    · exact h1
  unfold takeApply applyPolicy
  dsimp only
  split
  · rw [if_neg (by simpa using hb)]
    exact h2
  · exact forSockets_invariant (Released k) _ (fun i u hu => dropFailed_released k i u hu) _ _ h2
  · exact h2

theorem endDeferred_released (k : Slot) (cancel : Bool) (s : State) (hb : (s.slot k).board ≠ .powered)
    (h : Released k s) : Released k (endDeferred k cancel s) := by
  obtain ⟨_, e⟩ | ⟨_, _, e⟩ | ⟨_, _, e⟩ := endDeferred_cases k cancel s <;> rw [e]
  · exact h
  · intro n; simpa using h n
  · exact takeApply_released k s hb h

theorem stopChannel_released (k : Slot) (cancel : Bool) (s : State) (hb : (s.slot k).board ≠ .powered)
    (h : Released k s) : Released k (stopChannel k cancel s) := by
  unfold stopChannel
  obtain ⟨_, e⟩ | ⟨_, e⟩ := abandonBurst_cases k cancel s <;> rw [e]
  · intro n; simpa using h n
  · have := endDeferred_released k cancel (discardBurst k s) (by simpa using hb) (fun n => by simpa using h n)
    intro n; simpa using this n

theorem RailState.retarget_of_not_live (r : RailState) (a b : Nat) : r.retarget false a b = r := by
  simp [RailState.retarget]

/-- R41: the rails of a board that is neither RAMPING nor POWERED do not follow an apply. -/
theorem stopChannel_rails (k : Slot) (cancel : Bool) (s : State) (hb : (s.slot k).board.checked = false) :
    ((stopChannel k cancel s).slot k).vcore = (s.slot k).vcore
      ∧ ((stopChannel k cancel s).slot k).vio = (s.slot k).vio := by
  unfold stopChannel
  obtain ⟨_, e⟩ | ⟨_, e⟩ := abandonBurst_cases k cancel s <;> rw [e]
  · simp
  · obtain ⟨_, e⟩ | ⟨_, _, e⟩ | ⟨_, _, e⟩ := endDeferred_cases k cancel (discardBurst k s) <;> rw [e]
    · simp
    · simp
    · simp [takeApply_slot, hb, RailState.retarget_of_not_live]

theorem hardOff_released (c : SlotCtl) : HardOff c.hardOff := by
  refine ⟨rfl, rfl, rfl, rfl, rfl, rfl, fun i => ?_⟩
  simp only [SlotCtl.hardOff, Table.get_map]
  unfold SocketPower.release
  split <;> simp_all

theorem checked_powered {b : BoardState} (h : b.checked = false) : b ≠ .powered := by
  rintro rfl; exact absurd h (by decide)

/-- A hard-off slot whose channel stops stays hard-off. -/
theorem stopChannel_hardOff (k : Slot) (cancel : Bool) (s : State) (hb : (s.slot k).board.checked = false)
    (h : HardOff (s.slot k)) : HardOff ((stopChannel k cancel s).slot k) := by
  obtain ⟨h1, h2, h3, h4, h5, h6, h7⟩ := h
  obtain ⟨r1, r2⟩ := stopChannel_rails k cancel s hb
  have hr := stopChannel_released k cancel s (checked_powered hb) h7
  refine ⟨by rw [r1, h1], by rw [r2, h2], ?_, ?_, ?_, ?_, hr⟩ <;> simp [h3, h4, h5, h6]

@[simp] theorem takeDown_frame (k : Slot) (b : BoardState) (cancel : Bool) (s : State) :
    (takeDown k b cancel s).part = s.part ∧ (takeDown k b cancel s).lines = s.lines
      ∧ (takeDown k b cancel s).store = s.store ∧ (takeDown k b cancel s).clock = s.clock
      ∧ (takeDown k b cancel s).ret = s.ret ∧ (takeDown k b cancel s).link = s.link
      ∧ (takeDown k b cancel s).races = s.races ∧ (takeDown k b cancel s).pending = s.pending
      ∧ (takeDown k b cancel s).acct.accel = s.acct.accel ∧ (takeDown k b cancel s).acct.wEx = s.acct.wEx
      ∧ (takeDown k b cancel s).acct.wSt = s.acct.wSt
      ∧ (takeDown k b cancel s).acct.interval = s.acct.interval
      ∧ (takeDown k b cancel s).acct.counts = s.acct.counts
      ∧ (takeDown k b cancel s).acct.holdover = s.acct.holdover
      ∧ (takeDown k b cancel s).acct.snapshot = s.acct.snapshot
      ∧ (∀ j, ((takeDown k b cancel s).acct.sets.get j).tag = (s.acct.sets.get j).tag)
      ∧ (takeDown k b cancel s).alert.inService = s.alert.inService
      ∧ (takeDown k b cancel s).alert.mask = s.alert.mask
      ∧ (takeDown k b cancel s).alert.priority = s.alert.priority
      ∧ (takeDown k b cancel s).alert.base = s.alert.base
      ∧ (takeDown k b cancel s).alert.delivery = s.alert.delivery
      ∧ (takeDown k b cancel s).log.epoch = s.log.epoch := by
  simp [takeDown]

/-- What a board taken hard-off into a state that is neither RAMPING nor POWERED leaves (R10, R16, R28, R89,
R121, R124). -/
theorem takeDown_spec (k : Slot) (b : BoardState) (cancel : Bool) (s : State) (hb : b.checked = false) :
    ((takeDown k b cancel s).slot k).board = b ∧ HardOff ((takeDown k b cancel s).slot k)
      ∧ ((takeDown k b cancel s).channel k).state = .idle ∧ ((takeDown k b cancel s).channel k).play = none
      ∧ ((takeDown k b cancel s).channel k).gap = none
      ∧ ((takeDown k b cancel s).channel k).active = (s.channel k).active
      ∧ ((takeDown k b cancel s).channel k).pending = (s.channel k).pending
      ∧ (takeDown k b cancel s).throttle k = ⟨0, none, none⟩ := by
  unfold takeDown
  generalize hu : s.setSlot k { (s.slot k).hardOff with board := b } = u
  have hbu : (u.slot k).board = b := by rw [← hu]; simp
  have hoff : HardOff (u.slot k) := by
    rw [← hu, State.setSlot_slot_same]
    exact hardOff_released (s.slot k)
  have hch := stopChannel_channel k cancel u
  have hcu : u.channel k = s.channel k := by rw [← hu]; simp
  rw [hcu] at hch
  refine ⟨?_, ?_, ?_, ?_, ?_, ?_, ?_, ?_⟩
  · simp [hbu]
  · simpa using stopChannel_hardOff k cancel u (by rw [hbu]; exact hb) hoff
  · simpa using hch.1
  · simpa using hch.2.1
  · simpa using hch.2.2.1
  · simpa using hch.2.2.2.1
  · simpa using hch.2.2.2.2
  · simp [resetThrottle]

/-- R121: of the zone, a board taken hard-off changes its throttle state alone. -/
theorem takeDown_zone (k : Slot) (b : BoardState) (cancel : Bool) (s : State) :
    (takeDown k b cancel s).zone = { s.zone with throttle := s.zone.throttle.set k ⟨0, none, none⟩ } := by
  simp [takeDown, resetThrottle]

theorem takeDown_slotFrame (k : Slot) (b : BoardState) (cancel : Bool) (s : State) :
    SlotFrame k s (takeDown k b cancel s) :=
  (State.setSlot_slotFrame _ _ _).trans ((stopChannel_slotFrame _ _ _).trans (State.setThrottle_slotFrame _ _ _))

/-- Fields of the slot that a hard-off leaves. -/
@[simp] theorem takeDown_slot (k : Slot) (b : BoardState) (cancel : Bool) (s : State) :
    ((takeDown k b cancel s).slot k).identity = (s.slot k).identity
      ∧ ((takeDown k b cancel s).slot k).descriptor = (s.slot k).descriptor
      ∧ ((takeDown k b cancel s).slot k).status = (s.slot k).status
      ∧ ((takeDown k b cancel s).slot k).staged = (s.slot k).staged
      ∧ ((takeDown k b cancel s).slot k).railTrip = (s.slot k).railTrip
      ∧ ((takeDown k b cancel s).slot k).burstDone = (s.slot k).burstDone
      ∧ ((takeDown k b cancel s).slot k).identLimit = (s.slot k).identLimit := by
  simp [takeDown, SlotCtl.hardOff]

theorem lockOut_cases (cancel : Bool) (k : Slot) (s : State) :
    ((s.slot k).board.live = true ∧ lockOut cancel k s = takeDown k .present cancel s)
      ∨ ((s.slot k).board.live = false ∧ lockOut cancel k s = s) := by
  unfold lockOut
  cases (s.slot k).board.live <;> simp

@[simp] theorem lockOut_frame (cancel : Bool) (k : Slot) (s : State) :
    (lockOut cancel k s).part = s.part ∧ (lockOut cancel k s).lines = s.lines
      ∧ (lockOut cancel k s).store = s.store ∧ (lockOut cancel k s).clock = s.clock
      ∧ (lockOut cancel k s).ret = s.ret ∧ (lockOut cancel k s).link = s.link
      ∧ (lockOut cancel k s).races = s.races ∧ (lockOut cancel k s).pending = s.pending
      ∧ (lockOut cancel k s).acct.accel = s.acct.accel ∧ (lockOut cancel k s).acct.wEx = s.acct.wEx
      ∧ (lockOut cancel k s).acct.wSt = s.acct.wSt ∧ (lockOut cancel k s).acct.interval = s.acct.interval
      ∧ (lockOut cancel k s).acct.counts = s.acct.counts
      ∧ (lockOut cancel k s).acct.holdover = s.acct.holdover
      ∧ (lockOut cancel k s).acct.snapshot = s.acct.snapshot
      ∧ (∀ j, ((lockOut cancel k s).acct.sets.get j).tag = (s.acct.sets.get j).tag)
      ∧ (lockOut cancel k s).alert.inService = s.alert.inService
      ∧ (lockOut cancel k s).alert.mask = s.alert.mask
      ∧ (lockOut cancel k s).alert.priority = s.alert.priority
      ∧ (lockOut cancel k s).alert.base = s.alert.base
      ∧ (lockOut cancel k s).alert.delivery = s.alert.delivery
      ∧ (lockOut cancel k s).log.epoch = s.log.epoch := by
  obtain ⟨_, e⟩ | ⟨_, e⟩ := lockOut_cases cancel k s <;> rw [e] <;> simp

theorem lockOut_slotFrame (cancel : Bool) (k : Slot) (s : State) : SlotFrame k s (lockOut cancel k s) := by
  obtain ⟨_, e⟩ | ⟨_, e⟩ := lockOut_cases cancel k s <;> rw [e]
  · exact takeDown_slotFrame _ _ _ _
  · exact SlotFrame.refl _ _

theorem tripBoard_of_not (k : Slot) (r : Rail) (c : TripCause) (s : State) (h : (s.slot k).board.checked = false) :
    tripBoard k r c s = s := by
  simp [tripBoard, h]

theorem tripBoard_of (k : Slot) (r : Rail) (c : TripCause) (s : State) (h : (s.slot k).board.checked = true) :
    ∃ u, u = appendBoard k .boardRail (u8 r.code ++ u8 c.code) (takeDown k .tripped false s)
      ∧ tripBoard k r c s = u.setSlot k { u.slot k with railTrip := true } :=
  ⟨_, rfl, by simp [tripBoard, h]⟩

@[simp] theorem tripBoard_frame (k : Slot) (r : Rail) (c : TripCause) (s : State) :
    (tripBoard k r c s).part = s.part ∧ (tripBoard k r c s).lines = s.lines
      ∧ (tripBoard k r c s).store = s.store ∧ (tripBoard k r c s).clock = s.clock
      ∧ (tripBoard k r c s).ret = s.ret ∧ (tripBoard k r c s).link = s.link
      ∧ (tripBoard k r c s).races = s.races ∧ (tripBoard k r c s).pending = s.pending
      ∧ (tripBoard k r c s).acct.accel = s.acct.accel ∧ (tripBoard k r c s).acct.wEx = s.acct.wEx
      ∧ (tripBoard k r c s).acct.wSt = s.acct.wSt ∧ (tripBoard k r c s).acct.interval = s.acct.interval
      ∧ (tripBoard k r c s).acct.counts = s.acct.counts
      ∧ (tripBoard k r c s).acct.holdover = s.acct.holdover
      ∧ (tripBoard k r c s).acct.snapshot = s.acct.snapshot
      ∧ (∀ j, ((tripBoard k r c s).acct.sets.get j).tag = (s.acct.sets.get j).tag)
      ∧ (tripBoard k r c s).alert.inService = s.alert.inService
      ∧ (tripBoard k r c s).alert.mask = s.alert.mask
      ∧ (tripBoard k r c s).alert.priority = s.alert.priority
      ∧ (tripBoard k r c s).alert.base = s.alert.base
      ∧ (tripBoard k r c s).alert.delivery = s.alert.delivery ∧ (tripBoard k r c s).log.epoch = s.log.epoch := by
  cases h : (s.slot k).board.checked
  · simp [tripBoard_of_not k r c s h]
  · obtain ⟨u, hu, e⟩ := tripBoard_of k r c s h
    rw [e]
    simp [hu, appendBoard]

theorem tripBoard_slotFrame (k : Slot) (r : Rail) (c : TripCause) (s : State) :
    SlotFrame k s (tripBoard k r c s) := by
  cases h : (s.slot k).board.checked
  · rw [tripBoard_of_not k r c s h]
    exact SlotFrame.refl _ _
  · obtain ⟨u, hu, e⟩ := tripBoard_of k r c s h
    rw [e, hu]
    exact (takeDown_slotFrame _ _ _ _).trans
      ((appendEntry_slotFrame _ _ _ _ _ _).trans (State.setSlot_slotFrame _ _ _))

/-- R28: what a board trip leaves. -/
theorem tripBoard_spec (k : Slot) (r : Rail) (c : TripCause) (s : State) (h : (s.slot k).board.checked = true) :
    Tripped k r c s (tripBoard k r c s) := by
  have hf := tripBoard_slotFrame k r c s
  obtain ⟨u, hu, e⟩ := tripBoard_of k r c s h
  obtain ⟨h1, h2, h3, h4, _, _, _, h5⟩ := takeDown_spec k .tripped false s rfl
  have hs : u.slot k = (takeDown k .tripped false s).slot k := by rw [hu]; simp [appendBoard]
  have hn : NewestIs u (some k) none .boardRail (u8 r.code ++ u8 c.code) := by
    rw [hu]; exact appendEntry_newest _ _ _ _ _
  have hr : u.alert.raised.getLsbD (2 + k.code) = true := by rw [hu]; exact appendEntry_raises _ _ _ _ _
  have hc : u.channel k = (takeDown k .tripped false s).channel k := by rw [hu]; simp [appendBoard]
  have ht : u.throttle k = (takeDown k .tripped false s).throttle k := by rw [hu]; simp [appendBoard]
  rw [e] at hf ⊢
  refine ⟨?_, ?_, ?_, ?_, ?_, ?_, ?_, hr, hf⟩
  · simp [hs, h1]
  · rw [State.setSlot_slot_same, hs]; exact h2
  · simp
  · simp [hc, h3]
  · simp [hc, h4]
  · simp [ht, h5]
  · exact newestIs_of_eq hn rfl rfl rfl

/-! ## Requests -/

/-- R186, R188: a request taken by a part that is ready. -/
theorem takeRequest_ready (kind : Byte) (serve : State → Served) (s : State) (h : Ready s) :
    takeRequest kind serve s
      = { (serve (received s)).state with
          link := (serve (received s)).state.link.compose ⟨replyKind kind, (serve (received s)).payload⟩ } := by
  simp [takeRequest, State.running, h.1, h.2, received]

/-- R186: a request that arrives while a reply is owed is discarded. -/
theorem takeRequest_owed (kind : Byte) (serve : State → Served) (s : State) (h1 : s.part.phase = .running)
    (h2 : s.link.owed = true) : takeRequest kind serve s = received s := by
  simp [takeRequest, State.running, h1, h2, received]

/-- R179: nothing is received unless the part is running. -/
theorem takeRequest_off (kind : Byte) (serve : State → Served) (s : State) (h : s.part.phase ≠ .running) :
    takeRequest kind serve s = s := by
  simp [takeRequest, State.running, h]

/-- A request's answer does not depend on the link's receiver: served after the frame is taken from it, it gives
what it gives before, with the receiver in HUNT. -/
theorem takeRequest_replied (kind : Byte) (serve : State → Served) (s t : State) (payload : List Byte)
    (h : Ready s) (hs : serve (received s) = ⟨received t, payload⟩) :
    takeRequest kind serve s = replied kind payload t := by
  rw [takeRequest_ready kind serve s h, hs]
  rfl

@[simp] theorem received_frame (s : State) :
    (received s).part = s.part ∧ (received s).lines = s.lines ∧ (received s).slots = s.slots
      ∧ (received s).scan = s.scan ∧ (received s).store = s.store ∧ (received s).chan = s.chan
      ∧ (received s).cmp = s.cmp ∧ (received s).zone = s.zone ∧ (received s).acct = s.acct
      ∧ (received s).log = s.log ∧ (received s).alert = s.alert ∧ (received s).clock = s.clock
      ∧ (received s).ret = s.ret ∧ (received s).races = s.races ∧ (received s).pending = s.pending
      ∧ (∀ j, (received s).slot j = s.slot j) ∧ (∀ j, (received s).scanner j = s.scanner j)
      ∧ (∀ j, (received s).channel j = s.channel j) ∧ (∀ j, (received s).compare j = s.compare j)
      ∧ (∀ j, (received s).throttle j = s.throttle j) ∧ (∀ j n, (received s).socket j n = s.socket j n)
      ∧ (∀ j n, (received s).record j n = s.record j n) := by
  simp [received]

@[simp] theorem received_received (s : State) : received (received s) = received s := rfl

@[simp] theorem received_link (s : State) : (received s).link = { s.link with rx := .hunt, buffer := [] } := rfl

theorem received_slotFrame (k : Slot) (s : State) : SlotFrame k s (received s) :=
  ⟨rfl, rfl, rfl, rfl, rfl, rfl, rfl, rfl, rfl, rfl, fun _ _ => ⟨rfl, rfl, rfl, rfl, rfl, rfl⟩⟩

/-- R186, R188: a request taken by a part that is ready, whose rule leaves the link as it is. -/
theorem takeRequest_next (kind : Byte) (serve : State → Served) (s : State) (h : Ready s)
    (hl : (serve (received s)).state.link = (received s).link) :
    takeRequest kind serve s = replied kind (serve (received s)).payload (serve (received s)).state := by
  rw [takeRequest_ready _ _ _ h, replied]
  have e : (received (serve (received s)).state).link = (serve (received s)).state.link := by simp [hl]
  simp only [received] at e ⊢
  rw [e]

/-! ## Switching several sockets on -/

/-- What a socket's switching on reads and writes of it: its power record, its account record, and its place in
the verdict set. -/
def socketView (k : Slot) (i : Socket) (s : State) : SocketPower × AcctRecord × Bool × Nat :=
  (s.socket k i, s.record k i, (s.compare k).member.get i, (s.compare k).mismatch.get i)

theorem setPower_view (k : Slot) (i n : Socket) (p : PowerState) (t : Timer) (s : State) (h : n ≠ i) :
    socketView k n (setPower k i p t s) = socketView k n s := by
  simp only [socketView, setPower_socket, h, and_false, if_false, setPower_frame, setPower_compare]
  split
  · simp [Table.get_set_ne _ _ h]
  · rfl

theorem reportFailure_view (k : Slot) (i n : Socket) (c : FailCause) (d : List Byte) (s : State) (h : n ≠ i) :
    socketView k n (reportFailure k i c d s) = socketView k n s := by
  have h1 : (reportFailure k i c d s).socket k n = s.socket k n := by
    rw [reportFailure_socket, if_neg]; exact fun e => h e.2.2.2.1
  have h2 : (reportFailure k i c d s).record k n = s.record k n :=
    reportFailure_record_ne k i c d s (fun e => h e.2)
  have h3 : ((reportFailure k i c d s).compare k).member.get n = (s.compare k).member.get n
      ∧ ((reportFailure k i c d s).compare k).mismatch.get n = (s.compare k).mismatch.get n := by
    unfold reportFailure
    obtain ⟨_, e⟩ | ⟨_, r, _, ⟨_, e⟩ | ⟨_, e⟩⟩ :=
      turnFailed_cases k i c d (logFailure k i c d (s.setRecord k i ((s.record k i).countReport c))) <;> rw [e]
    · simp
    · unfold dropNotice
      split <;> simp [setPower_compare, Table.get_set_ne _ _ h]
    · simp
  simp only [socketView, h1, h2, h3]

theorem tripSocket_view (k : Slot) (i n : Socket) (c : LogCause) (d : List Byte) (s : State) (h : n ≠ i) :
    socketView k n (tripSocket k i c d s) = socketView k n s := by
  obtain ⟨h1, h2⟩ := tripSocket_others k i c d s (j := k) (n := n) (fun e => h e.2)
  have h3 : ((tripSocket k i c d s).compare k).member.get n = (s.compare k).member.get n
      ∧ ((tripSocket k i c d s).compare k).mismatch.get n = (s.compare k).mismatch.get n := by
    by_cases hp : (s.socket k i).power = .on
    · obtain ⟨q, s2, s4, hq, h2, h4, h5⟩ := tripSocket_of_on k i c d s hp
      have e2 : ((s2.compare k).member.get n = (s.compare k).member.get n)
          ∧ (s2.compare k).mismatch.get n = (s.compare k).mismatch.get n := by
        rw [h2, setPower_compare]
        split <;> simp [Table.get_set_ne _ _ h]
      have e4 : s4.compare k = s2.compare k := by rw [h4]; simp [appendSocket]
      rw [h5]
      cases q
      · simpa [e4] using e2
      · have e5 := reportFailure_view k i n .quarantine (u8 c.code)
          (s4.setSlot k { s4.slot k with socketTrip := true }) h
        simp only [socketView, Prod.mk.injEq] at e5
        simp only [if_true]
        rw [e5.2.2.1, e5.2.2.2]
        simpa [e4] using e2
    · rw [tripSocket_of_not_on k i c d s hp]
      exact ⟨rfl, rfl⟩
  simp only [socketView, h1, h2, h3]

theorem switchOn_view (k : Slot) (i n : Socket) (s : State) (h : n ≠ i) :
    socketView k n (switchOn k i s) = socketView k n s := by
  obtain ⟨_, e⟩ | ⟨_, ⟨_, e⟩ | ⟨_, e⟩⟩ := switchOn_cases k i s <;> rw [e]
  · exact setPower_view _ _ _ _ _ _ h
  · rw [tripSocket_view _ _ _ _ _ _ h, setPower_view _ _ _ _ _ _ h]

theorem lowerLimit_view (k : Slot) (l : Nat) (i n : Socket) (s : State) (h : n ≠ i) :
    socketView k n (lowerLimit k l i s) = socketView k n s := by
  obtain ⟨_, e⟩ | ⟨_, s1, h1, ⟨_, e⟩ | ⟨_, e⟩⟩ := lowerLimit_cases k l i s <;> rw [e]
  · rw [h1]; simp [socketView, State.setSocket_socket, h]
  · rw [reportFailure_view _ _ _ _ _ _ h, setPower_view _ _ _ _ _ _ h, h1]
    simp [socketView, State.setSocket_socket, h]

theorem dropFailed_view (k : Slot) (i n : Socket) (s : State) (h : n ≠ i) :
    socketView k n (dropFailed k i s) = socketView k n s := by
  obtain e | e := dropFailed_cases k i s <;> rw [e]
  unfold dropNotice
  split <;> first | rfl | exact setPower_view _ _ _ _ _ _ h

/-- An alert source once raised stays raised while sockets are tripped and switched on. -/
theorem tripSocket_raised (k : Slot) (i : Socket) (c : LogCause) (d : List Byte) (s : State) (n : Nat)
    (h : s.alert.raised.getLsbD n = true) : (tripSocket k i c d s).alert.raised.getLsbD n = true := by
  by_cases hp : (s.socket k i).power = .on
  · obtain ⟨q, s2, s4, hq, h2, h4, h5⟩ := tripSocket_of_on k i c d s hp
    have a4 : s4.alert.raised.getLsbD n = true := by
      rw [h4]; exact appendEntry_raised _ _ _ _ _ _ (by rw [h2]; simpa using h)
    rw [h5]
    cases q
    · exact a4
    · exact reportFailure_raised _ _ _ _ _ _ a4
  · rw [tripSocket_of_not_on k i c d s hp]; exact h

theorem switchOn_raised (k : Slot) (i : Socket) (s : State) (n : Nat)
    (h : s.alert.raised.getLsbD n = true) : (switchOn k i s).alert.raised.getLsbD n = true := by
  obtain ⟨_, e⟩ | ⟨_, ⟨_, e⟩ | ⟨_, e⟩⟩ := switchOn_cases k i s <;> rw [e]
  · exact h
  · simpa using h
  · exact tripSocket_raised _ _ _ _ _ _ (by simpa using h)

theorem tripSocket_socketTrip (k : Slot) (i : Socket) (c : LogCause) (d : List Byte) (s : State)
    (h : (s.slot k).socketTrip = true) : ((tripSocket k i c d s).slot k).socketTrip = true := by
  by_cases hp : (s.socket k i).power = .on
  · exact (tripSocket_spec k i c d s hp).1.2.2.2.2.1
  · rw [tripSocket_of_not_on k i c d s hp]; exact h

theorem switchOn_socketTrip (k : Slot) (i : Socket) (s : State)
    (h : (s.slot k).socketTrip = true) : ((switchOn k i s).slot k).socketTrip = true := by
  obtain ⟨_, e⟩ | ⟨_, ⟨_, e⟩ | ⟨_, e⟩⟩ := switchOn_cases k i s <;> rw [e]
  · exact h
  · simpa using h
  · exact tripSocket_socketTrip _ _ _ _ _ (by simpa using h)

/-- R24, R31, R32: each listed socket that is OFF and eligible goes ON or is tripped at once, and no other socket
changes. -/
theorem forSockets_switchOn (k : Slot) (l : List Socket) (hl : l.Nodup) (s : State) (i : Socket) :
    (¬ (i ∈ l ∧ (s.socket k i).power = .off ∧ s.eligible k i = true) →
      socketView k i (forSockets l (switchOn k) s) = socketView k i s)
      ∧ (i ∈ l → (s.socket k i).power = .off → s.eligible k i = true →
        ((s.lines.switchFault.get k).get i = false → (forSockets l (switchOn k) s).socket k i
            = ⟨.on, (s.socket k i).strikes, (s.socket k i).overCode, none⟩)
        ∧ ((s.lines.switchFault.get k).get i = true →
            SocketTripped k i s (forSockets l (switchOn k) s))) := by
  have hinv : ∀ i u, (u.lines = s.lines ∧ (u.slot k).descriptor = (s.slot k).descriptor
      ∧ (u.slot k).active = (s.slot k).active) →
      ((switchOn k i u).lines = s.lines ∧ ((switchOn k i u).slot k).descriptor = (s.slot k).descriptor
        ∧ ((switchOn k i u).slot k).active = (s.slot k).active) := by
    intro i u h; simpa using h
  have hat := forSockets_at (socketView k) _ (switchOn k) (fun i n s h => switchOn_view k i n s h) hinv l hl s
    ⟨rfl, rfl, rfl⟩ i
  have hel : ∀ u, (u.lines = s.lines ∧ (u.slot k).descriptor = (s.slot k).descriptor
      ∧ (u.slot k).active = (s.slot k).active) → socketView k i u = socketView k i s →
      u.eligible k i = s.eligible k i := by
    intro u hu hv
    simp only [socketView, Prod.mk.injEq] at hv
    exact eligible_congr (by rw [hv.1]) hu.2.1 (by rw [hu.2.2]) (by rw [hv.2.1])
  constructor
  · intro hn
    by_cases hi : i ∈ l
    · obtain ⟨u, hu, hv, hr, _⟩ := hat.2 hi
      have hv' := hv
      simp only [socketView, Prod.mk.injEq] at hv'
      rw [hr, switchOn_of_not k i u, hv]
      rw [hv'.1, hel u hu hv]
      exact fun e => hn ⟨hi, e⟩
    · exact hat.1 hi
  · intro hi h1 h2
    obtain ⟨u, hu, hv, hr, hP⟩ := hat.2 hi
    have hv' := hv
    simp only [socketView, Prod.mk.injEq] at hv'
    have hc := switchOn_chosen k i u ⟨by rw [hv'.1]; exact h1, by rw [hel u hu hv]; exact h2⟩
    simp only [socketView, Prod.mk.injEq] at hr
    rw [hu.1] at hc
    refine ⟨fun hf => ?_, fun hf => ?_⟩
    · rw [hr.1, hc.1 hf, hv'.1]
    · have ht := hc.2 hf
      have ht' := socketTripped_congr (u := s) ht (by rw [hv'.1]) hu.2.2.symm hv'.2.1.symm
      unfold SocketTripped at ht' ⊢
      rw [hr.1, hr.2.1, hr.2.2.1, hr.2.2.2]
      exact ⟨ht'.1, ht'.2.1, ht'.2.2.1, ht'.2.2.2.1,
        hP (fun u => (u.slot k).socketTrip = true) (fun i u h => switchOn_socketTrip k i u h) ht'.2.2.2.2.1,
        hP (fun u => u.alert.raised.getLsbD (2 + k.code) = true) (fun i u h => switchOn_raised k i u _ h)
          ht'.2.2.2.2.2⟩

@[simp] theorem forSockets_switchOn_loop_frame (k : Slot) (l : List Socket) (s : State) :
    (forSockets l (switchOn k) s).part = s.part ∧ (forSockets l (switchOn k) s).lines = s.lines
      ∧ (forSockets l (switchOn k) s).scan = s.scan ∧ (forSockets l (switchOn k) s).store = s.store
      ∧ (forSockets l (switchOn k) s).chan = s.chan ∧ (forSockets l (switchOn k) s).zone = s.zone
      ∧ (forSockets l (switchOn k) s).clock = s.clock ∧ (forSockets l (switchOn k) s).ret = s.ret
      ∧ (forSockets l (switchOn k) s).link = s.link ∧ (forSockets l (switchOn k) s).races = s.races
      ∧ (forSockets l (switchOn k) s).pending = s.pending
      ∧ (∀ j, (forSockets l (switchOn k) s).scanner j = s.scanner j)
      ∧ (∀ j, (forSockets l (switchOn k) s).channel j = s.channel j)
      ∧ (∀ j, (forSockets l (switchOn k) s).throttle j = s.throttle j)
      ∧ (forSockets l (switchOn k) s).acct.accel = s.acct.accel
      ∧ (forSockets l (switchOn k) s).acct.wEx = s.acct.wEx
      ∧ (forSockets l (switchOn k) s).acct.wSt = s.acct.wSt
      ∧ (forSockets l (switchOn k) s).acct.interval = s.acct.interval
      ∧ (forSockets l (switchOn k) s).acct.counts = s.acct.counts
      ∧ (forSockets l (switchOn k) s).acct.holdover = s.acct.holdover
      ∧ (forSockets l (switchOn k) s).acct.snapshot = s.acct.snapshot
      ∧ (∀ j, ((forSockets l (switchOn k) s).acct.sets.get j).tag = (s.acct.sets.get j).tag)
      ∧ (forSockets l (switchOn k) s).alert.inService = s.alert.inService
      ∧ (forSockets l (switchOn k) s).alert.mask = s.alert.mask
      ∧ (forSockets l (switchOn k) s).alert.priority = s.alert.priority
      ∧ (forSockets l (switchOn k) s).alert.base = s.alert.base
      ∧ (forSockets l (switchOn k) s).alert.delivery = s.alert.delivery
      ∧ (forSockets l (switchOn k) s).log.epoch = s.log.epoch := by
  exact forSockets_frame _ _ _ (fun i u => by simp)

@[simp] theorem forSockets_switchOn_loop_slotFields (k : Slot) (l : List Socket) (s : State) (j : Slot) :
    ((forSockets l (switchOn k) s).slot j).board = (s.slot j).board
      ∧ ((forSockets l (switchOn k) s).slot j).identity = (s.slot j).identity
      ∧ ((forSockets l (switchOn k) s).slot j).descriptor = (s.slot j).descriptor
      ∧ ((forSockets l (switchOn k) s).slot j).status = (s.slot j).status
      ∧ ((forSockets l (switchOn k) s).slot j).active = (s.slot j).active
      ∧ ((forSockets l (switchOn k) s).slot j).staged = (s.slot j).staged
      ∧ ((forSockets l (switchOn k) s).slot j).railTrip = (s.slot j).railTrip
      ∧ ((forSockets l (switchOn k) s).slot j).burstDone = (s.slot j).burstDone
      ∧ ((forSockets l (switchOn k) s).slot j).applyDone = (s.slot j).applyDone
      ∧ ((forSockets l (switchOn k) s).slot j).abandoned = (s.slot j).abandoned
      ∧ ((forSockets l (switchOn k) s).slot j).applyDeferred = (s.slot j).applyDeferred
      ∧ ((forSockets l (switchOn k) s).slot j).vcore = (s.slot j).vcore
      ∧ ((forSockets l (switchOn k) s).slot j).vio = (s.slot j).vio
      ∧ ((forSockets l (switchOn k) s).slot j).ramp = (s.slot j).ramp
      ∧ ((forSockets l (switchOn k) s).slot j).dwell = (s.slot j).dwell
      ∧ ((forSockets l (switchOn k) s).slot j).drain = (s.slot j).drain
      ∧ ((forSockets l (switchOn k) s).slot j).drainLimit = (s.slot j).drainLimit
      ∧ ((forSockets l (switchOn k) s).slot j).identLimit = (s.slot j).identLimit := by
  exact forSockets_slotFields _ _ _ _ (fun i u => by simp)

@[simp] theorem forSockets_lowerLimit_loop_frame (k : Slot) (n : Nat) (l : List Socket) (s : State) :
    (forSockets l (lowerLimit k n) s).part = s.part ∧ (forSockets l (lowerLimit k n) s).lines = s.lines
      ∧ (forSockets l (lowerLimit k n) s).scan = s.scan ∧ (forSockets l (lowerLimit k n) s).store = s.store
      ∧ (forSockets l (lowerLimit k n) s).chan = s.chan ∧ (forSockets l (lowerLimit k n) s).zone = s.zone
      ∧ (forSockets l (lowerLimit k n) s).clock = s.clock ∧ (forSockets l (lowerLimit k n) s).ret = s.ret
      ∧ (forSockets l (lowerLimit k n) s).link = s.link ∧ (forSockets l (lowerLimit k n) s).races = s.races
      ∧ (forSockets l (lowerLimit k n) s).pending = s.pending
      ∧ (∀ j, (forSockets l (lowerLimit k n) s).scanner j = s.scanner j)
      ∧ (∀ j, (forSockets l (lowerLimit k n) s).channel j = s.channel j)
      ∧ (∀ j, (forSockets l (lowerLimit k n) s).throttle j = s.throttle j)
      ∧ (forSockets l (lowerLimit k n) s).acct.accel = s.acct.accel
      ∧ (forSockets l (lowerLimit k n) s).acct.wEx = s.acct.wEx
      ∧ (forSockets l (lowerLimit k n) s).acct.wSt = s.acct.wSt
      ∧ (forSockets l (lowerLimit k n) s).acct.interval = s.acct.interval
      ∧ (forSockets l (lowerLimit k n) s).acct.counts = s.acct.counts
      ∧ (forSockets l (lowerLimit k n) s).acct.holdover = s.acct.holdover
      ∧ (forSockets l (lowerLimit k n) s).acct.snapshot = s.acct.snapshot
      ∧ (∀ j, ((forSockets l (lowerLimit k n) s).acct.sets.get j).tag = (s.acct.sets.get j).tag)
      ∧ (forSockets l (lowerLimit k n) s).alert.inService = s.alert.inService
      ∧ (forSockets l (lowerLimit k n) s).alert.mask = s.alert.mask
      ∧ (forSockets l (lowerLimit k n) s).alert.priority = s.alert.priority
      ∧ (forSockets l (lowerLimit k n) s).alert.base = s.alert.base
      ∧ (forSockets l (lowerLimit k n) s).alert.delivery = s.alert.delivery
      ∧ (forSockets l (lowerLimit k n) s).log.epoch = s.log.epoch := by
  exact forSockets_frame _ _ _ (fun i u => by simp)

@[simp] theorem forSockets_lowerLimit_loop_slotFields (k : Slot) (n : Nat) (l : List Socket) (s : State) (j : Slot) :
    ((forSockets l (lowerLimit k n) s).slot j).board = (s.slot j).board
      ∧ ((forSockets l (lowerLimit k n) s).slot j).identity = (s.slot j).identity
      ∧ ((forSockets l (lowerLimit k n) s).slot j).descriptor = (s.slot j).descriptor
      ∧ ((forSockets l (lowerLimit k n) s).slot j).status = (s.slot j).status
      ∧ ((forSockets l (lowerLimit k n) s).slot j).active = (s.slot j).active
      ∧ ((forSockets l (lowerLimit k n) s).slot j).staged = (s.slot j).staged
      ∧ ((forSockets l (lowerLimit k n) s).slot j).railTrip = (s.slot j).railTrip
      ∧ ((forSockets l (lowerLimit k n) s).slot j).burstDone = (s.slot j).burstDone
      ∧ ((forSockets l (lowerLimit k n) s).slot j).applyDone = (s.slot j).applyDone
      ∧ ((forSockets l (lowerLimit k n) s).slot j).abandoned = (s.slot j).abandoned
      ∧ ((forSockets l (lowerLimit k n) s).slot j).applyDeferred = (s.slot j).applyDeferred
      ∧ ((forSockets l (lowerLimit k n) s).slot j).vcore = (s.slot j).vcore
      ∧ ((forSockets l (lowerLimit k n) s).slot j).vio = (s.slot j).vio
      ∧ ((forSockets l (lowerLimit k n) s).slot j).ramp = (s.slot j).ramp
      ∧ ((forSockets l (lowerLimit k n) s).slot j).dwell = (s.slot j).dwell
      ∧ ((forSockets l (lowerLimit k n) s).slot j).drain = (s.slot j).drain
      ∧ ((forSockets l (lowerLimit k n) s).slot j).drainLimit = (s.slot j).drainLimit
      ∧ ((forSockets l (lowerLimit k n) s).slot j).identLimit = (s.slot j).identLimit := by
  exact forSockets_slotFields _ _ _ _ (fun i u => by simp)

@[simp] theorem forSockets_dropFailed_loop_frame (k : Slot) (l : List Socket) (s : State) :
    (forSockets l (dropFailed k) s).part = s.part ∧ (forSockets l (dropFailed k) s).lines = s.lines
      ∧ (forSockets l (dropFailed k) s).scan = s.scan ∧ (forSockets l (dropFailed k) s).store = s.store
      ∧ (forSockets l (dropFailed k) s).chan = s.chan ∧ (forSockets l (dropFailed k) s).zone = s.zone
      ∧ (forSockets l (dropFailed k) s).clock = s.clock ∧ (forSockets l (dropFailed k) s).ret = s.ret
      ∧ (forSockets l (dropFailed k) s).link = s.link ∧ (forSockets l (dropFailed k) s).races = s.races
      ∧ (forSockets l (dropFailed k) s).pending = s.pending
      ∧ (∀ j, (forSockets l (dropFailed k) s).scanner j = s.scanner j)
      ∧ (∀ j, (forSockets l (dropFailed k) s).channel j = s.channel j)
      ∧ (∀ j, (forSockets l (dropFailed k) s).throttle j = s.throttle j)
      ∧ (forSockets l (dropFailed k) s).acct.accel = s.acct.accel
      ∧ (forSockets l (dropFailed k) s).acct.wEx = s.acct.wEx
      ∧ (forSockets l (dropFailed k) s).acct.wSt = s.acct.wSt
      ∧ (forSockets l (dropFailed k) s).acct.interval = s.acct.interval
      ∧ (forSockets l (dropFailed k) s).acct.counts = s.acct.counts
      ∧ (forSockets l (dropFailed k) s).acct.holdover = s.acct.holdover
      ∧ (forSockets l (dropFailed k) s).acct.snapshot = s.acct.snapshot
      ∧ (∀ j, ((forSockets l (dropFailed k) s).acct.sets.get j).tag = (s.acct.sets.get j).tag)
      ∧ (forSockets l (dropFailed k) s).alert.inService = s.alert.inService
      ∧ (forSockets l (dropFailed k) s).alert.mask = s.alert.mask
      ∧ (forSockets l (dropFailed k) s).alert.priority = s.alert.priority
      ∧ (forSockets l (dropFailed k) s).alert.base = s.alert.base
      ∧ (forSockets l (dropFailed k) s).alert.delivery = s.alert.delivery
      ∧ (forSockets l (dropFailed k) s).log.epoch = s.log.epoch := by
  exact forSockets_frame _ _ _ (fun i u => by simp)

@[simp] theorem forSockets_dropFailed_loop_slotFields (k : Slot) (l : List Socket) (s : State) (j : Slot) :
    ((forSockets l (dropFailed k) s).slot j).board = (s.slot j).board
      ∧ ((forSockets l (dropFailed k) s).slot j).identity = (s.slot j).identity
      ∧ ((forSockets l (dropFailed k) s).slot j).descriptor = (s.slot j).descriptor
      ∧ ((forSockets l (dropFailed k) s).slot j).status = (s.slot j).status
      ∧ ((forSockets l (dropFailed k) s).slot j).active = (s.slot j).active
      ∧ ((forSockets l (dropFailed k) s).slot j).staged = (s.slot j).staged
      ∧ ((forSockets l (dropFailed k) s).slot j).railTrip = (s.slot j).railTrip
      ∧ ((forSockets l (dropFailed k) s).slot j).burstDone = (s.slot j).burstDone
      ∧ ((forSockets l (dropFailed k) s).slot j).applyDone = (s.slot j).applyDone
      ∧ ((forSockets l (dropFailed k) s).slot j).abandoned = (s.slot j).abandoned
      ∧ ((forSockets l (dropFailed k) s).slot j).applyDeferred = (s.slot j).applyDeferred
      ∧ ((forSockets l (dropFailed k) s).slot j).vcore = (s.slot j).vcore
      ∧ ((forSockets l (dropFailed k) s).slot j).vio = (s.slot j).vio
      ∧ ((forSockets l (dropFailed k) s).slot j).ramp = (s.slot j).ramp
      ∧ ((forSockets l (dropFailed k) s).slot j).dwell = (s.slot j).dwell
      ∧ ((forSockets l (dropFailed k) s).slot j).drain = (s.slot j).drain
      ∧ ((forSockets l (dropFailed k) s).slot j).drainLimit = (s.slot j).drainLimit
      ∧ ((forSockets l (dropFailed k) s).slot j).identLimit = (s.slot j).identLimit := by
  exact forSockets_slotFields _ _ _ _ (fun i u => by simp)

theorem stepSockets_nodup (n : Nat) (h : n < 8) : (stepSockets n).Nodup := by
  have : ∀ n : Fin 8, (stepSockets n.val).Nodup := by decide
  exact this ⟨n, h⟩

/-- R24: the sockets of inrush step `n`. -/
theorem mem_stepSockets (n : Nat) (h : n < 8) (i : Socket) : i ∈ stepSockets n ↔ i.val / 4 = n := by
  have : ∀ (n : Fin 8) (i : Socket), i ∈ stepSockets n.val ↔ i.val / 4 = n.val := by decide
  exact this ⟨n, h⟩ i

end Sys2Proof.Machine
end

