-- ==== Sys2Proof/Laws/Families.lean ====
section
/-!
SUPPORT. The operations of the families: for each, the parts of the state it leaves (`_frame`), and that it
touches one slot alone (`_slotFrame`).
-/

namespace Sys2Proof.Machine

open Safety

/-! ## Rails -/

@[simp] theorem startRail_frame (k : Slot) (r : Rail) (s : State) :
    (startRail k r s).part = s.part ∧ (startRail k r s).lines = s.lines ∧ (startRail k r s).scan = s.scan
      ∧ (startRail k r s).store = s.store ∧ (startRail k r s).chan = s.chan ∧ (startRail k r s).cmp = s.cmp
      ∧ (startRail k r s).zone = s.zone ∧ (startRail k r s).acct = s.acct ∧ (startRail k r s).log = s.log
      ∧ (startRail k r s).alert = s.alert ∧ (startRail k r s).clock = s.clock
      ∧ (startRail k r s).ret = s.ret ∧ (startRail k r s).link = s.link ∧ (startRail k r s).races = s.races
      ∧ (startRail k r s).pending = s.pending ∧ (∀ j, (startRail k r s).scanner j = s.scanner j)
      ∧ (∀ j, (startRail k r s).channel j = s.channel j) ∧ (∀ j, (startRail k r s).compare j = s.compare j)
      ∧ (∀ j, (startRail k r s).throttle j = s.throttle j)
      ∧ (∀ j n, (startRail k r s).record j n = s.record j n) := by
  simp [startRail]

theorem startRail_slotFrame (k : Slot) (r : Rail) (s : State) :
    SlotFrame k s (startRail k r s) := by
  exact State.setSlot_slotFrame _ _ _

@[simp] theorem startRamp_frame (k : Slot) (s : State) :
    (startRamp k s).part = s.part ∧ (startRamp k s).lines = s.lines ∧ (startRamp k s).scan = s.scan
      ∧ (startRamp k s).store = s.store ∧ (startRamp k s).chan = s.chan ∧ (startRamp k s).cmp = s.cmp
      ∧ (startRamp k s).zone = s.zone ∧ (startRamp k s).acct = s.acct ∧ (startRamp k s).log = s.log
      ∧ (startRamp k s).alert = s.alert ∧ (startRamp k s).clock = s.clock ∧ (startRamp k s).ret = s.ret
      ∧ (startRamp k s).link = s.link ∧ (startRamp k s).races = s.races
      ∧ (startRamp k s).pending = s.pending ∧ (∀ j, (startRamp k s).scanner j = s.scanner j)
      ∧ (∀ j, (startRamp k s).channel j = s.channel j) ∧ (∀ j, (startRamp k s).compare j = s.compare j)
      ∧ (∀ j, (startRamp k s).throttle j = s.throttle j)
      ∧ (∀ j n, (startRamp k s).record j n = s.record j n) := by
  simp [startRamp]

theorem startRamp_slotFrame (k : Slot) (s : State) :
    SlotFrame k s (startRamp k s) := by
  exact (State.setSlot_slotFrame _ _ _).trans (startRail_slotFrame _ _ _)

@[simp] theorem startStep_frame (k : Slot) (n : Nat) (s : State) :
    (startStep k n s).part = s.part ∧ (startStep k n s).lines = s.lines ∧ (startStep k n s).scan = s.scan
      ∧ (startStep k n s).store = s.store ∧ (startStep k n s).chan = s.chan
      ∧ (startStep k n s).zone = s.zone ∧ (startStep k n s).clock = s.clock ∧ (startStep k n s).ret = s.ret
      ∧ (startStep k n s).link = s.link ∧ (startStep k n s).races = s.races
      ∧ (startStep k n s).pending = s.pending ∧ (∀ j, (startStep k n s).scanner j = s.scanner j)
      ∧ (∀ j, (startStep k n s).channel j = s.channel j)
      ∧ (∀ j, (startStep k n s).throttle j = s.throttle j) ∧ (startStep k n s).acct.accel = s.acct.accel
      ∧ (startStep k n s).acct.wEx = s.acct.wEx ∧ (startStep k n s).acct.wSt = s.acct.wSt
      ∧ (startStep k n s).acct.interval = s.acct.interval ∧ (startStep k n s).acct.counts = s.acct.counts
      ∧ (startStep k n s).acct.holdover = s.acct.holdover
      ∧ (startStep k n s).acct.snapshot = s.acct.snapshot
      ∧ (∀ j, ((startStep k n s).acct.sets.get j).tag = (s.acct.sets.get j).tag)
      ∧ (startStep k n s).alert.inService = s.alert.inService ∧ (startStep k n s).alert.mask = s.alert.mask
      ∧ (startStep k n s).alert.priority = s.alert.priority ∧ (startStep k n s).alert.base = s.alert.base
      ∧ (startStep k n s).alert.delivery = s.alert.delivery ∧ (startStep k n s).log.epoch = s.log.epoch := by
  simp [startStep]

theorem startStep_slotFrame (k : Slot) (n : Nat) (s : State) :
    SlotFrame k s (startStep k n s) := by
  exact (State.setSlot_slotFrame _ _ _).trans
    (forSockets_slotFrame _ (fun i u => switchOn_slotFrame _ _ _) _ _)

@[simp] theorem enterPowered_frame (k : Slot) (s : State) :
    (enterPowered k s).part = s.part ∧ (enterPowered k s).lines = s.lines ∧ (enterPowered k s).scan = s.scan
      ∧ (enterPowered k s).store = s.store ∧ (enterPowered k s).chan = s.chan
      ∧ (enterPowered k s).zone = s.zone ∧ (enterPowered k s).clock = s.clock
      ∧ (enterPowered k s).ret = s.ret ∧ (enterPowered k s).link = s.link
      ∧ (enterPowered k s).races = s.races ∧ (enterPowered k s).pending = s.pending
      ∧ (∀ j, (enterPowered k s).scanner j = s.scanner j)
      ∧ (∀ j, (enterPowered k s).channel j = s.channel j)
      ∧ (∀ j, (enterPowered k s).throttle j = s.throttle j) ∧ (enterPowered k s).acct.accel = s.acct.accel
      ∧ (enterPowered k s).acct.wEx = s.acct.wEx ∧ (enterPowered k s).acct.wSt = s.acct.wSt
      ∧ (enterPowered k s).acct.interval = s.acct.interval ∧ (enterPowered k s).acct.counts = s.acct.counts
      ∧ (enterPowered k s).acct.holdover = s.acct.holdover
      ∧ (enterPowered k s).acct.snapshot = s.acct.snapshot
      ∧ (∀ j, ((enterPowered k s).acct.sets.get j).tag = (s.acct.sets.get j).tag)
      ∧ (enterPowered k s).alert.inService = s.alert.inService
      ∧ (enterPowered k s).alert.mask = s.alert.mask ∧ (enterPowered k s).alert.priority = s.alert.priority
      ∧ (enterPowered k s).alert.base = s.alert.base ∧ (enterPowered k s).alert.delivery = s.alert.delivery
      ∧ (enterPowered k s).log.epoch = s.log.epoch := by
  simp [enterPowered]

theorem enterPowered_slotFrame (k : Slot) (s : State) :
    SlotFrame k s (enterPowered k s) := by
  exact (State.setSlot_slotFrame _ _ _).trans
    (forSockets_slotFrame _ (fun i u => switchOn_slotFrame _ _ _) _ _)

/-- R23: what a rail becoming HELD can start. -/
theorem rampAdvance_cases (k : Slot) (s : State) :
    rampAdvance k s = s
      ∨ (∃ m, (s.slot k).ramp = some m ∧ m.stage = .first ∧ (m.order.first.of (s.slot k)).cond = .held
        ∧ rampAdvance k s
          = startRail k m.order.first.other (s.setSlot k { s.slot k with ramp := some { m with stage := .second } }))
      ∨ (∃ m, (s.slot k).ramp = some m ∧ m.stage = .second ∧ (s.slot k).vcore.cond = .held
        ∧ (s.slot k).vio.cond = .held ∧ rampAdvance k s = startStep k 0 s) := by
  unfold rampAdvance
  dsimp only
  split
  · exact Or.inl rfl
  · next m hm =>
    split
    · next hs =>
      split
      · next h => exact Or.inr (Or.inl ⟨m, hm, hs, h, rfl⟩)
      · exact Or.inl rfl
    · next hs =>
      split
      · next h => exact Or.inr (Or.inr ⟨m, hm, hs, h.1, h.2, rfl⟩)
      · exact Or.inl rfl
    · exact Or.inl rfl

@[simp] theorem rampAdvance_frame (k : Slot) (s : State) :
    (rampAdvance k s).part = s.part ∧ (rampAdvance k s).lines = s.lines ∧ (rampAdvance k s).scan = s.scan
      ∧ (rampAdvance k s).store = s.store ∧ (rampAdvance k s).chan = s.chan
      ∧ (rampAdvance k s).zone = s.zone ∧ (rampAdvance k s).clock = s.clock ∧ (rampAdvance k s).ret = s.ret
      ∧ (rampAdvance k s).link = s.link ∧ (rampAdvance k s).races = s.races
      ∧ (rampAdvance k s).pending = s.pending ∧ (∀ j, (rampAdvance k s).scanner j = s.scanner j)
      ∧ (∀ j, (rampAdvance k s).channel j = s.channel j)
      ∧ (∀ j, (rampAdvance k s).throttle j = s.throttle j) ∧ (rampAdvance k s).acct.accel = s.acct.accel
      ∧ (rampAdvance k s).acct.wEx = s.acct.wEx ∧ (rampAdvance k s).acct.wSt = s.acct.wSt
      ∧ (rampAdvance k s).acct.interval = s.acct.interval ∧ (rampAdvance k s).acct.counts = s.acct.counts
      ∧ (rampAdvance k s).acct.holdover = s.acct.holdover
      ∧ (rampAdvance k s).acct.snapshot = s.acct.snapshot
      ∧ (∀ j, ((rampAdvance k s).acct.sets.get j).tag = (s.acct.sets.get j).tag)
      ∧ (rampAdvance k s).alert.inService = s.alert.inService ∧ (rampAdvance k s).alert.mask = s.alert.mask
      ∧ (rampAdvance k s).alert.priority = s.alert.priority ∧ (rampAdvance k s).alert.base = s.alert.base
      ∧ (rampAdvance k s).alert.delivery = s.alert.delivery ∧ (rampAdvance k s).log.epoch = s.log.epoch := by
  obtain e | ⟨m, _, _, _, e⟩ | ⟨m, _, _, _, _, e⟩ := rampAdvance_cases k s <;> rw [e] <;> simp

theorem rampAdvance_slotFrame (k : Slot) (s : State) :
    SlotFrame k s (rampAdvance k s) := by
  obtain e | ⟨m, _, _, _, e⟩ | ⟨m, _, _, _, _, e⟩ := rampAdvance_cases k s <;> rw [e]
  · exact SlotFrame.refl _ _
  · exact (State.setSlot_slotFrame _ _ _).trans (startRail_slotFrame _ _ _)
  · exact startStep_slotFrame _ _ _

/-- R21: what an in-window sample can do. -/
theorem settleCheck_cases (k : Slot) (r : Rail) (inside : Bool) (s : State) :
    (¬ ((r.of (s.slot k)).cond = .settling ∧ (r.of (s.slot k)).command = (r.of (s.slot k)).target ∧ inside = true)
        ∧ settleCheck k r inside s = s)
      ∨ (((r.of (s.slot k)).cond = .settling ∧ (r.of (s.slot k)).command = (r.of (s.slot k)).target ∧ inside = true)
        ∧ settleCheck k r inside s = rampAdvance k (s.setSlot k ((s.slot k).setRail r
          { r.of (s.slot k) with cond := .held, settle := none, windowMiss := 0 }))) := by
  unfold settleCheck
  by_cases h : (r.of (s.slot k)).cond = .settling ∧ (r.of (s.slot k)).command = (r.of (s.slot k)).target
      ∧ inside = true
  · exact Or.inr ⟨h, if_pos h⟩
  · exact Or.inl ⟨h, if_neg h⟩

@[simp] theorem settleCheck_frame (k : Slot) (r : Rail) (b : Bool) (s : State) :
    (settleCheck k r b s).part = s.part ∧ (settleCheck k r b s).lines = s.lines
      ∧ (settleCheck k r b s).scan = s.scan ∧ (settleCheck k r b s).store = s.store
      ∧ (settleCheck k r b s).chan = s.chan ∧ (settleCheck k r b s).zone = s.zone
      ∧ (settleCheck k r b s).clock = s.clock ∧ (settleCheck k r b s).ret = s.ret
      ∧ (settleCheck k r b s).link = s.link ∧ (settleCheck k r b s).races = s.races
      ∧ (settleCheck k r b s).pending = s.pending ∧ (∀ j, (settleCheck k r b s).scanner j = s.scanner j)
      ∧ (∀ j, (settleCheck k r b s).channel j = s.channel j)
      ∧ (∀ j, (settleCheck k r b s).throttle j = s.throttle j)
      ∧ (settleCheck k r b s).acct.accel = s.acct.accel ∧ (settleCheck k r b s).acct.wEx = s.acct.wEx
      ∧ (settleCheck k r b s).acct.wSt = s.acct.wSt ∧ (settleCheck k r b s).acct.interval = s.acct.interval
      ∧ (settleCheck k r b s).acct.counts = s.acct.counts
      ∧ (settleCheck k r b s).acct.holdover = s.acct.holdover
      ∧ (settleCheck k r b s).acct.snapshot = s.acct.snapshot
      ∧ (∀ j, ((settleCheck k r b s).acct.sets.get j).tag = (s.acct.sets.get j).tag)
      ∧ (settleCheck k r b s).alert.inService = s.alert.inService
      ∧ (settleCheck k r b s).alert.mask = s.alert.mask
      ∧ (settleCheck k r b s).alert.priority = s.alert.priority
      ∧ (settleCheck k r b s).alert.base = s.alert.base
      ∧ (settleCheck k r b s).alert.delivery = s.alert.delivery
      ∧ (settleCheck k r b s).log.epoch = s.log.epoch := by
  obtain ⟨_, e⟩ | ⟨_, e⟩ := settleCheck_cases k r b s <;> rw [e] <;> simp

theorem settleCheck_slotFrame (k : Slot) (r : Rail) (b : Bool) (s : State) :
    SlotFrame k s (settleCheck k r b s) := by
  obtain ⟨_, e⟩ | ⟨_, e⟩ := settleCheck_cases k r b s <;> rw [e]
  · exact SlotFrame.refl _ _
  · exact (State.setSlot_slotFrame _ _ _).trans (rampAdvance_slotFrame _ _)

/-- R26: a trip by the counts of a sample. -/
theorem tripByCounts_cases (k : Slot) (r : Rail) (high under : Bool) (s : State) :
    (high = false ∧ under = false ∧ tripByCounts k r high under s = s)
      ∨ ∃ c n, ((c = .overcurrent ∧ high = true) ∨ (c = .undervoltage ∧ under = true))
        ∧ tripByCounts k r high under s = tripBoard k r c { s with races := n } := by
  cases high <;> cases under
  · exact Or.inl ⟨rfl, rfl, rfl⟩
  · exact Or.inr ⟨.undervoltage, s.races, Or.inr ⟨rfl, rfl⟩, rfl⟩
  · exact Or.inr ⟨.overcurrent, s.races, Or.inl ⟨rfl, rfl⟩, rfl⟩
  · right
    cases h : Config.raceFirst s.races
    · exact ⟨.overcurrent, s.races + 1, Or.inl ⟨rfl, rfl⟩, by simp [tripByCounts, h]⟩
    · exact ⟨.undervoltage, s.races + 1, Or.inr ⟨rfl, rfl⟩, by simp [tripByCounts, h]⟩

@[simp] theorem tripByCounts_frame (k : Slot) (r : Rail) (a b : Bool) (s : State) :
    (tripByCounts k r a b s).part = s.part ∧ (tripByCounts k r a b s).lines = s.lines
      ∧ (tripByCounts k r a b s).store = s.store ∧ (tripByCounts k r a b s).clock = s.clock
      ∧ (tripByCounts k r a b s).ret = s.ret ∧ (tripByCounts k r a b s).link = s.link
      ∧ (tripByCounts k r a b s).pending = s.pending ∧ (tripByCounts k r a b s).acct.accel = s.acct.accel
      ∧ (tripByCounts k r a b s).acct.wEx = s.acct.wEx ∧ (tripByCounts k r a b s).acct.wSt = s.acct.wSt
      ∧ (tripByCounts k r a b s).acct.interval = s.acct.interval
      ∧ (tripByCounts k r a b s).acct.counts = s.acct.counts
      ∧ (tripByCounts k r a b s).acct.holdover = s.acct.holdover
      ∧ (tripByCounts k r a b s).acct.snapshot = s.acct.snapshot
      ∧ (∀ j, ((tripByCounts k r a b s).acct.sets.get j).tag = (s.acct.sets.get j).tag)
      ∧ (tripByCounts k r a b s).alert.inService = s.alert.inService
      ∧ (tripByCounts k r a b s).alert.mask = s.alert.mask
      ∧ (tripByCounts k r a b s).alert.priority = s.alert.priority
      ∧ (tripByCounts k r a b s).alert.base = s.alert.base
      ∧ (tripByCounts k r a b s).alert.delivery = s.alert.delivery
      ∧ (tripByCounts k r a b s).log.epoch = s.log.epoch := by
  obtain ⟨_, _, e⟩ | ⟨c, n, _, e⟩ := tripByCounts_cases k r a b s <;> rw [e] <;> simp

theorem tripByCounts_slotFrame (k : Slot) (r : Rail) (a b : Bool) (s : State) :
    SlotFrame k s (tripByCounts k r a b s) := by
  obtain ⟨_, _, e⟩ | ⟨c, n, _, e⟩ := tripByCounts_cases k r a b s <;> rw [e]
  · exact SlotFrame.refl _ _
  · exact (races_slotFrame _ _ _).trans (tripBoard_slotFrame _ _ _ _)

@[simp] theorem checkRail_frame (k : Slot) (r : Rail) (v c : Nat) (s : State) :
    (checkRail k r v c s).part = s.part ∧ (checkRail k r v c s).lines = s.lines
      ∧ (checkRail k r v c s).store = s.store ∧ (checkRail k r v c s).clock = s.clock
      ∧ (checkRail k r v c s).ret = s.ret ∧ (checkRail k r v c s).link = s.link
      ∧ (checkRail k r v c s).pending = s.pending ∧ (checkRail k r v c s).acct.accel = s.acct.accel
      ∧ (checkRail k r v c s).acct.wEx = s.acct.wEx ∧ (checkRail k r v c s).acct.wSt = s.acct.wSt
      ∧ (checkRail k r v c s).acct.interval = s.acct.interval
      ∧ (checkRail k r v c s).acct.counts = s.acct.counts
      ∧ (checkRail k r v c s).acct.holdover = s.acct.holdover
      ∧ (checkRail k r v c s).acct.snapshot = s.acct.snapshot
      ∧ (∀ j, ((checkRail k r v c s).acct.sets.get j).tag = (s.acct.sets.get j).tag)
      ∧ (checkRail k r v c s).alert.inService = s.alert.inService
      ∧ (checkRail k r v c s).alert.mask = s.alert.mask
      ∧ (checkRail k r v c s).alert.priority = s.alert.priority
      ∧ (checkRail k r v c s).alert.base = s.alert.base
      ∧ (checkRail k r v c s).alert.delivery = s.alert.delivery
      ∧ (checkRail k r v c s).log.epoch = s.log.epoch := by
  unfold checkRail
  dsimp only
  split <;> simp

theorem checkRail_slotFrame (k : Slot) (r : Rail) (v c : Nat) (s : State) :
    SlotFrame k s (checkRail k r v c s) := by
  unfold checkRail
  dsimp only
  split
  · exact (State.setSlot_slotFrame _ _ _).trans (tripByCounts_slotFrame _ _ _ _ _)
  · exact (State.setSlot_slotFrame _ _ _).trans (settleCheck_slotFrame _ _ _ _)

@[simp] theorem beginLowering_frame (k : Slot) (r : Rail) (b : Bool) (s : State) :
    (beginLowering k r b s).part = s.part ∧ (beginLowering k r b s).lines = s.lines
      ∧ (beginLowering k r b s).scan = s.scan ∧ (beginLowering k r b s).store = s.store
      ∧ (beginLowering k r b s).chan = s.chan ∧ (beginLowering k r b s).cmp = s.cmp
      ∧ (beginLowering k r b s).zone = s.zone ∧ (beginLowering k r b s).acct = s.acct
      ∧ (beginLowering k r b s).log = s.log ∧ (beginLowering k r b s).alert = s.alert
      ∧ (beginLowering k r b s).clock = s.clock ∧ (beginLowering k r b s).ret = s.ret
      ∧ (beginLowering k r b s).link = s.link ∧ (beginLowering k r b s).races = s.races
      ∧ (beginLowering k r b s).pending = s.pending ∧ (∀ j, (beginLowering k r b s).scanner j = s.scanner j)
      ∧ (∀ j, (beginLowering k r b s).channel j = s.channel j)
      ∧ (∀ j, (beginLowering k r b s).compare j = s.compare j)
      ∧ (∀ j, (beginLowering k r b s).throttle j = s.throttle j)
      ∧ (∀ j n, (beginLowering k r b s).record j n = s.record j n) := by
  simp [beginLowering]

theorem beginLowering_slotFrame (k : Slot) (r : Rail) (b : Bool) (s : State) :
    SlotFrame k s (beginLowering k r b s) := by
  exact State.setSlot_slotFrame _ _ _

@[simp] theorem railDone_frame (k : Slot) (d : Drain) (s : State) :
    (railDone k d s).part = s.part ∧ (railDone k d s).lines = s.lines ∧ (railDone k d s).scan = s.scan
      ∧ (railDone k d s).store = s.store ∧ (railDone k d s).chan = s.chan ∧ (railDone k d s).cmp = s.cmp
      ∧ (railDone k d s).zone = s.zone ∧ (railDone k d s).acct = s.acct ∧ (railDone k d s).log = s.log
      ∧ (railDone k d s).alert = s.alert ∧ (railDone k d s).clock = s.clock ∧ (railDone k d s).ret = s.ret
      ∧ (railDone k d s).link = s.link ∧ (railDone k d s).races = s.races
      ∧ (railDone k d s).pending = s.pending ∧ (∀ j, (railDone k d s).scanner j = s.scanner j)
      ∧ (∀ j, (railDone k d s).channel j = s.channel j) ∧ (∀ j, (railDone k d s).compare j = s.compare j)
      ∧ (∀ j, (railDone k d s).throttle j = s.throttle j)
      ∧ (∀ j n, (railDone k d s).record j n = s.record j n) := by
  unfold railDone
  dsimp only
  split <;> simp

theorem railDone_slotFrame (k : Slot) (d : Drain) (s : State) :
    SlotFrame k s (railDone k d s) := by
  unfold railDone
  dsimp only
  split
  · exact (State.setSlot_slotFrame _ _ _).trans (State.setSlot_slotFrame _ _ _)
  · exact (State.setSlot_slotFrame _ _ _).trans (beginLowering_slotFrame _ _ _ _)

@[simp] theorem drainSample_frame (k : Slot) (r : Rail) (v : Nat) (s : State) :
    (drainSample k r v s).part = s.part ∧ (drainSample k r v s).lines = s.lines
      ∧ (drainSample k r v s).scan = s.scan ∧ (drainSample k r v s).store = s.store
      ∧ (drainSample k r v s).chan = s.chan ∧ (drainSample k r v s).cmp = s.cmp
      ∧ (drainSample k r v s).zone = s.zone ∧ (drainSample k r v s).acct = s.acct
      ∧ (drainSample k r v s).log = s.log ∧ (drainSample k r v s).alert = s.alert
      ∧ (drainSample k r v s).clock = s.clock ∧ (drainSample k r v s).ret = s.ret
      ∧ (drainSample k r v s).link = s.link ∧ (drainSample k r v s).races = s.races
      ∧ (drainSample k r v s).pending = s.pending ∧ (∀ j, (drainSample k r v s).scanner j = s.scanner j)
      ∧ (∀ j, (drainSample k r v s).channel j = s.channel j)
      ∧ (∀ j, (drainSample k r v s).compare j = s.compare j)
      ∧ (∀ j, (drainSample k r v s).throttle j = s.throttle j)
      ∧ (∀ j n, (drainSample k r v s).record j n = s.record j n) := by
  unfold drainSample
  split
  · split <;> simp
  · simp

theorem drainSample_slotFrame (k : Slot) (r : Rail) (v : Nat) (s : State) :
    SlotFrame k s (drainSample k r v s) := by
  unfold drainSample
  split
  · split
    · exact railDone_slotFrame _ _ _
    · exact SlotFrame.refl _ _
  · exact SlotFrame.refl _ _

@[simp] theorem startDrain_frame (k : Slot) (s : State) :
    (startDrain k s).part = s.part ∧ (startDrain k s).lines = s.lines ∧ (startDrain k s).store = s.store
      ∧ (startDrain k s).clock = s.clock ∧ (startDrain k s).ret = s.ret ∧ (startDrain k s).link = s.link
      ∧ (startDrain k s).races = s.races ∧ (startDrain k s).pending = s.pending
      ∧ (startDrain k s).acct.accel = s.acct.accel ∧ (startDrain k s).acct.wEx = s.acct.wEx
      ∧ (startDrain k s).acct.wSt = s.acct.wSt ∧ (startDrain k s).acct.interval = s.acct.interval
      ∧ (startDrain k s).acct.counts = s.acct.counts ∧ (startDrain k s).acct.holdover = s.acct.holdover
      ∧ (startDrain k s).acct.snapshot = s.acct.snapshot
      ∧ (∀ j, ((startDrain k s).acct.sets.get j).tag = (s.acct.sets.get j).tag)
      ∧ (startDrain k s).alert.inService = s.alert.inService ∧ (startDrain k s).alert.mask = s.alert.mask
      ∧ (startDrain k s).alert.priority = s.alert.priority ∧ (startDrain k s).alert.base = s.alert.base
      ∧ (startDrain k s).alert.delivery = s.alert.delivery ∧ (startDrain k s).log.epoch = s.log.epoch := by
  simp [startDrain]

theorem startDrain_slotFrame (k : Slot) (s : State) :
    SlotFrame k s (startDrain k s) := by
  exact (State.setSlot_slotFrame _ _ _).trans ((stopChannel_slotFrame _ _ _).trans
    ((State.setThrottle_slotFrame _ _ _).trans (beginLowering_slotFrame _ _ _ _)))

/-- R121, R25: of the zone, a drain changes the throttle state of its board alone. -/
theorem startDrain_zone (k : Slot) (s : State) :
    (startDrain k s).zone = { s.zone with throttle := s.zone.throttle.set k ⟨0, none, none⟩ } := by
  simp [startDrain, resetThrottle]

/-- R26: of the zone, a sample of a rail changes at most the throttle state of its board. -/
theorem tripBoard_zone (k : Slot) (r : Rail) (c : TripCause) (s : State) :
    (tripBoard k r c s).zone = { s.zone with throttle := (tripBoard k r c s).zone.throttle } :=
  (tripBoard_slotFrame k r c s).2.2.2.2.2.2.2.1

theorem railSample_cases (k : Slot) (r : Rail) (v c : Nat) (s : State) :
    (((s.slot k).board = .ramping ∨ (s.slot k).board = .powered) ∧ railSample k r v c s = checkRail k r v c s)
      ∨ ((s.slot k).board = .draining ∧ railSample k r v c s = drainSample k r v s)
      ∨ railSample k r v c s = s := by
  unfold railSample
  split
  · exact Or.inl ⟨Or.inl (by assumption), rfl⟩
  · exact Or.inl ⟨Or.inr (by assumption), rfl⟩
  · exact Or.inr (Or.inl ⟨by assumption, rfl⟩)
  all_goals exact Or.inr (Or.inr rfl)

@[simp] theorem railSample_frame (k : Slot) (r : Rail) (v c : Nat) (s : State) :
    (railSample k r v c s).part = s.part ∧ (railSample k r v c s).lines = s.lines
      ∧ (railSample k r v c s).store = s.store ∧ (railSample k r v c s).clock = s.clock
      ∧ (railSample k r v c s).ret = s.ret ∧ (railSample k r v c s).link = s.link
      ∧ (railSample k r v c s).pending = s.pending ∧ (railSample k r v c s).acct.accel = s.acct.accel
      ∧ (railSample k r v c s).acct.wEx = s.acct.wEx ∧ (railSample k r v c s).acct.wSt = s.acct.wSt
      ∧ (railSample k r v c s).acct.interval = s.acct.interval
      ∧ (railSample k r v c s).acct.counts = s.acct.counts
      ∧ (railSample k r v c s).acct.holdover = s.acct.holdover
      ∧ (railSample k r v c s).acct.snapshot = s.acct.snapshot
      ∧ (∀ j, ((railSample k r v c s).acct.sets.get j).tag = (s.acct.sets.get j).tag)
      ∧ (railSample k r v c s).alert.inService = s.alert.inService
      ∧ (railSample k r v c s).alert.mask = s.alert.mask
      ∧ (railSample k r v c s).alert.priority = s.alert.priority
      ∧ (railSample k r v c s).alert.base = s.alert.base
      ∧ (railSample k r v c s).alert.delivery = s.alert.delivery
      ∧ (railSample k r v c s).log.epoch = s.log.epoch := by
  obtain ⟨_, e⟩ | ⟨_, e⟩ | e := railSample_cases k r v c s <;> rw [e] <;> simp

theorem railSample_slotFrame (k : Slot) (r : Rail) (v c : Nat) (s : State) :
    SlotFrame k s (railSample k r v c s) := by
  obtain ⟨_, e⟩ | ⟨_, e⟩ | e := railSample_cases k r v c s <;> rw [e]
  · exact checkRail_slotFrame _ _ _ _ _
  · exact drainSample_slotFrame _ _ _ _
  · exact SlotFrame.refl _ _

/-! ## The profile record -/

/-- R102: what one profile verdict can do. -/
theorem judgeSocket_cases (k : Slot) (p : ProfileRecord) (i : Socket) (s : State) :
    judgeSocket k p i s = s
      ∨ ∃ c, judgeSocket k p i s = s.setCompare k c
        ∨ ∃ d, judgeSocket k p i s = reportFailure k i .currentProfile d (s.setCompare k c) := by
  unfold judgeSocket
  split
  · dsimp only
    split
    · split
      · exact Or.inr ⟨_, Or.inr ⟨_, rfl⟩⟩
      · exact Or.inr ⟨_, Or.inl rfl⟩
    · exact Or.inl rfl
  · exact Or.inl rfl

@[simp] theorem judgeSocket_frame (k : Slot) (p : ProfileRecord) (i : Socket) (s : State) :
    (judgeSocket k p i s).part = s.part ∧ (judgeSocket k p i s).lines = s.lines
      ∧ (judgeSocket k p i s).scan = s.scan ∧ (judgeSocket k p i s).store = s.store
      ∧ (judgeSocket k p i s).chan = s.chan ∧ (judgeSocket k p i s).zone = s.zone
      ∧ (judgeSocket k p i s).clock = s.clock ∧ (judgeSocket k p i s).ret = s.ret
      ∧ (judgeSocket k p i s).link = s.link ∧ (judgeSocket k p i s).races = s.races
      ∧ (judgeSocket k p i s).pending = s.pending ∧ (∀ j, (judgeSocket k p i s).scanner j = s.scanner j)
      ∧ (∀ j, (judgeSocket k p i s).channel j = s.channel j)
      ∧ (∀ j, (judgeSocket k p i s).throttle j = s.throttle j)
      ∧ (judgeSocket k p i s).acct.accel = s.acct.accel ∧ (judgeSocket k p i s).acct.wEx = s.acct.wEx
      ∧ (judgeSocket k p i s).acct.wSt = s.acct.wSt ∧ (judgeSocket k p i s).acct.interval = s.acct.interval
      ∧ (judgeSocket k p i s).acct.counts = s.acct.counts
      ∧ (judgeSocket k p i s).acct.holdover = s.acct.holdover
      ∧ (judgeSocket k p i s).acct.snapshot = s.acct.snapshot
      ∧ (∀ j, ((judgeSocket k p i s).acct.sets.get j).tag = (s.acct.sets.get j).tag)
      ∧ (judgeSocket k p i s).alert.inService = s.alert.inService
      ∧ (judgeSocket k p i s).alert.mask = s.alert.mask
      ∧ (judgeSocket k p i s).alert.priority = s.alert.priority
      ∧ (judgeSocket k p i s).alert.base = s.alert.base
      ∧ (judgeSocket k p i s).alert.delivery = s.alert.delivery
      ∧ (judgeSocket k p i s).log.epoch = s.log.epoch := by
  obtain e | ⟨c, e | ⟨d, e⟩⟩ := judgeSocket_cases k p i s <;> rw [e] <;> simp

@[simp] theorem judgeSocket_slotFields (k : Slot) (p : ProfileRecord) (i : Socket) (s : State) (j : Slot) :
    ((judgeSocket k p i s).slot j).board = (s.slot j).board
      ∧ ((judgeSocket k p i s).slot j).identity = (s.slot j).identity
      ∧ ((judgeSocket k p i s).slot j).descriptor = (s.slot j).descriptor
      ∧ ((judgeSocket k p i s).slot j).status = (s.slot j).status
      ∧ ((judgeSocket k p i s).slot j).active = (s.slot j).active
      ∧ ((judgeSocket k p i s).slot j).staged = (s.slot j).staged
      ∧ ((judgeSocket k p i s).slot j).railTrip = (s.slot j).railTrip
      ∧ ((judgeSocket k p i s).slot j).socketTrip = (s.slot j).socketTrip
      ∧ ((judgeSocket k p i s).slot j).burstDone = (s.slot j).burstDone
      ∧ ((judgeSocket k p i s).slot j).applyDone = (s.slot j).applyDone
      ∧ ((judgeSocket k p i s).slot j).abandoned = (s.slot j).abandoned
      ∧ ((judgeSocket k p i s).slot j).applyDeferred = (s.slot j).applyDeferred
      ∧ ((judgeSocket k p i s).slot j).vcore = (s.slot j).vcore
      ∧ ((judgeSocket k p i s).slot j).vio = (s.slot j).vio
      ∧ ((judgeSocket k p i s).slot j).ramp = (s.slot j).ramp
      ∧ ((judgeSocket k p i s).slot j).dwell = (s.slot j).dwell
      ∧ ((judgeSocket k p i s).slot j).drain = (s.slot j).drain
      ∧ ((judgeSocket k p i s).slot j).drainLimit = (s.slot j).drainLimit
      ∧ ((judgeSocket k p i s).slot j).identLimit = (s.slot j).identLimit := by
  obtain e | ⟨c, e | ⟨d, e⟩⟩ := judgeSocket_cases k p i s <;> rw [e] <;> simp

theorem judgeSocket_slotFrame (k : Slot) (p : ProfileRecord) (i : Socket) (s : State) :
    SlotFrame k s (judgeSocket k p i s) := by
  obtain e | ⟨c, e | ⟨d, e⟩⟩ := judgeSocket_cases k p i s <;> rw [e]
  · exact SlotFrame.refl _ _
  · exact State.setCompare_slotFrame _ _ _
  · exact (State.setCompare_slotFrame _ _ _).trans (reportFailure_slotFrame _ _ _ _ _)

@[simp] theorem profileVerdict_frame (k : Slot) (p : ProfileRecord) (s : State) :
    (profileVerdict k p s).part = s.part ∧ (profileVerdict k p s).lines = s.lines
      ∧ (profileVerdict k p s).scan = s.scan ∧ (profileVerdict k p s).store = s.store
      ∧ (profileVerdict k p s).chan = s.chan ∧ (profileVerdict k p s).zone = s.zone
      ∧ (profileVerdict k p s).clock = s.clock ∧ (profileVerdict k p s).ret = s.ret
      ∧ (profileVerdict k p s).link = s.link ∧ (profileVerdict k p s).races = s.races
      ∧ (profileVerdict k p s).pending = s.pending ∧ (∀ j, (profileVerdict k p s).scanner j = s.scanner j)
      ∧ (∀ j, (profileVerdict k p s).channel j = s.channel j)
      ∧ (∀ j, (profileVerdict k p s).throttle j = s.throttle j)
      ∧ (profileVerdict k p s).acct.accel = s.acct.accel ∧ (profileVerdict k p s).acct.wEx = s.acct.wEx
      ∧ (profileVerdict k p s).acct.wSt = s.acct.wSt
      ∧ (profileVerdict k p s).acct.interval = s.acct.interval
      ∧ (profileVerdict k p s).acct.counts = s.acct.counts
      ∧ (profileVerdict k p s).acct.holdover = s.acct.holdover
      ∧ (profileVerdict k p s).acct.snapshot = s.acct.snapshot
      ∧ (∀ j, ((profileVerdict k p s).acct.sets.get j).tag = (s.acct.sets.get j).tag)
      ∧ (profileVerdict k p s).alert.inService = s.alert.inService
      ∧ (profileVerdict k p s).alert.mask = s.alert.mask
      ∧ (profileVerdict k p s).alert.priority = s.alert.priority
      ∧ (profileVerdict k p s).alert.base = s.alert.base
      ∧ (profileVerdict k p s).alert.delivery = s.alert.delivery
      ∧ (profileVerdict k p s).log.epoch = s.log.epoch := by
  unfold profileVerdict
  split
  · simp
  · exact forSockets_frame _ _ _ (fun i u => by simp)

@[simp] theorem profileVerdict_slotFields (k : Slot) (p : ProfileRecord) (s : State) (j : Slot) :
    ((profileVerdict k p s).slot j).board = (s.slot j).board
      ∧ ((profileVerdict k p s).slot j).identity = (s.slot j).identity
      ∧ ((profileVerdict k p s).slot j).descriptor = (s.slot j).descriptor
      ∧ ((profileVerdict k p s).slot j).status = (s.slot j).status
      ∧ ((profileVerdict k p s).slot j).active = (s.slot j).active
      ∧ ((profileVerdict k p s).slot j).staged = (s.slot j).staged
      ∧ ((profileVerdict k p s).slot j).railTrip = (s.slot j).railTrip
      ∧ ((profileVerdict k p s).slot j).burstDone = (s.slot j).burstDone
      ∧ ((profileVerdict k p s).slot j).applyDone = (s.slot j).applyDone
      ∧ ((profileVerdict k p s).slot j).abandoned = (s.slot j).abandoned
      ∧ ((profileVerdict k p s).slot j).applyDeferred = (s.slot j).applyDeferred
      ∧ ((profileVerdict k p s).slot j).vcore = (s.slot j).vcore
      ∧ ((profileVerdict k p s).slot j).vio = (s.slot j).vio
      ∧ ((profileVerdict k p s).slot j).ramp = (s.slot j).ramp
      ∧ ((profileVerdict k p s).slot j).dwell = (s.slot j).dwell
      ∧ ((profileVerdict k p s).slot j).drain = (s.slot j).drain
      ∧ ((profileVerdict k p s).slot j).drainLimit = (s.slot j).drainLimit
      ∧ ((profileVerdict k p s).slot j).identLimit = (s.slot j).identLimit := by
  unfold profileVerdict
  split
  · simp
  · exact forSockets_slotFields _ _ _ _ (fun i u => by simp)

theorem profileVerdict_slotFrame (k : Slot) (p : ProfileRecord) (s : State) :
    SlotFrame k s (profileVerdict k p s) := by
  unfold profileVerdict
  split
  · exact SlotFrame.refl _ _
  · exact forSockets_slotFrame _ (fun i u => judgeSocket_slotFrame _ _ _ _) _ _

theorem finishClosing_cases (k : Slot) (s : State) :
    finishClosing k s = s
      ∨ ∃ p c, (s.compare k).closing = some p ∧ finishClosing k s = profileVerdict k p (s.setCompare k c) := by
  unfold finishClosing
  split
  · next r hr =>
    split
    · exact Or.inr ⟨r, _, hr, rfl⟩
    · exact Or.inl rfl
  · exact Or.inl rfl

@[simp] theorem finishClosing_frame (k : Slot) (s : State) :
    (finishClosing k s).part = s.part ∧ (finishClosing k s).lines = s.lines
      ∧ (finishClosing k s).scan = s.scan ∧ (finishClosing k s).store = s.store
      ∧ (finishClosing k s).chan = s.chan ∧ (finishClosing k s).zone = s.zone
      ∧ (finishClosing k s).clock = s.clock ∧ (finishClosing k s).ret = s.ret
      ∧ (finishClosing k s).link = s.link ∧ (finishClosing k s).races = s.races
      ∧ (finishClosing k s).pending = s.pending ∧ (∀ j, (finishClosing k s).scanner j = s.scanner j)
      ∧ (∀ j, (finishClosing k s).channel j = s.channel j)
      ∧ (∀ j, (finishClosing k s).throttle j = s.throttle j) ∧ (finishClosing k s).acct.accel = s.acct.accel
      ∧ (finishClosing k s).acct.wEx = s.acct.wEx ∧ (finishClosing k s).acct.wSt = s.acct.wSt
      ∧ (finishClosing k s).acct.interval = s.acct.interval
      ∧ (finishClosing k s).acct.counts = s.acct.counts
      ∧ (finishClosing k s).acct.holdover = s.acct.holdover
      ∧ (finishClosing k s).acct.snapshot = s.acct.snapshot
      ∧ (∀ j, ((finishClosing k s).acct.sets.get j).tag = (s.acct.sets.get j).tag)
      ∧ (finishClosing k s).alert.inService = s.alert.inService
      ∧ (finishClosing k s).alert.mask = s.alert.mask
      ∧ (finishClosing k s).alert.priority = s.alert.priority
      ∧ (finishClosing k s).alert.base = s.alert.base
      ∧ (finishClosing k s).alert.delivery = s.alert.delivery ∧ (finishClosing k s).log.epoch = s.log.epoch := by
  obtain e | ⟨p, c, _, e⟩ := finishClosing_cases k s <;> rw [e] <;> simp

@[simp] theorem finishClosing_slotFields (k : Slot) (s : State) (j : Slot) :
    ((finishClosing k s).slot j).board = (s.slot j).board
      ∧ ((finishClosing k s).slot j).identity = (s.slot j).identity
      ∧ ((finishClosing k s).slot j).descriptor = (s.slot j).descriptor
      ∧ ((finishClosing k s).slot j).status = (s.slot j).status
      ∧ ((finishClosing k s).slot j).active = (s.slot j).active
      ∧ ((finishClosing k s).slot j).staged = (s.slot j).staged
      ∧ ((finishClosing k s).slot j).railTrip = (s.slot j).railTrip
      ∧ ((finishClosing k s).slot j).burstDone = (s.slot j).burstDone
      ∧ ((finishClosing k s).slot j).applyDone = (s.slot j).applyDone
      ∧ ((finishClosing k s).slot j).abandoned = (s.slot j).abandoned
      ∧ ((finishClosing k s).slot j).applyDeferred = (s.slot j).applyDeferred
      ∧ ((finishClosing k s).slot j).vcore = (s.slot j).vcore
      ∧ ((finishClosing k s).slot j).vio = (s.slot j).vio
      ∧ ((finishClosing k s).slot j).ramp = (s.slot j).ramp
      ∧ ((finishClosing k s).slot j).dwell = (s.slot j).dwell
      ∧ ((finishClosing k s).slot j).drain = (s.slot j).drain
      ∧ ((finishClosing k s).slot j).drainLimit = (s.slot j).drainLimit
      ∧ ((finishClosing k s).slot j).identLimit = (s.slot j).identLimit := by
  obtain e | ⟨p, c, _, e⟩ := finishClosing_cases k s <;> rw [e] <;> simp

theorem finishClosing_slotFrame (k : Slot) (s : State) :
    SlotFrame k s (finishClosing k s) := by
  obtain e | ⟨p, c, _, e⟩ := finishClosing_cases k s <;> rw [e]
  · exact SlotFrame.refl _ _
  · exact (State.setCompare_slotFrame _ _ _).trans (profileVerdict_slotFrame _ _ _)

@[simp] theorem deliver_frame (k : Slot) (n : Nat) (f : ProfileRecord → ProfileRecord) (s : State) :
    (deliver k n f s).part = s.part ∧ (deliver k n f s).lines = s.lines ∧ (deliver k n f s).scan = s.scan
      ∧ (deliver k n f s).store = s.store ∧ (deliver k n f s).chan = s.chan
      ∧ (deliver k n f s).zone = s.zone ∧ (deliver k n f s).clock = s.clock ∧ (deliver k n f s).ret = s.ret
      ∧ (deliver k n f s).link = s.link ∧ (deliver k n f s).races = s.races
      ∧ (deliver k n f s).pending = s.pending ∧ (∀ j, (deliver k n f s).scanner j = s.scanner j)
      ∧ (∀ j, (deliver k n f s).channel j = s.channel j)
      ∧ (∀ j, (deliver k n f s).throttle j = s.throttle j) ∧ (deliver k n f s).acct.accel = s.acct.accel
      ∧ (deliver k n f s).acct.wEx = s.acct.wEx ∧ (deliver k n f s).acct.wSt = s.acct.wSt
      ∧ (deliver k n f s).acct.interval = s.acct.interval ∧ (deliver k n f s).acct.counts = s.acct.counts
      ∧ (deliver k n f s).acct.holdover = s.acct.holdover
      ∧ (deliver k n f s).acct.snapshot = s.acct.snapshot
      ∧ (∀ j, ((deliver k n f s).acct.sets.get j).tag = (s.acct.sets.get j).tag)
      ∧ (deliver k n f s).alert.inService = s.alert.inService ∧ (deliver k n f s).alert.mask = s.alert.mask
      ∧ (deliver k n f s).alert.priority = s.alert.priority ∧ (deliver k n f s).alert.base = s.alert.base
      ∧ (deliver k n f s).alert.delivery = s.alert.delivery ∧ (deliver k n f s).log.epoch = s.log.epoch := by
  simp [deliver]

@[simp] theorem deliver_slotFields (k : Slot) (n : Nat) (f : ProfileRecord → ProfileRecord) (s : State) (j : Slot) :
    ((deliver k n f s).slot j).board = (s.slot j).board
      ∧ ((deliver k n f s).slot j).identity = (s.slot j).identity
      ∧ ((deliver k n f s).slot j).descriptor = (s.slot j).descriptor
      ∧ ((deliver k n f s).slot j).status = (s.slot j).status
      ∧ ((deliver k n f s).slot j).active = (s.slot j).active
      ∧ ((deliver k n f s).slot j).staged = (s.slot j).staged
      ∧ ((deliver k n f s).slot j).railTrip = (s.slot j).railTrip
      ∧ ((deliver k n f s).slot j).burstDone = (s.slot j).burstDone
      ∧ ((deliver k n f s).slot j).applyDone = (s.slot j).applyDone
      ∧ ((deliver k n f s).slot j).abandoned = (s.slot j).abandoned
      ∧ ((deliver k n f s).slot j).applyDeferred = (s.slot j).applyDeferred
      ∧ ((deliver k n f s).slot j).vcore = (s.slot j).vcore
      ∧ ((deliver k n f s).slot j).vio = (s.slot j).vio ∧ ((deliver k n f s).slot j).ramp = (s.slot j).ramp
      ∧ ((deliver k n f s).slot j).dwell = (s.slot j).dwell
      ∧ ((deliver k n f s).slot j).drain = (s.slot j).drain
      ∧ ((deliver k n f s).slot j).drainLimit = (s.slot j).drainLimit
      ∧ ((deliver k n f s).slot j).identLimit = (s.slot j).identLimit := by
  simp [deliver]

theorem deliver_slotFrame (k : Slot) (n : Nat) (f : ProfileRecord → ProfileRecord) (s : State) :
    SlotFrame k s (deliver k n f s) := by
  exact (State.setCompare_slotFrame _ _ _).trans (finishClosing_slotFrame _ _)

theorem completeRecord_cases (k : Slot) (n : Nat) (m : Table 32 Bool) (s : State) :
    completeRecord k n m s = s ∨ (∃ c, completeRecord k n m s = s.setCompare k c)
      ∨ ∃ c d, completeRecord k n m s = finishClosing k ((s.setCompare k c).setCompare k d) := by
  unfold completeRecord
  split
  · exact Or.inl rfl
  · dsimp only
    split
    · exact Or.inr (Or.inl ⟨_, rfl⟩)
    · exact Or.inr (Or.inr ⟨_, _, rfl⟩)

@[simp] theorem completeRecord_frame (k : Slot) (n : Nat) (m : Table 32 Bool) (s : State) :
    (completeRecord k n m s).part = s.part ∧ (completeRecord k n m s).lines = s.lines
      ∧ (completeRecord k n m s).scan = s.scan ∧ (completeRecord k n m s).store = s.store
      ∧ (completeRecord k n m s).chan = s.chan ∧ (completeRecord k n m s).zone = s.zone
      ∧ (completeRecord k n m s).clock = s.clock ∧ (completeRecord k n m s).ret = s.ret
      ∧ (completeRecord k n m s).link = s.link ∧ (completeRecord k n m s).races = s.races
      ∧ (completeRecord k n m s).pending = s.pending
      ∧ (∀ j, (completeRecord k n m s).scanner j = s.scanner j)
      ∧ (∀ j, (completeRecord k n m s).channel j = s.channel j)
      ∧ (∀ j, (completeRecord k n m s).throttle j = s.throttle j)
      ∧ (completeRecord k n m s).acct.accel = s.acct.accel ∧ (completeRecord k n m s).acct.wEx = s.acct.wEx
      ∧ (completeRecord k n m s).acct.wSt = s.acct.wSt
      ∧ (completeRecord k n m s).acct.interval = s.acct.interval
      ∧ (completeRecord k n m s).acct.counts = s.acct.counts
      ∧ (completeRecord k n m s).acct.holdover = s.acct.holdover
      ∧ (completeRecord k n m s).acct.snapshot = s.acct.snapshot
      ∧ (∀ j, ((completeRecord k n m s).acct.sets.get j).tag = (s.acct.sets.get j).tag)
      ∧ (completeRecord k n m s).alert.inService = s.alert.inService
      ∧ (completeRecord k n m s).alert.mask = s.alert.mask
      ∧ (completeRecord k n m s).alert.priority = s.alert.priority
      ∧ (completeRecord k n m s).alert.base = s.alert.base
      ∧ (completeRecord k n m s).alert.delivery = s.alert.delivery
      ∧ (completeRecord k n m s).log.epoch = s.log.epoch := by
  obtain e | ⟨c, e⟩ | ⟨c, d, e⟩ := completeRecord_cases k n m s <;> rw [e] <;> simp

@[simp] theorem completeRecord_slotFields (k : Slot) (n : Nat) (m : Table 32 Bool) (s : State) (j : Slot) :
    ((completeRecord k n m s).slot j).board = (s.slot j).board
      ∧ ((completeRecord k n m s).slot j).identity = (s.slot j).identity
      ∧ ((completeRecord k n m s).slot j).descriptor = (s.slot j).descriptor
      ∧ ((completeRecord k n m s).slot j).status = (s.slot j).status
      ∧ ((completeRecord k n m s).slot j).active = (s.slot j).active
      ∧ ((completeRecord k n m s).slot j).staged = (s.slot j).staged
      ∧ ((completeRecord k n m s).slot j).railTrip = (s.slot j).railTrip
      ∧ ((completeRecord k n m s).slot j).burstDone = (s.slot j).burstDone
      ∧ ((completeRecord k n m s).slot j).applyDone = (s.slot j).applyDone
      ∧ ((completeRecord k n m s).slot j).abandoned = (s.slot j).abandoned
      ∧ ((completeRecord k n m s).slot j).applyDeferred = (s.slot j).applyDeferred
      ∧ ((completeRecord k n m s).slot j).vcore = (s.slot j).vcore
      ∧ ((completeRecord k n m s).slot j).vio = (s.slot j).vio
      ∧ ((completeRecord k n m s).slot j).ramp = (s.slot j).ramp
      ∧ ((completeRecord k n m s).slot j).dwell = (s.slot j).dwell
      ∧ ((completeRecord k n m s).slot j).drain = (s.slot j).drain
      ∧ ((completeRecord k n m s).slot j).drainLimit = (s.slot j).drainLimit
      ∧ ((completeRecord k n m s).slot j).identLimit = (s.slot j).identLimit := by
  obtain e | ⟨c, e⟩ | ⟨c, d, e⟩ := completeRecord_cases k n m s <;> rw [e] <;> simp

theorem completeRecord_slotFrame (k : Slot) (n : Nat) (m : Table 32 Bool) (s : State) :
    SlotFrame k s (completeRecord k n m s) := by
  obtain e | ⟨c, e⟩ | ⟨c, d, e⟩ := completeRecord_cases k n m s <;> rw [e]
  · exact SlotFrame.refl _ _
  · exact State.setCompare_slotFrame _ _ _
  · exact (State.setCompare_slotFrame _ _ _).trans
      ((State.setCompare_slotFrame _ _ _).trans (finishClosing_slotFrame _ _))

@[simp] theorem captureIntoSet_frame (k : Slot) (t : CaptureSet) (n : Nat) (s : State) :
    (captureIntoSet k t n s).part = s.part ∧ (captureIntoSet k t n s).lines = s.lines
      ∧ (captureIntoSet k t n s).store = s.store ∧ (captureIntoSet k t n s).chan = s.chan
      ∧ (captureIntoSet k t n s).zone = s.zone ∧ (captureIntoSet k t n s).clock = s.clock
      ∧ (captureIntoSet k t n s).ret = s.ret ∧ (captureIntoSet k t n s).link = s.link
      ∧ (captureIntoSet k t n s).races = s.races ∧ (captureIntoSet k t n s).pending = s.pending
      ∧ (∀ j, (captureIntoSet k t n s).channel j = s.channel j)
      ∧ (∀ j, (captureIntoSet k t n s).throttle j = s.throttle j)
      ∧ (captureIntoSet k t n s).acct.accel = s.acct.accel ∧ (captureIntoSet k t n s).acct.wEx = s.acct.wEx
      ∧ (captureIntoSet k t n s).acct.wSt = s.acct.wSt
      ∧ (captureIntoSet k t n s).acct.interval = s.acct.interval
      ∧ (captureIntoSet k t n s).acct.counts = s.acct.counts
      ∧ (captureIntoSet k t n s).acct.holdover = s.acct.holdover
      ∧ (captureIntoSet k t n s).acct.snapshot = s.acct.snapshot
      ∧ (∀ j, ((captureIntoSet k t n s).acct.sets.get j).tag = (s.acct.sets.get j).tag)
      ∧ (captureIntoSet k t n s).alert.inService = s.alert.inService
      ∧ (captureIntoSet k t n s).alert.mask = s.alert.mask
      ∧ (captureIntoSet k t n s).alert.priority = s.alert.priority
      ∧ (captureIntoSet k t n s).alert.base = s.alert.base
      ∧ (captureIntoSet k t n s).alert.delivery = s.alert.delivery
      ∧ (captureIntoSet k t n s).log.epoch = s.log.epoch := by
  simp [captureIntoSet]

@[simp] theorem captureIntoSet_slotFields (k : Slot) (t : CaptureSet) (n : Nat) (s : State) (j : Slot) :
    ((captureIntoSet k t n s).slot j).board = (s.slot j).board
      ∧ ((captureIntoSet k t n s).slot j).identity = (s.slot j).identity
      ∧ ((captureIntoSet k t n s).slot j).descriptor = (s.slot j).descriptor
      ∧ ((captureIntoSet k t n s).slot j).status = (s.slot j).status
      ∧ ((captureIntoSet k t n s).slot j).active = (s.slot j).active
      ∧ ((captureIntoSet k t n s).slot j).staged = (s.slot j).staged
      ∧ ((captureIntoSet k t n s).slot j).railTrip = (s.slot j).railTrip
      ∧ ((captureIntoSet k t n s).slot j).burstDone = (s.slot j).burstDone
      ∧ ((captureIntoSet k t n s).slot j).applyDone = (s.slot j).applyDone
      ∧ ((captureIntoSet k t n s).slot j).abandoned = (s.slot j).abandoned
      ∧ ((captureIntoSet k t n s).slot j).applyDeferred = (s.slot j).applyDeferred
      ∧ ((captureIntoSet k t n s).slot j).vcore = (s.slot j).vcore
      ∧ ((captureIntoSet k t n s).slot j).vio = (s.slot j).vio
      ∧ ((captureIntoSet k t n s).slot j).ramp = (s.slot j).ramp
      ∧ ((captureIntoSet k t n s).slot j).dwell = (s.slot j).dwell
      ∧ ((captureIntoSet k t n s).slot j).drain = (s.slot j).drain
      ∧ ((captureIntoSet k t n s).slot j).drainLimit = (s.slot j).drainLimit
      ∧ ((captureIntoSet k t n s).slot j).identLimit = (s.slot j).identLimit := by
  simp [captureIntoSet]

theorem captureIntoSet_slotFrame (k : Slot) (t : CaptureSet) (n : Nat) (s : State) :
    SlotFrame k s (captureIntoSet k t n s) := by
  exact (State.setScanner_slotFrame _ _ _).trans (deliver_slotFrame _ _ _ _)


/-- What reporting lost entries keeps. -/
theorem captureLoss_keeps (P : State → Prop) (k : Slot)
    (h : ∀ n f u, P u → P (deliver k n f u)) (l : List CaptureEntry) (s : State) (hs : P s) :
    P (l.foldl (fun s e => deliver k e.burst (ProfileRecord.lose e.point) s) s) := by
  induction l generalizing s with
  | nil => exact hs
  | cons e l ih => exact ih _ (h _ _ _ hs)

@[simp] theorem captureIntoList_frame (k : Slot) (p : Fin 8) (n : Nat) (s : State) :
    (captureIntoList k p n s).part = s.part ∧ (captureIntoList k p n s).lines = s.lines
      ∧ (captureIntoList k p n s).store = s.store ∧ (captureIntoList k p n s).chan = s.chan
      ∧ (captureIntoList k p n s).zone = s.zone ∧ (captureIntoList k p n s).clock = s.clock
      ∧ (captureIntoList k p n s).ret = s.ret ∧ (captureIntoList k p n s).link = s.link
      ∧ (captureIntoList k p n s).races = s.races ∧ (captureIntoList k p n s).pending = s.pending
      ∧ (∀ j, (captureIntoList k p n s).channel j = s.channel j)
      ∧ (∀ j, (captureIntoList k p n s).throttle j = s.throttle j)
      ∧ (captureIntoList k p n s).acct.accel = s.acct.accel
      ∧ (captureIntoList k p n s).acct.wEx = s.acct.wEx ∧ (captureIntoList k p n s).acct.wSt = s.acct.wSt
      ∧ (captureIntoList k p n s).acct.interval = s.acct.interval
      ∧ (captureIntoList k p n s).acct.counts = s.acct.counts
      ∧ (captureIntoList k p n s).acct.holdover = s.acct.holdover
      ∧ (captureIntoList k p n s).acct.snapshot = s.acct.snapshot
      ∧ (∀ j, ((captureIntoList k p n s).acct.sets.get j).tag = (s.acct.sets.get j).tag)
      ∧ (captureIntoList k p n s).alert.inService = s.alert.inService
      ∧ (captureIntoList k p n s).alert.mask = s.alert.mask
      ∧ (captureIntoList k p n s).alert.priority = s.alert.priority
      ∧ (captureIntoList k p n s).alert.base = s.alert.base
      ∧ (captureIntoList k p n s).alert.delivery = s.alert.delivery
      ∧ (captureIntoList k p n s).log.epoch = s.log.epoch := by
  unfold captureIntoList
  refine captureLoss_keeps (fun t => (t).part = s.part ∧ (t).lines = s.lines ∧ (t).store = s.store ∧ (t).chan = s.chan ∧ (t).zone = s.zone
      ∧ (t).clock = s.clock ∧ (t).ret = s.ret ∧ (t).link = s.link ∧ (t).races = s.races
      ∧ (t).pending = s.pending ∧ (∀ j, (t).channel j = s.channel j) ∧ (∀ j, (t).throttle j = s.throttle j)
      ∧ (t).acct.accel = s.acct.accel ∧ (t).acct.wEx = s.acct.wEx ∧ (t).acct.wSt = s.acct.wSt
      ∧ (t).acct.interval = s.acct.interval ∧ (t).acct.counts = s.acct.counts
      ∧ (t).acct.holdover = s.acct.holdover ∧ (t).acct.snapshot = s.acct.snapshot
      ∧ (∀ j, ((t).acct.sets.get j).tag = (s.acct.sets.get j).tag) ∧ (t).alert.inService = s.alert.inService
      ∧ (t).alert.mask = s.alert.mask ∧ (t).alert.priority = s.alert.priority
      ∧ (t).alert.base = s.alert.base ∧ (t).alert.delivery = s.alert.delivery ∧ (t).log.epoch = s.log.epoch) k ?_ _ _ ?_
  · intro n f u h
    simpa using h
  · simp

@[simp] theorem captureIntoList_slotFields (k : Slot) (p : Fin 8) (n : Nat) (s : State) (j : Slot) :
    ((captureIntoList k p n s).slot j).board = (s.slot j).board
      ∧ ((captureIntoList k p n s).slot j).identity = (s.slot j).identity
      ∧ ((captureIntoList k p n s).slot j).descriptor = (s.slot j).descriptor
      ∧ ((captureIntoList k p n s).slot j).status = (s.slot j).status
      ∧ ((captureIntoList k p n s).slot j).active = (s.slot j).active
      ∧ ((captureIntoList k p n s).slot j).staged = (s.slot j).staged
      ∧ ((captureIntoList k p n s).slot j).railTrip = (s.slot j).railTrip
      ∧ ((captureIntoList k p n s).slot j).burstDone = (s.slot j).burstDone
      ∧ ((captureIntoList k p n s).slot j).applyDone = (s.slot j).applyDone
      ∧ ((captureIntoList k p n s).slot j).abandoned = (s.slot j).abandoned
      ∧ ((captureIntoList k p n s).slot j).applyDeferred = (s.slot j).applyDeferred
      ∧ ((captureIntoList k p n s).slot j).vcore = (s.slot j).vcore
      ∧ ((captureIntoList k p n s).slot j).vio = (s.slot j).vio
      ∧ ((captureIntoList k p n s).slot j).ramp = (s.slot j).ramp
      ∧ ((captureIntoList k p n s).slot j).dwell = (s.slot j).dwell
      ∧ ((captureIntoList k p n s).slot j).drain = (s.slot j).drain
      ∧ ((captureIntoList k p n s).slot j).drainLimit = (s.slot j).drainLimit
      ∧ ((captureIntoList k p n s).slot j).identLimit = (s.slot j).identLimit := by
  unfold captureIntoList
  refine captureLoss_keeps (fun t => (t.slot j).board = (s.slot j).board ∧ (t.slot j).identity = (s.slot j).identity
      ∧ (t.slot j).descriptor = (s.slot j).descriptor ∧ (t.slot j).status = (s.slot j).status
      ∧ (t.slot j).active = (s.slot j).active ∧ (t.slot j).staged = (s.slot j).staged
      ∧ (t.slot j).railTrip = (s.slot j).railTrip ∧ (t.slot j).burstDone = (s.slot j).burstDone
      ∧ (t.slot j).applyDone = (s.slot j).applyDone ∧ (t.slot j).abandoned = (s.slot j).abandoned
      ∧ (t.slot j).applyDeferred = (s.slot j).applyDeferred ∧ (t.slot j).vcore = (s.slot j).vcore
      ∧ (t.slot j).vio = (s.slot j).vio ∧ (t.slot j).ramp = (s.slot j).ramp
      ∧ (t.slot j).dwell = (s.slot j).dwell ∧ (t.slot j).drain = (s.slot j).drain
      ∧ (t.slot j).drainLimit = (s.slot j).drainLimit ∧ (t.slot j).identLimit = (s.slot j).identLimit) k ?_ _ _ ?_
  · intro n f u h
    simpa using h
  · simp

theorem captureIntoList_slotFrame (k : Slot) (p : Fin 8) (n : Nat) (s : State) :
    SlotFrame k s (captureIntoList k p n s) := by
  unfold captureIntoList
  exact captureLoss_keeps (SlotFrame k s) k (fun n f u h => h.trans (deliver_slotFrame _ _ _ _)) _ _
    (State.setScanner_slotFrame _ _ _)

@[simp] theorem requestCapture_frame (k : Slot) (p : Fin 8) (n : Nat) (s : State) :
    (requestCapture k p n s).part = s.part ∧ (requestCapture k p n s).lines = s.lines
      ∧ (requestCapture k p n s).store = s.store ∧ (requestCapture k p n s).chan = s.chan
      ∧ (requestCapture k p n s).zone = s.zone ∧ (requestCapture k p n s).clock = s.clock
      ∧ (requestCapture k p n s).ret = s.ret ∧ (requestCapture k p n s).link = s.link
      ∧ (requestCapture k p n s).races = s.races ∧ (requestCapture k p n s).pending = s.pending
      ∧ (∀ j, (requestCapture k p n s).channel j = s.channel j)
      ∧ (∀ j, (requestCapture k p n s).throttle j = s.throttle j)
      ∧ (requestCapture k p n s).acct.accel = s.acct.accel ∧ (requestCapture k p n s).acct.wEx = s.acct.wEx
      ∧ (requestCapture k p n s).acct.wSt = s.acct.wSt
      ∧ (requestCapture k p n s).acct.interval = s.acct.interval
      ∧ (requestCapture k p n s).acct.counts = s.acct.counts
      ∧ (requestCapture k p n s).acct.holdover = s.acct.holdover
      ∧ (requestCapture k p n s).acct.snapshot = s.acct.snapshot
      ∧ (∀ j, ((requestCapture k p n s).acct.sets.get j).tag = (s.acct.sets.get j).tag)
      ∧ (requestCapture k p n s).alert.inService = s.alert.inService
      ∧ (requestCapture k p n s).alert.mask = s.alert.mask
      ∧ (requestCapture k p n s).alert.priority = s.alert.priority
      ∧ (requestCapture k p n s).alert.base = s.alert.base
      ∧ (requestCapture k p n s).alert.delivery = s.alert.delivery
      ∧ (requestCapture k p n s).log.epoch = s.log.epoch := by
  unfold requestCapture
  split
  · split <;> simp
  · simp

@[simp] theorem requestCapture_slotFields (k : Slot) (p : Fin 8) (n : Nat) (s : State) (j : Slot) :
    ((requestCapture k p n s).slot j).board = (s.slot j).board
      ∧ ((requestCapture k p n s).slot j).identity = (s.slot j).identity
      ∧ ((requestCapture k p n s).slot j).descriptor = (s.slot j).descriptor
      ∧ ((requestCapture k p n s).slot j).status = (s.slot j).status
      ∧ ((requestCapture k p n s).slot j).active = (s.slot j).active
      ∧ ((requestCapture k p n s).slot j).staged = (s.slot j).staged
      ∧ ((requestCapture k p n s).slot j).railTrip = (s.slot j).railTrip
      ∧ ((requestCapture k p n s).slot j).burstDone = (s.slot j).burstDone
      ∧ ((requestCapture k p n s).slot j).applyDone = (s.slot j).applyDone
      ∧ ((requestCapture k p n s).slot j).abandoned = (s.slot j).abandoned
      ∧ ((requestCapture k p n s).slot j).applyDeferred = (s.slot j).applyDeferred
      ∧ ((requestCapture k p n s).slot j).vcore = (s.slot j).vcore
      ∧ ((requestCapture k p n s).slot j).vio = (s.slot j).vio
      ∧ ((requestCapture k p n s).slot j).ramp = (s.slot j).ramp
      ∧ ((requestCapture k p n s).slot j).dwell = (s.slot j).dwell
      ∧ ((requestCapture k p n s).slot j).drain = (s.slot j).drain
      ∧ ((requestCapture k p n s).slot j).drainLimit = (s.slot j).drainLimit
      ∧ ((requestCapture k p n s).slot j).identLimit = (s.slot j).identLimit := by
  unfold requestCapture
  split
  · split <;> simp
  · simp

theorem requestCapture_slotFrame (k : Slot) (p : Fin 8) (n : Nat) (s : State) :
    SlotFrame k s (requestCapture k p n s) := by
  unfold requestCapture
  split
  · split
    · exact captureIntoSet_slotFrame _ _ _ _
    · exact captureIntoList_slotFrame _ _ _ _
  · exact captureIntoList_slotFrame _ _ _ _

/-! ## Bursts -/

@[simp] theorem driveVector_frame (k : Slot) (r : PatternRecord) (n q : Nat) (s : State) :
    (driveVector k r n q s).part = s.part ∧ (driveVector k r n q s).lines = s.lines
      ∧ (driveVector k r n q s).store = s.store ∧ (driveVector k r n q s).zone = s.zone
      ∧ (driveVector k r n q s).clock = s.clock ∧ (driveVector k r n q s).ret = s.ret
      ∧ (driveVector k r n q s).link = s.link ∧ (driveVector k r n q s).races = s.races
      ∧ (driveVector k r n q s).pending = s.pending
      ∧ (∀ j, (driveVector k r n q s).throttle j = s.throttle j)
      ∧ (driveVector k r n q s).acct.accel = s.acct.accel ∧ (driveVector k r n q s).acct.wEx = s.acct.wEx
      ∧ (driveVector k r n q s).acct.wSt = s.acct.wSt
      ∧ (driveVector k r n q s).acct.interval = s.acct.interval
      ∧ (driveVector k r n q s).acct.counts = s.acct.counts
      ∧ (driveVector k r n q s).acct.holdover = s.acct.holdover
      ∧ (driveVector k r n q s).acct.snapshot = s.acct.snapshot
      ∧ (∀ j, ((driveVector k r n q s).acct.sets.get j).tag = (s.acct.sets.get j).tag)
      ∧ (driveVector k r n q s).alert.inService = s.alert.inService
      ∧ (driveVector k r n q s).alert.mask = s.alert.mask
      ∧ (driveVector k r n q s).alert.priority = s.alert.priority
      ∧ (driveVector k r n q s).alert.base = s.alert.base
      ∧ (driveVector k r n q s).alert.delivery = s.alert.delivery
      ∧ (driveVector k r n q s).log.epoch = s.log.epoch := by
  unfold driveVector
  dsimp only
  split <;> simp

@[simp] theorem driveVector_slotFields (k : Slot) (r : PatternRecord) (n q : Nat) (s : State) (j : Slot) :
    ((driveVector k r n q s).slot j).board = (s.slot j).board
      ∧ ((driveVector k r n q s).slot j).identity = (s.slot j).identity
      ∧ ((driveVector k r n q s).slot j).descriptor = (s.slot j).descriptor
      ∧ ((driveVector k r n q s).slot j).status = (s.slot j).status
      ∧ ((driveVector k r n q s).slot j).active = (s.slot j).active
      ∧ ((driveVector k r n q s).slot j).staged = (s.slot j).staged
      ∧ ((driveVector k r n q s).slot j).railTrip = (s.slot j).railTrip
      ∧ ((driveVector k r n q s).slot j).burstDone = (s.slot j).burstDone
      ∧ ((driveVector k r n q s).slot j).applyDone = (s.slot j).applyDone
      ∧ ((driveVector k r n q s).slot j).abandoned = (s.slot j).abandoned
      ∧ ((driveVector k r n q s).slot j).applyDeferred = (s.slot j).applyDeferred
      ∧ ((driveVector k r n q s).slot j).vcore = (s.slot j).vcore
      ∧ ((driveVector k r n q s).slot j).vio = (s.slot j).vio
      ∧ ((driveVector k r n q s).slot j).ramp = (s.slot j).ramp
      ∧ ((driveVector k r n q s).slot j).dwell = (s.slot j).dwell
      ∧ ((driveVector k r n q s).slot j).drain = (s.slot j).drain
      ∧ ((driveVector k r n q s).slot j).drainLimit = (s.slot j).drainLimit
      ∧ ((driveVector k r n q s).slot j).identLimit = (s.slot j).identLimit := by
  unfold driveVector
  dsimp only
  split <;> simp

theorem driveVector_slotFrame (k : Slot) (r : PatternRecord) (n q : Nat) (s : State) :
    SlotFrame k s (driveVector k r n q s) := by
  unfold driveVector
  dsimp only
  split
  · exact (State.setChannel_slotFrame _ _ _).trans (requestCapture_slotFrame _ _ _ _)
  · exact State.setChannel_slotFrame _ _ _

@[simp] theorem startPass_frame (k : Slot) (r : PatternRecord) (n : Nat) (s : State) :
    (startPass k r n s).part = s.part ∧ (startPass k r n s).lines = s.lines
      ∧ (startPass k r n s).store = s.store ∧ (startPass k r n s).zone = s.zone
      ∧ (startPass k r n s).clock = s.clock ∧ (startPass k r n s).ret = s.ret
      ∧ (startPass k r n s).link = s.link ∧ (startPass k r n s).races = s.races
      ∧ (startPass k r n s).pending = s.pending ∧ (∀ j, (startPass k r n s).throttle j = s.throttle j)
      ∧ (startPass k r n s).acct.accel = s.acct.accel ∧ (startPass k r n s).acct.wEx = s.acct.wEx
      ∧ (startPass k r n s).acct.wSt = s.acct.wSt ∧ (startPass k r n s).acct.interval = s.acct.interval
      ∧ (startPass k r n s).acct.counts = s.acct.counts
      ∧ (startPass k r n s).acct.holdover = s.acct.holdover
      ∧ (startPass k r n s).acct.snapshot = s.acct.snapshot
      ∧ (∀ j, ((startPass k r n s).acct.sets.get j).tag = (s.acct.sets.get j).tag)
      ∧ (startPass k r n s).alert.inService = s.alert.inService
      ∧ (startPass k r n s).alert.mask = s.alert.mask
      ∧ (startPass k r n s).alert.priority = s.alert.priority
      ∧ (startPass k r n s).alert.base = s.alert.base
      ∧ (startPass k r n s).alert.delivery = s.alert.delivery ∧ (startPass k r n s).log.epoch = s.log.epoch := by
  simp [startPass]

@[simp] theorem startPass_slotFields (k : Slot) (r : PatternRecord) (n : Nat) (s : State) (j : Slot) :
    ((startPass k r n s).slot j).board = (s.slot j).board
      ∧ ((startPass k r n s).slot j).identity = (s.slot j).identity
      ∧ ((startPass k r n s).slot j).descriptor = (s.slot j).descriptor
      ∧ ((startPass k r n s).slot j).status = (s.slot j).status
      ∧ ((startPass k r n s).slot j).active = (s.slot j).active
      ∧ ((startPass k r n s).slot j).staged = (s.slot j).staged
      ∧ ((startPass k r n s).slot j).railTrip = (s.slot j).railTrip
      ∧ ((startPass k r n s).slot j).burstDone = (s.slot j).burstDone
      ∧ ((startPass k r n s).slot j).applyDone = (s.slot j).applyDone
      ∧ ((startPass k r n s).slot j).abandoned = (s.slot j).abandoned
      ∧ ((startPass k r n s).slot j).applyDeferred = (s.slot j).applyDeferred
      ∧ ((startPass k r n s).slot j).vcore = (s.slot j).vcore
      ∧ ((startPass k r n s).slot j).vio = (s.slot j).vio
      ∧ ((startPass k r n s).slot j).ramp = (s.slot j).ramp
      ∧ ((startPass k r n s).slot j).dwell = (s.slot j).dwell
      ∧ ((startPass k r n s).slot j).drain = (s.slot j).drain
      ∧ ((startPass k r n s).slot j).drainLimit = (s.slot j).drainLimit
      ∧ ((startPass k r n s).slot j).identLimit = (s.slot j).identLimit := by
  simp [startPass]

theorem startPass_slotFrame (k : Slot) (r : PatternRecord) (n : Nat) (s : State) :
    SlotFrame k s (startPass k r n s) := by
  exact (State.setChannel_slotFrame _ _ _).trans (driveVector_slotFrame _ _ _ _ _)

@[simp] theorem startBurst_frame (k : Slot) (s : State) :
    (startBurst k s).part = s.part ∧ (startBurst k s).lines = s.lines ∧ (startBurst k s).store = s.store
      ∧ (startBurst k s).zone = s.zone ∧ (startBurst k s).clock = s.clock ∧ (startBurst k s).ret = s.ret
      ∧ (startBurst k s).link = s.link ∧ (startBurst k s).races = s.races
      ∧ (startBurst k s).pending = s.pending ∧ (∀ j, (startBurst k s).throttle j = s.throttle j)
      ∧ (startBurst k s).acct.accel = s.acct.accel ∧ (startBurst k s).acct.wEx = s.acct.wEx
      ∧ (startBurst k s).acct.wSt = s.acct.wSt ∧ (startBurst k s).acct.interval = s.acct.interval
      ∧ (startBurst k s).acct.counts = s.acct.counts ∧ (startBurst k s).acct.holdover = s.acct.holdover
      ∧ (startBurst k s).acct.snapshot = s.acct.snapshot
      ∧ (∀ j, ((startBurst k s).acct.sets.get j).tag = (s.acct.sets.get j).tag)
      ∧ (startBurst k s).alert.inService = s.alert.inService ∧ (startBurst k s).alert.mask = s.alert.mask
      ∧ (startBurst k s).alert.priority = s.alert.priority ∧ (startBurst k s).alert.base = s.alert.base
      ∧ (startBurst k s).alert.delivery = s.alert.delivery ∧ (startBurst k s).log.epoch = s.log.epoch := by
  unfold startBurst
  dsimp only
  split <;> simp

@[simp] theorem startBurst_slotFields (k : Slot) (s : State) (j : Slot) :
    ((startBurst k s).slot j).board = (s.slot j).board
      ∧ ((startBurst k s).slot j).identity = (s.slot j).identity
      ∧ ((startBurst k s).slot j).descriptor = (s.slot j).descriptor
      ∧ ((startBurst k s).slot j).status = (s.slot j).status
      ∧ ((startBurst k s).slot j).active = (s.slot j).active
      ∧ ((startBurst k s).slot j).staged = (s.slot j).staged
      ∧ ((startBurst k s).slot j).railTrip = (s.slot j).railTrip
      ∧ ((startBurst k s).slot j).burstDone = (s.slot j).burstDone
      ∧ ((startBurst k s).slot j).applyDone = (s.slot j).applyDone
      ∧ ((startBurst k s).slot j).abandoned = (s.slot j).abandoned
      ∧ ((startBurst k s).slot j).applyDeferred = (s.slot j).applyDeferred
      ∧ ((startBurst k s).slot j).vcore = (s.slot j).vcore ∧ ((startBurst k s).slot j).vio = (s.slot j).vio
      ∧ ((startBurst k s).slot j).ramp = (s.slot j).ramp
      ∧ ((startBurst k s).slot j).dwell = (s.slot j).dwell
      ∧ ((startBurst k s).slot j).drain = (s.slot j).drain
      ∧ ((startBurst k s).slot j).drainLimit = (s.slot j).drainLimit
      ∧ ((startBurst k s).slot j).identLimit = (s.slot j).identLimit := by
  unfold startBurst
  dsimp only
  split <;> simp

theorem startBurst_slotFrame (k : Slot) (s : State) :
    SlotFrame k s (startBurst k s) := by
  unfold startBurst
  dsimp only
  split
  · exact SlotFrame.refl _ _
  · exact (State.setChannel_slotFrame _ _ _).trans
      ((State.setCompare_slotFrame _ _ _).trans (startPass_slotFrame _ _ _ _))

@[simp] theorem burstPoint_frame (k : Slot) (s : State) :
    (burstPoint k s).part = s.part ∧ (burstPoint k s).lines = s.lines ∧ (burstPoint k s).store = s.store
      ∧ (burstPoint k s).zone = s.zone ∧ (burstPoint k s).clock = s.clock ∧ (burstPoint k s).ret = s.ret
      ∧ (burstPoint k s).link = s.link ∧ (burstPoint k s).races = s.races
      ∧ (burstPoint k s).pending = s.pending ∧ (∀ j, (burstPoint k s).throttle j = s.throttle j)
      ∧ (burstPoint k s).acct.accel = s.acct.accel ∧ (burstPoint k s).acct.wEx = s.acct.wEx
      ∧ (burstPoint k s).acct.wSt = s.acct.wSt ∧ (burstPoint k s).acct.interval = s.acct.interval
      ∧ (burstPoint k s).acct.counts = s.acct.counts ∧ (burstPoint k s).acct.holdover = s.acct.holdover
      ∧ (burstPoint k s).acct.snapshot = s.acct.snapshot
      ∧ (∀ j, ((burstPoint k s).acct.sets.get j).tag = (s.acct.sets.get j).tag)
      ∧ (burstPoint k s).alert.inService = s.alert.inService ∧ (burstPoint k s).alert.mask = s.alert.mask
      ∧ (burstPoint k s).alert.priority = s.alert.priority ∧ (burstPoint k s).alert.base = s.alert.base
      ∧ (burstPoint k s).alert.delivery = s.alert.delivery ∧ (burstPoint k s).log.epoch = s.log.epoch := by
  unfold burstPoint
  dsimp only
  split
  · split <;> simp
  · simp

@[simp] theorem burstPoint_slotFields (k : Slot) (s : State) (j : Slot) :
    ((burstPoint k s).slot j).board = (s.slot j).board
      ∧ ((burstPoint k s).slot j).identity = (s.slot j).identity
      ∧ ((burstPoint k s).slot j).descriptor = (s.slot j).descriptor
      ∧ ((burstPoint k s).slot j).status = (s.slot j).status
      ∧ ((burstPoint k s).slot j).active = (s.slot j).active
      ∧ ((burstPoint k s).slot j).staged = (s.slot j).staged
      ∧ ((burstPoint k s).slot j).railTrip = (s.slot j).railTrip
      ∧ ((burstPoint k s).slot j).burstDone = (s.slot j).burstDone
      ∧ ((burstPoint k s).slot j).applyDone = (s.slot j).applyDone
      ∧ ((burstPoint k s).slot j).abandoned = (s.slot j).abandoned
      ∧ ((burstPoint k s).slot j).applyDeferred = (s.slot j).applyDeferred
      ∧ ((burstPoint k s).slot j).vcore = (s.slot j).vcore ∧ ((burstPoint k s).slot j).vio = (s.slot j).vio
      ∧ ((burstPoint k s).slot j).ramp = (s.slot j).ramp
      ∧ ((burstPoint k s).slot j).dwell = (s.slot j).dwell
      ∧ ((burstPoint k s).slot j).drain = (s.slot j).drain
      ∧ ((burstPoint k s).slot j).drainLimit = (s.slot j).drainLimit
      ∧ ((burstPoint k s).slot j).identLimit = (s.slot j).identLimit := by
  unfold burstPoint
  dsimp only
  split
  · split <;> simp
  · simp

theorem burstPoint_slotFrame (k : Slot) (s : State) :
    SlotFrame k s (burstPoint k s) := by
  unfold burstPoint
  dsimp only
  split
  · split
    · exact (State.setChannel_slotFrame _ _ _).trans (State.setChannel_slotFrame _ _ _)
    · exact (State.setChannel_slotFrame _ _ _).trans (startBurst_slotFrame _ _)
  · exact State.setChannel_slotFrame _ _ _

@[simp] theorem functionalVerdict_frame (k : Slot) (m : Table 32 Bool) (n : Nat) (p : Fin 32) (i : Socket) (s : State) :
    (functionalVerdict k m n p i s).part = s.part ∧ (functionalVerdict k m n p i s).lines = s.lines
      ∧ (functionalVerdict k m n p i s).scan = s.scan ∧ (functionalVerdict k m n p i s).store = s.store
      ∧ (functionalVerdict k m n p i s).chan = s.chan ∧ (functionalVerdict k m n p i s).zone = s.zone
      ∧ (functionalVerdict k m n p i s).clock = s.clock ∧ (functionalVerdict k m n p i s).ret = s.ret
      ∧ (functionalVerdict k m n p i s).link = s.link ∧ (functionalVerdict k m n p i s).races = s.races
      ∧ (functionalVerdict k m n p i s).pending = s.pending
      ∧ (∀ j, (functionalVerdict k m n p i s).scanner j = s.scanner j)
      ∧ (∀ j, (functionalVerdict k m n p i s).channel j = s.channel j)
      ∧ (∀ j, (functionalVerdict k m n p i s).throttle j = s.throttle j)
      ∧ (functionalVerdict k m n p i s).acct.accel = s.acct.accel
      ∧ (functionalVerdict k m n p i s).acct.wEx = s.acct.wEx
      ∧ (functionalVerdict k m n p i s).acct.wSt = s.acct.wSt
      ∧ (functionalVerdict k m n p i s).acct.interval = s.acct.interval
      ∧ (functionalVerdict k m n p i s).acct.counts = s.acct.counts
      ∧ (functionalVerdict k m n p i s).acct.holdover = s.acct.holdover
      ∧ (functionalVerdict k m n p i s).acct.snapshot = s.acct.snapshot
      ∧ (∀ j, ((functionalVerdict k m n p i s).acct.sets.get j).tag = (s.acct.sets.get j).tag)
      ∧ (functionalVerdict k m n p i s).alert.inService = s.alert.inService
      ∧ (functionalVerdict k m n p i s).alert.mask = s.alert.mask
      ∧ (functionalVerdict k m n p i s).alert.priority = s.alert.priority
      ∧ (functionalVerdict k m n p i s).alert.base = s.alert.base
      ∧ (functionalVerdict k m n p i s).alert.delivery = s.alert.delivery
      ∧ (functionalVerdict k m n p i s).log.epoch = s.log.epoch := by
  unfold functionalVerdict
  dsimp only
  split <;> simp

@[simp] theorem functionalVerdict_slotFields (k : Slot) (m : Table 32 Bool) (n : Nat) (p : Fin 32) (i : Socket) (s : State) (j : Slot) :
    ((functionalVerdict k m n p i s).slot j).board = (s.slot j).board
      ∧ ((functionalVerdict k m n p i s).slot j).identity = (s.slot j).identity
      ∧ ((functionalVerdict k m n p i s).slot j).descriptor = (s.slot j).descriptor
      ∧ ((functionalVerdict k m n p i s).slot j).status = (s.slot j).status
      ∧ ((functionalVerdict k m n p i s).slot j).active = (s.slot j).active
      ∧ ((functionalVerdict k m n p i s).slot j).staged = (s.slot j).staged
      ∧ ((functionalVerdict k m n p i s).slot j).railTrip = (s.slot j).railTrip
      ∧ ((functionalVerdict k m n p i s).slot j).socketTrip = (s.slot j).socketTrip
      ∧ ((functionalVerdict k m n p i s).slot j).burstDone = (s.slot j).burstDone
      ∧ ((functionalVerdict k m n p i s).slot j).applyDone = (s.slot j).applyDone
      ∧ ((functionalVerdict k m n p i s).slot j).abandoned = (s.slot j).abandoned
      ∧ ((functionalVerdict k m n p i s).slot j).applyDeferred = (s.slot j).applyDeferred
      ∧ ((functionalVerdict k m n p i s).slot j).vcore = (s.slot j).vcore
      ∧ ((functionalVerdict k m n p i s).slot j).vio = (s.slot j).vio
      ∧ ((functionalVerdict k m n p i s).slot j).ramp = (s.slot j).ramp
      ∧ ((functionalVerdict k m n p i s).slot j).dwell = (s.slot j).dwell
      ∧ ((functionalVerdict k m n p i s).slot j).drain = (s.slot j).drain
      ∧ ((functionalVerdict k m n p i s).slot j).drainLimit = (s.slot j).drainLimit
      ∧ ((functionalVerdict k m n p i s).slot j).identLimit = (s.slot j).identLimit := by
  unfold functionalVerdict
  dsimp only
  split <;> simp

theorem functionalVerdict_slotFrame (k : Slot) (m : Table 32 Bool) (n : Nat) (p : Fin 32) (i : Socket) (s : State) :
    SlotFrame k s (functionalVerdict k m n p i s) := by
  unfold functionalVerdict
  dsimp only
  split
  · exact reportFailure_slotFrame _ _ _ _ _
  · exact SlotFrame.refl _ _

@[simp] theorem functionalVerdicts_frame (k : Slot) (m : Table 32 Bool) (n : Nat) (p : Fin 32) (l : List Socket) (s : State) :
    (forSockets l (functionalVerdict k m n p) s).part = s.part
      ∧ (forSockets l (functionalVerdict k m n p) s).lines = s.lines
      ∧ (forSockets l (functionalVerdict k m n p) s).scan = s.scan
      ∧ (forSockets l (functionalVerdict k m n p) s).store = s.store
      ∧ (forSockets l (functionalVerdict k m n p) s).chan = s.chan
      ∧ (forSockets l (functionalVerdict k m n p) s).zone = s.zone
      ∧ (forSockets l (functionalVerdict k m n p) s).clock = s.clock
      ∧ (forSockets l (functionalVerdict k m n p) s).ret = s.ret
      ∧ (forSockets l (functionalVerdict k m n p) s).link = s.link
      ∧ (forSockets l (functionalVerdict k m n p) s).races = s.races
      ∧ (forSockets l (functionalVerdict k m n p) s).pending = s.pending
      ∧ (∀ j, (forSockets l (functionalVerdict k m n p) s).scanner j = s.scanner j)
      ∧ (∀ j, (forSockets l (functionalVerdict k m n p) s).channel j = s.channel j)
      ∧ (∀ j, (forSockets l (functionalVerdict k m n p) s).throttle j = s.throttle j)
      ∧ (forSockets l (functionalVerdict k m n p) s).acct.accel = s.acct.accel
      ∧ (forSockets l (functionalVerdict k m n p) s).acct.wEx = s.acct.wEx
      ∧ (forSockets l (functionalVerdict k m n p) s).acct.wSt = s.acct.wSt
      ∧ (forSockets l (functionalVerdict k m n p) s).acct.interval = s.acct.interval
      ∧ (forSockets l (functionalVerdict k m n p) s).acct.counts = s.acct.counts
      ∧ (forSockets l (functionalVerdict k m n p) s).acct.holdover = s.acct.holdover
      ∧ (forSockets l (functionalVerdict k m n p) s).acct.snapshot = s.acct.snapshot
      ∧ (∀ j, ((forSockets l (functionalVerdict k m n p) s).acct.sets.get j).tag = (s.acct.sets.get j).tag)
      ∧ (forSockets l (functionalVerdict k m n p) s).alert.inService = s.alert.inService
      ∧ (forSockets l (functionalVerdict k m n p) s).alert.mask = s.alert.mask
      ∧ (forSockets l (functionalVerdict k m n p) s).alert.priority = s.alert.priority
      ∧ (forSockets l (functionalVerdict k m n p) s).alert.base = s.alert.base
      ∧ (forSockets l (functionalVerdict k m n p) s).alert.delivery = s.alert.delivery
      ∧ (forSockets l (functionalVerdict k m n p) s).log.epoch = s.log.epoch := by
  exact forSockets_frame _ _ _ (fun i u => by simp)

@[simp] theorem functionalVerdicts_slotFields (k : Slot) (m : Table 32 Bool) (n : Nat) (p : Fin 32) (l : List Socket) (s : State) (j : Slot) :
    ((forSockets l (functionalVerdict k m n p) s).slot j).board = (s.slot j).board
      ∧ ((forSockets l (functionalVerdict k m n p) s).slot j).identity = (s.slot j).identity
      ∧ ((forSockets l (functionalVerdict k m n p) s).slot j).descriptor = (s.slot j).descriptor
      ∧ ((forSockets l (functionalVerdict k m n p) s).slot j).status = (s.slot j).status
      ∧ ((forSockets l (functionalVerdict k m n p) s).slot j).active = (s.slot j).active
      ∧ ((forSockets l (functionalVerdict k m n p) s).slot j).staged = (s.slot j).staged
      ∧ ((forSockets l (functionalVerdict k m n p) s).slot j).railTrip = (s.slot j).railTrip
      ∧ ((forSockets l (functionalVerdict k m n p) s).slot j).burstDone = (s.slot j).burstDone
      ∧ ((forSockets l (functionalVerdict k m n p) s).slot j).applyDone = (s.slot j).applyDone
      ∧ ((forSockets l (functionalVerdict k m n p) s).slot j).abandoned = (s.slot j).abandoned
      ∧ ((forSockets l (functionalVerdict k m n p) s).slot j).applyDeferred = (s.slot j).applyDeferred
      ∧ ((forSockets l (functionalVerdict k m n p) s).slot j).vcore = (s.slot j).vcore
      ∧ ((forSockets l (functionalVerdict k m n p) s).slot j).vio = (s.slot j).vio
      ∧ ((forSockets l (functionalVerdict k m n p) s).slot j).ramp = (s.slot j).ramp
      ∧ ((forSockets l (functionalVerdict k m n p) s).slot j).dwell = (s.slot j).dwell
      ∧ ((forSockets l (functionalVerdict k m n p) s).slot j).drain = (s.slot j).drain
      ∧ ((forSockets l (functionalVerdict k m n p) s).slot j).drainLimit = (s.slot j).drainLimit
      ∧ ((forSockets l (functionalVerdict k m n p) s).slot j).identLimit = (s.slot j).identLimit := by
  exact forSockets_slotFields _ _ _ _ (fun i u => by simp)

@[simp] theorem burstVerdicts_frame (k : Slot) (r : PatternRecord) (b : BurstConfig) (s : State) :
    (burstVerdicts k r b s).part = s.part ∧ (burstVerdicts k r b s).lines = s.lines
      ∧ (burstVerdicts k r b s).scan = s.scan ∧ (burstVerdicts k r b s).store = s.store
      ∧ (burstVerdicts k r b s).chan = s.chan ∧ (burstVerdicts k r b s).zone = s.zone
      ∧ (burstVerdicts k r b s).clock = s.clock ∧ (burstVerdicts k r b s).ret = s.ret
      ∧ (burstVerdicts k r b s).link = s.link ∧ (burstVerdicts k r b s).races = s.races
      ∧ (burstVerdicts k r b s).pending = s.pending ∧ (∀ j, (burstVerdicts k r b s).scanner j = s.scanner j)
      ∧ (∀ j, (burstVerdicts k r b s).channel j = s.channel j)
      ∧ (∀ j, (burstVerdicts k r b s).throttle j = s.throttle j)
      ∧ (burstVerdicts k r b s).acct.accel = s.acct.accel ∧ (burstVerdicts k r b s).acct.wEx = s.acct.wEx
      ∧ (burstVerdicts k r b s).acct.wSt = s.acct.wSt
      ∧ (burstVerdicts k r b s).acct.interval = s.acct.interval
      ∧ (burstVerdicts k r b s).acct.counts = s.acct.counts
      ∧ (burstVerdicts k r b s).acct.holdover = s.acct.holdover
      ∧ (burstVerdicts k r b s).acct.snapshot = s.acct.snapshot
      ∧ (∀ j, ((burstVerdicts k r b s).acct.sets.get j).tag = (s.acct.sets.get j).tag)
      ∧ (burstVerdicts k r b s).alert.inService = s.alert.inService
      ∧ (burstVerdicts k r b s).alert.mask = s.alert.mask
      ∧ (burstVerdicts k r b s).alert.priority = s.alert.priority
      ∧ (burstVerdicts k r b s).alert.base = s.alert.base
      ∧ (burstVerdicts k r b s).alert.delivery = s.alert.delivery
      ∧ (burstVerdicts k r b s).log.epoch = s.log.epoch := by
  simp [burstVerdicts]

@[simp] theorem burstVerdicts_slotFields (k : Slot) (r : PatternRecord) (b : BurstConfig) (s : State) (j : Slot) :
    ((burstVerdicts k r b s).slot j).board = (s.slot j).board
      ∧ ((burstVerdicts k r b s).slot j).identity = (s.slot j).identity
      ∧ ((burstVerdicts k r b s).slot j).descriptor = (s.slot j).descriptor
      ∧ ((burstVerdicts k r b s).slot j).status = (s.slot j).status
      ∧ ((burstVerdicts k r b s).slot j).active = (s.slot j).active
      ∧ ((burstVerdicts k r b s).slot j).staged = (s.slot j).staged
      ∧ ((burstVerdicts k r b s).slot j).railTrip = (s.slot j).railTrip
      ∧ ((burstVerdicts k r b s).slot j).burstDone = (s.slot j).burstDone
      ∧ ((burstVerdicts k r b s).slot j).applyDone = (s.slot j).applyDone
      ∧ ((burstVerdicts k r b s).slot j).abandoned = (s.slot j).abandoned
      ∧ ((burstVerdicts k r b s).slot j).applyDeferred = (s.slot j).applyDeferred
      ∧ ((burstVerdicts k r b s).slot j).vcore = (s.slot j).vcore
      ∧ ((burstVerdicts k r b s).slot j).vio = (s.slot j).vio
      ∧ ((burstVerdicts k r b s).slot j).ramp = (s.slot j).ramp
      ∧ ((burstVerdicts k r b s).slot j).dwell = (s.slot j).dwell
      ∧ ((burstVerdicts k r b s).slot j).drain = (s.slot j).drain
      ∧ ((burstVerdicts k r b s).slot j).drainLimit = (s.slot j).drainLimit
      ∧ ((burstVerdicts k r b s).slot j).identLimit = (s.slot j).identLimit := by
  simp [burstVerdicts]

theorem burstVerdicts_slotFrame (k : Slot) (r : PatternRecord) (b : BurstConfig) (s : State) :
    SlotFrame k s (burstVerdicts k r b s) := by
  exact (forSockets_slotFrame _ (fun i u => functionalVerdict_slotFrame _ _ _ _ _ _) _ _).trans
    ((completeRecord_slotFrame _ _ _ _).trans (State.setCompare_slotFrame _ _ _))

@[simp] theorem afterBurst_frame (k : Slot) (b : BurstConfig) (s : State) :
    (afterBurst k b s).part = s.part ∧ (afterBurst k b s).lines = s.lines
      ∧ (afterBurst k b s).store = s.store ∧ (afterBurst k b s).zone = s.zone
      ∧ (afterBurst k b s).clock = s.clock ∧ (afterBurst k b s).ret = s.ret
      ∧ (afterBurst k b s).link = s.link ∧ (afterBurst k b s).races = s.races
      ∧ (afterBurst k b s).pending = s.pending ∧ (∀ j, (afterBurst k b s).throttle j = s.throttle j)
      ∧ (afterBurst k b s).acct.accel = s.acct.accel ∧ (afterBurst k b s).acct.wEx = s.acct.wEx
      ∧ (afterBurst k b s).acct.wSt = s.acct.wSt ∧ (afterBurst k b s).acct.interval = s.acct.interval
      ∧ (afterBurst k b s).acct.counts = s.acct.counts ∧ (afterBurst k b s).acct.holdover = s.acct.holdover
      ∧ (afterBurst k b s).acct.snapshot = s.acct.snapshot
      ∧ (∀ j, ((afterBurst k b s).acct.sets.get j).tag = (s.acct.sets.get j).tag)
      ∧ (afterBurst k b s).alert.inService = s.alert.inService
      ∧ (afterBurst k b s).alert.mask = s.alert.mask ∧ (afterBurst k b s).alert.priority = s.alert.priority
      ∧ (afterBurst k b s).alert.base = s.alert.base ∧ (afterBurst k b s).alert.delivery = s.alert.delivery
      ∧ (afterBurst k b s).log.epoch = s.log.epoch := by
  unfold afterBurst
  dsimp only
  split <;> simp

theorem afterBurst_slotFrame (k : Slot) (b : BurstConfig) (s : State) :
    SlotFrame k s (afterBurst k b s) := by
  unfold afterBurst
  dsimp only
  split
  · exact (State.setChannel_slotFrame _ _ _).trans (burstPoint_slotFrame _ _)
  · exact State.setChannel_slotFrame _ _ _
  · exact (State.setChannel_slotFrame _ _ _).trans
      ((State.setSlot_slotFrame _ _ _).trans (raiseSource_slotFrame _ _ _))
  · exact State.setChannel_slotFrame _ _ _

theorem burstEnd_cases (k : Slot) (s : State) :
    burstEnd k s = s
      ∨ ∃ p b, (s.channel k).atEnd = true ∧ (s.channel k).play = some p ∧ (s.channel k).active = some b
        ∧ burstEnd k s = afterBurst k b (endDeferred k false (burstVerdicts k p.record b s)) := by
  unfold burstEnd
  dsimp only
  split
  · next p b h1 h2 h3 => exact Or.inr ⟨p, b, h1, h2, h3, rfl⟩
  · exact Or.inl rfl

@[simp] theorem burstEnd_frame (k : Slot) (s : State) :
    (burstEnd k s).part = s.part ∧ (burstEnd k s).lines = s.lines ∧ (burstEnd k s).store = s.store
      ∧ (burstEnd k s).zone = s.zone ∧ (burstEnd k s).clock = s.clock ∧ (burstEnd k s).ret = s.ret
      ∧ (burstEnd k s).link = s.link ∧ (burstEnd k s).races = s.races ∧ (burstEnd k s).pending = s.pending
      ∧ (∀ j, (burstEnd k s).throttle j = s.throttle j) ∧ (burstEnd k s).acct.accel = s.acct.accel
      ∧ (burstEnd k s).acct.wEx = s.acct.wEx ∧ (burstEnd k s).acct.wSt = s.acct.wSt
      ∧ (burstEnd k s).acct.interval = s.acct.interval ∧ (burstEnd k s).acct.counts = s.acct.counts
      ∧ (burstEnd k s).acct.holdover = s.acct.holdover ∧ (burstEnd k s).acct.snapshot = s.acct.snapshot
      ∧ (∀ j, ((burstEnd k s).acct.sets.get j).tag = (s.acct.sets.get j).tag)
      ∧ (burstEnd k s).alert.inService = s.alert.inService ∧ (burstEnd k s).alert.mask = s.alert.mask
      ∧ (burstEnd k s).alert.priority = s.alert.priority ∧ (burstEnd k s).alert.base = s.alert.base
      ∧ (burstEnd k s).alert.delivery = s.alert.delivery ∧ (burstEnd k s).log.epoch = s.log.epoch := by
  obtain e | ⟨p, b, _, _, _, e⟩ := burstEnd_cases k s <;> rw [e] <;> simp

theorem burstEnd_slotFrame (k : Slot) (s : State) :
    SlotFrame k s (burstEnd k s) := by
  obtain e | ⟨p, b, _, _, _, e⟩ := burstEnd_cases k s <;> rw [e]
  · exact SlotFrame.refl _ _
  · exact (burstVerdicts_slotFrame _ _ _ _).trans
      ((endDeferred_slotFrame _ _ _).trans (afterBurst_slotFrame _ _ _))

/-! ## Sensing -/

@[simp] theorem beginConversion_frame (k : Slot) (s : State) :
    (beginConversion k s).part = s.part ∧ (beginConversion k s).lines = s.lines
      ∧ (beginConversion k s).slots = s.slots ∧ (beginConversion k s).store = s.store
      ∧ (beginConversion k s).chan = s.chan ∧ (beginConversion k s).cmp = s.cmp
      ∧ (beginConversion k s).zone = s.zone ∧ (beginConversion k s).acct = s.acct
      ∧ (beginConversion k s).log = s.log ∧ (beginConversion k s).alert = s.alert
      ∧ (beginConversion k s).clock = s.clock ∧ (beginConversion k s).ret = s.ret
      ∧ (beginConversion k s).link = s.link ∧ (beginConversion k s).races = s.races
      ∧ (beginConversion k s).pending = s.pending ∧ (∀ j, (beginConversion k s).slot j = s.slot j)
      ∧ (∀ j, (beginConversion k s).channel j = s.channel j)
      ∧ (∀ j, (beginConversion k s).compare j = s.compare j)
      ∧ (∀ j, (beginConversion k s).throttle j = s.throttle j)
      ∧ (∀ j n, (beginConversion k s).socket j n = s.socket j n)
      ∧ (∀ j n, (beginConversion k s).record j n = s.record j n) := by
  simp [beginConversion]

theorem beginConversion_slotFrame (k : Slot) (s : State) :
    SlotFrame k s (beginConversion k s) := by
  exact State.setScanner_slotFrame _ _ _

@[simp] theorem beginRound_frame (k : Slot) (s : State) :
    (beginRound k s).part = s.part ∧ (beginRound k s).lines = s.lines ∧ (beginRound k s).slots = s.slots
      ∧ (beginRound k s).store = s.store ∧ (beginRound k s).chan = s.chan ∧ (beginRound k s).cmp = s.cmp
      ∧ (beginRound k s).zone = s.zone ∧ (beginRound k s).acct = s.acct ∧ (beginRound k s).log = s.log
      ∧ (beginRound k s).alert = s.alert ∧ (beginRound k s).clock = s.clock ∧ (beginRound k s).ret = s.ret
      ∧ (beginRound k s).link = s.link ∧ (beginRound k s).races = s.races
      ∧ (beginRound k s).pending = s.pending ∧ (∀ j, (beginRound k s).slot j = s.slot j)
      ∧ (∀ j, (beginRound k s).channel j = s.channel j) ∧ (∀ j, (beginRound k s).compare j = s.compare j)
      ∧ (∀ j, (beginRound k s).throttle j = s.throttle j)
      ∧ (∀ j n, (beginRound k s).socket j n = s.socket j n)
      ∧ (∀ j n, (beginRound k s).record j n = s.record j n) := by
  simp [beginRound]

theorem beginRound_slotFrame (k : Slot) (s : State) :
    SlotFrame k s (beginRound k s) := by
  exact State.setScanner_slotFrame _ _ _

@[simp] theorem stopScanner_frame (k : Slot) (s : State) :
    (stopScanner k s).part = s.part ∧ (stopScanner k s).lines = s.lines ∧ (stopScanner k s).slots = s.slots
      ∧ (stopScanner k s).store = s.store ∧ (stopScanner k s).chan = s.chan ∧ (stopScanner k s).cmp = s.cmp
      ∧ (stopScanner k s).zone = s.zone ∧ (stopScanner k s).acct = s.acct ∧ (stopScanner k s).log = s.log
      ∧ (stopScanner k s).alert = s.alert ∧ (stopScanner k s).clock = s.clock
      ∧ (stopScanner k s).ret = s.ret ∧ (stopScanner k s).link = s.link ∧ (stopScanner k s).races = s.races
      ∧ (stopScanner k s).pending = s.pending ∧ (∀ j, (stopScanner k s).slot j = s.slot j)
      ∧ (∀ j, (stopScanner k s).channel j = s.channel j) ∧ (∀ j, (stopScanner k s).compare j = s.compare j)
      ∧ (∀ j, (stopScanner k s).throttle j = s.throttle j)
      ∧ (∀ j n, (stopScanner k s).socket j n = s.socket j n)
      ∧ (∀ j n, (stopScanner k s).record j n = s.record j n) := by
  simp [stopScanner]

theorem stopScanner_slotFrame (k : Slot) (s : State) :
    SlotFrame k s (stopScanner k s) := by
  exact State.setScanner_slotFrame _ _ _

@[simp] theorem keepPartial_frame (k : Slot) (v : Option Nat) (s : State) :
    (keepPartial k v s).part = s.part ∧ (keepPartial k v s).lines = s.lines
      ∧ (keepPartial k v s).slots = s.slots ∧ (keepPartial k v s).store = s.store
      ∧ (keepPartial k v s).chan = s.chan ∧ (keepPartial k v s).cmp = s.cmp
      ∧ (keepPartial k v s).zone = s.zone ∧ (keepPartial k v s).acct = s.acct
      ∧ (keepPartial k v s).log = s.log ∧ (keepPartial k v s).alert = s.alert
      ∧ (keepPartial k v s).clock = s.clock ∧ (keepPartial k v s).ret = s.ret
      ∧ (keepPartial k v s).link = s.link ∧ (keepPartial k v s).races = s.races
      ∧ (keepPartial k v s).pending = s.pending ∧ (∀ j, (keepPartial k v s).slot j = s.slot j)
      ∧ (∀ j, (keepPartial k v s).channel j = s.channel j)
      ∧ (∀ j, (keepPartial k v s).compare j = s.compare j)
      ∧ (∀ j, (keepPartial k v s).throttle j = s.throttle j)
      ∧ (∀ j n, (keepPartial k v s).socket j n = s.socket j n)
      ∧ (∀ j n, (keepPartial k v s).record j n = s.record j n) := by
  simp [keepPartial]

theorem keepPartial_slotFrame (k : Slot) (v : Option Nat) (s : State) :
    SlotFrame k s (keepPartial k v s) := by
  exact State.setScanner_slotFrame _ _ _

theorem beginSet_cases (k : Slot) (s : State) : beginSet k s = s ∨ ∃ c, beginSet k s = s.setScanner k c := by
  unfold beginSet
  dsimp only
  split
  · split
    · exact Or.inr ⟨_, rfl⟩
    · exact Or.inl rfl
  · exact Or.inl rfl

@[simp] theorem beginSet_frame (k : Slot) (s : State) :
    (beginSet k s).part = s.part ∧ (beginSet k s).lines = s.lines ∧ (beginSet k s).slots = s.slots
      ∧ (beginSet k s).store = s.store ∧ (beginSet k s).chan = s.chan ∧ (beginSet k s).cmp = s.cmp
      ∧ (beginSet k s).zone = s.zone ∧ (beginSet k s).acct = s.acct ∧ (beginSet k s).log = s.log
      ∧ (beginSet k s).alert = s.alert ∧ (beginSet k s).clock = s.clock ∧ (beginSet k s).ret = s.ret
      ∧ (beginSet k s).link = s.link ∧ (beginSet k s).races = s.races ∧ (beginSet k s).pending = s.pending
      ∧ (∀ j, (beginSet k s).slot j = s.slot j) ∧ (∀ j, (beginSet k s).channel j = s.channel j)
      ∧ (∀ j, (beginSet k s).compare j = s.compare j) ∧ (∀ j, (beginSet k s).throttle j = s.throttle j)
      ∧ (∀ j n, (beginSet k s).socket j n = s.socket j n)
      ∧ (∀ j n, (beginSet k s).record j n = s.record j n) := by
  obtain e | ⟨c, e⟩ := beginSet_cases k s <;> rw [e] <;> simp

theorem beginSet_slotFrame (k : Slot) (s : State) :
    SlotFrame k s (beginSet k s) := by
  obtain e | ⟨c, e⟩ := beginSet_cases k s <;> rw [e]
  · exact SlotFrame.refl _ _
  · exact State.setScanner_slotFrame _ _ _

@[simp] theorem chooseNext_frame (k : Slot) (s : State) :
    (chooseNext k s).part = s.part ∧ (chooseNext k s).lines = s.lines ∧ (chooseNext k s).slots = s.slots
      ∧ (chooseNext k s).store = s.store ∧ (chooseNext k s).chan = s.chan ∧ (chooseNext k s).cmp = s.cmp
      ∧ (chooseNext k s).zone = s.zone ∧ (chooseNext k s).acct = s.acct ∧ (chooseNext k s).log = s.log
      ∧ (chooseNext k s).alert = s.alert ∧ (chooseNext k s).clock = s.clock ∧ (chooseNext k s).ret = s.ret
      ∧ (chooseNext k s).link = s.link ∧ (chooseNext k s).races = s.races
      ∧ (chooseNext k s).pending = s.pending ∧ (∀ j, (chooseNext k s).slot j = s.slot j)
      ∧ (∀ j, (chooseNext k s).channel j = s.channel j) ∧ (∀ j, (chooseNext k s).compare j = s.compare j)
      ∧ (∀ j, (chooseNext k s).throttle j = s.throttle j)
      ∧ (∀ j n, (chooseNext k s).socket j n = s.socket j n)
      ∧ (∀ j n, (chooseNext k s).record j n = s.record j n) := by
  simp [chooseNext]

theorem chooseNext_slotFrame (k : Slot) (s : State) :
    SlotFrame k s (chooseNext k s) := by
  exact (beginSet_slotFrame _ _).trans (beginConversion_slotFrame _ _)

@[simp] theorem startScanner_frame (k : Slot) (s : State) :
    (startScanner k s).part = s.part ∧ (startScanner k s).lines = s.lines
      ∧ (startScanner k s).slots = s.slots ∧ (startScanner k s).store = s.store
      ∧ (startScanner k s).chan = s.chan ∧ (startScanner k s).cmp = s.cmp ∧ (startScanner k s).zone = s.zone
      ∧ (startScanner k s).acct = s.acct ∧ (startScanner k s).log = s.log
      ∧ (startScanner k s).alert = s.alert ∧ (startScanner k s).clock = s.clock
      ∧ (startScanner k s).ret = s.ret ∧ (startScanner k s).link = s.link
      ∧ (startScanner k s).races = s.races ∧ (startScanner k s).pending = s.pending
      ∧ (∀ j, (startScanner k s).slot j = s.slot j) ∧ (∀ j, (startScanner k s).channel j = s.channel j)
      ∧ (∀ j, (startScanner k s).compare j = s.compare j)
      ∧ (∀ j, (startScanner k s).throttle j = s.throttle j)
      ∧ (∀ j n, (startScanner k s).socket j n = s.socket j n)
      ∧ (∀ j n, (startScanner k s).record j n = s.record j n) := by
  simp [startScanner]

theorem startScanner_slotFrame (k : Slot) (s : State) :
    SlotFrame k s (startScanner k s) := by
  exact (State.setScanner_slotFrame _ _ _).trans ((beginRound_slotFrame _ _).trans (chooseNext_slotFrame _ _))

theorem roundEndSignal_cases (k : Slot) (s : State) :
    roundEndSignal k s = s ∨ ∃ t, roundEndSignal k s = s.setThrottle k t := by
  unfold roundEndSignal
  split
  · exact Or.inr ⟨_, rfl⟩
  · exact Or.inl rfl

@[simp] theorem roundEndSignal_frame (k : Slot) (s : State) :
    (roundEndSignal k s).part = s.part ∧ (roundEndSignal k s).lines = s.lines
      ∧ (roundEndSignal k s).slots = s.slots ∧ (roundEndSignal k s).scan = s.scan
      ∧ (roundEndSignal k s).store = s.store ∧ (roundEndSignal k s).chan = s.chan
      ∧ (roundEndSignal k s).cmp = s.cmp ∧ (roundEndSignal k s).acct = s.acct
      ∧ (roundEndSignal k s).log = s.log ∧ (roundEndSignal k s).alert = s.alert
      ∧ (roundEndSignal k s).clock = s.clock ∧ (roundEndSignal k s).ret = s.ret
      ∧ (roundEndSignal k s).link = s.link ∧ (roundEndSignal k s).races = s.races
      ∧ (roundEndSignal k s).pending = s.pending ∧ (∀ j, (roundEndSignal k s).slot j = s.slot j)
      ∧ (∀ j, (roundEndSignal k s).scanner j = s.scanner j)
      ∧ (∀ j, (roundEndSignal k s).channel j = s.channel j)
      ∧ (∀ j, (roundEndSignal k s).compare j = s.compare j)
      ∧ (∀ j n, (roundEndSignal k s).socket j n = s.socket j n)
      ∧ (∀ j n, (roundEndSignal k s).record j n = s.record j n) := by
  obtain e | ⟨c, e⟩ := roundEndSignal_cases k s <;> rw [e] <;> simp

theorem roundEndSignal_slotFrame (k : Slot) (s : State) :
    SlotFrame k s (roundEndSignal k s) := by
  obtain e | ⟨c, e⟩ := roundEndSignal_cases k s <;> rw [e]
  · exact SlotFrame.refl _ _
  · exact State.setThrottle_slotFrame _ _ _

@[simp] theorem advanceRound_frame (k : Slot) (s : State) :
    (advanceRound k s).part = s.part ∧ (advanceRound k s).lines = s.lines
      ∧ (advanceRound k s).slots = s.slots ∧ (advanceRound k s).store = s.store
      ∧ (advanceRound k s).chan = s.chan ∧ (advanceRound k s).cmp = s.cmp ∧ (advanceRound k s).acct = s.acct
      ∧ (advanceRound k s).log = s.log ∧ (advanceRound k s).alert = s.alert
      ∧ (advanceRound k s).clock = s.clock ∧ (advanceRound k s).ret = s.ret
      ∧ (advanceRound k s).link = s.link ∧ (advanceRound k s).races = s.races
      ∧ (advanceRound k s).pending = s.pending ∧ (∀ j, (advanceRound k s).slot j = s.slot j)
      ∧ (∀ j, (advanceRound k s).channel j = s.channel j)
      ∧ (∀ j, (advanceRound k s).compare j = s.compare j)
      ∧ (∀ j n, (advanceRound k s).socket j n = s.socket j n)
      ∧ (∀ j n, (advanceRound k s).record j n = s.record j n) := by
  unfold advanceRound
  dsimp only
  split <;> simp

theorem advanceRound_slotFrame (k : Slot) (s : State) :
    SlotFrame k s (advanceRound k s) := by
  unfold advanceRound
  dsimp only
  split
  · exact State.setScanner_slotFrame _ _ _
  · exact (roundEndSignal_slotFrame _ _).trans (beginRound_slotFrame _ _)

@[simp] theorem sampleOn_frame (k : Slot) (i : Socket) (r : SampleRecord) (s : State) :
    (sampleOn k i r s).part = s.part ∧ (sampleOn k i r s).lines = s.lines ∧ (sampleOn k i r s).scan = s.scan
      ∧ (sampleOn k i r s).store = s.store ∧ (sampleOn k i r s).chan = s.chan
      ∧ (sampleOn k i r s).zone = s.zone ∧ (sampleOn k i r s).clock = s.clock
      ∧ (sampleOn k i r s).ret = s.ret ∧ (sampleOn k i r s).link = s.link
      ∧ (sampleOn k i r s).pending = s.pending ∧ (∀ j, (sampleOn k i r s).scanner j = s.scanner j)
      ∧ (∀ j, (sampleOn k i r s).channel j = s.channel j)
      ∧ (∀ j, (sampleOn k i r s).throttle j = s.throttle j) ∧ (sampleOn k i r s).acct.accel = s.acct.accel
      ∧ (sampleOn k i r s).acct.wEx = s.acct.wEx ∧ (sampleOn k i r s).acct.wSt = s.acct.wSt
      ∧ (sampleOn k i r s).acct.interval = s.acct.interval ∧ (sampleOn k i r s).acct.counts = s.acct.counts
      ∧ (sampleOn k i r s).acct.holdover = s.acct.holdover
      ∧ (sampleOn k i r s).acct.snapshot = s.acct.snapshot
      ∧ (∀ j, ((sampleOn k i r s).acct.sets.get j).tag = (s.acct.sets.get j).tag)
      ∧ (sampleOn k i r s).alert.inService = s.alert.inService
      ∧ (sampleOn k i r s).alert.mask = s.alert.mask ∧ (sampleOn k i r s).alert.priority = s.alert.priority
      ∧ (sampleOn k i r s).alert.base = s.alert.base ∧ (sampleOn k i r s).alert.delivery = s.alert.delivery
      ∧ (sampleOn k i r s).log.epoch = s.log.epoch := by
  unfold sampleOn
  dsimp only
  split <;> simp

@[simp] theorem sampleOn_slotFields (k : Slot) (i : Socket) (r : SampleRecord) (s : State) (j : Slot) :
    ((sampleOn k i r s).slot j).board = (s.slot j).board
      ∧ ((sampleOn k i r s).slot j).identity = (s.slot j).identity
      ∧ ((sampleOn k i r s).slot j).descriptor = (s.slot j).descriptor
      ∧ ((sampleOn k i r s).slot j).status = (s.slot j).status
      ∧ ((sampleOn k i r s).slot j).active = (s.slot j).active
      ∧ ((sampleOn k i r s).slot j).staged = (s.slot j).staged
      ∧ ((sampleOn k i r s).slot j).railTrip = (s.slot j).railTrip
      ∧ ((sampleOn k i r s).slot j).burstDone = (s.slot j).burstDone
      ∧ ((sampleOn k i r s).slot j).applyDone = (s.slot j).applyDone
      ∧ ((sampleOn k i r s).slot j).abandoned = (s.slot j).abandoned
      ∧ ((sampleOn k i r s).slot j).applyDeferred = (s.slot j).applyDeferred
      ∧ ((sampleOn k i r s).slot j).vcore = (s.slot j).vcore
      ∧ ((sampleOn k i r s).slot j).vio = (s.slot j).vio
      ∧ ((sampleOn k i r s).slot j).ramp = (s.slot j).ramp
      ∧ ((sampleOn k i r s).slot j).dwell = (s.slot j).dwell
      ∧ ((sampleOn k i r s).slot j).drain = (s.slot j).drain
      ∧ ((sampleOn k i r s).slot j).drainLimit = (s.slot j).drainLimit
      ∧ ((sampleOn k i r s).slot j).identLimit = (s.slot j).identLimit := by
  unfold sampleOn
  dsimp only
  split <;> simp

theorem sampleOn_slotFrame (k : Slot) (i : Socket) (r : SampleRecord) (s : State) :
    SlotFrame k s (sampleOn k i r s) := by
  unfold sampleOn
  dsimp only
  split
  · exact (State.setRecord_slotFrame _ _ _ _).trans
      ((State.setSocket_slotFrame _ _ _ _).trans (tripEither_slotFrame _ _ _ _ _))
  · exact (State.setSocket_slotFrame _ _ _ _).trans (tripEither_slotFrame _ _ _ _ _)

@[simp] theorem socketSample_frame (k : Slot) (i : Socket) (n : Nat) (t : Int) (s : State) :
    (socketSample k i n t s).part = s.part ∧ (socketSample k i n t s).lines = s.lines
      ∧ (socketSample k i n t s).store = s.store ∧ (socketSample k i n t s).chan = s.chan
      ∧ (socketSample k i n t s).zone = s.zone ∧ (socketSample k i n t s).clock = s.clock
      ∧ (socketSample k i n t s).ret = s.ret ∧ (socketSample k i n t s).link = s.link
      ∧ (socketSample k i n t s).pending = s.pending
      ∧ (∀ j, (socketSample k i n t s).channel j = s.channel j)
      ∧ (∀ j, (socketSample k i n t s).throttle j = s.throttle j)
      ∧ (socketSample k i n t s).acct.accel = s.acct.accel ∧ (socketSample k i n t s).acct.wEx = s.acct.wEx
      ∧ (socketSample k i n t s).acct.wSt = s.acct.wSt
      ∧ (socketSample k i n t s).acct.interval = s.acct.interval
      ∧ (socketSample k i n t s).acct.counts = s.acct.counts
      ∧ (socketSample k i n t s).acct.holdover = s.acct.holdover
      ∧ (socketSample k i n t s).acct.snapshot = s.acct.snapshot
      ∧ (∀ j, ((socketSample k i n t s).acct.sets.get j).tag = (s.acct.sets.get j).tag)
      ∧ (socketSample k i n t s).alert.inService = s.alert.inService
      ∧ (socketSample k i n t s).alert.mask = s.alert.mask
      ∧ (socketSample k i n t s).alert.priority = s.alert.priority
      ∧ (socketSample k i n t s).alert.base = s.alert.base
      ∧ (socketSample k i n t s).alert.delivery = s.alert.delivery
      ∧ (socketSample k i n t s).log.epoch = s.log.epoch := by
  unfold socketSample
  dsimp only
  split <;> simp

@[simp] theorem socketSample_slotFields (k : Slot) (i : Socket) (n : Nat) (t : Int) (s : State) (j : Slot) :
    ((socketSample k i n t s).slot j).board = (s.slot j).board
      ∧ ((socketSample k i n t s).slot j).identity = (s.slot j).identity
      ∧ ((socketSample k i n t s).slot j).descriptor = (s.slot j).descriptor
      ∧ ((socketSample k i n t s).slot j).status = (s.slot j).status
      ∧ ((socketSample k i n t s).slot j).active = (s.slot j).active
      ∧ ((socketSample k i n t s).slot j).staged = (s.slot j).staged
      ∧ ((socketSample k i n t s).slot j).railTrip = (s.slot j).railTrip
      ∧ ((socketSample k i n t s).slot j).burstDone = (s.slot j).burstDone
      ∧ ((socketSample k i n t s).slot j).applyDone = (s.slot j).applyDone
      ∧ ((socketSample k i n t s).slot j).abandoned = (s.slot j).abandoned
      ∧ ((socketSample k i n t s).slot j).applyDeferred = (s.slot j).applyDeferred
      ∧ ((socketSample k i n t s).slot j).vcore = (s.slot j).vcore
      ∧ ((socketSample k i n t s).slot j).vio = (s.slot j).vio
      ∧ ((socketSample k i n t s).slot j).ramp = (s.slot j).ramp
      ∧ ((socketSample k i n t s).slot j).dwell = (s.slot j).dwell
      ∧ ((socketSample k i n t s).slot j).drain = (s.slot j).drain
      ∧ ((socketSample k i n t s).slot j).drainLimit = (s.slot j).drainLimit
      ∧ ((socketSample k i n t s).slot j).identLimit = (s.slot j).identLimit := by
  unfold socketSample
  dsimp only
  split <;> simp

theorem socketSample_slotFrame (k : Slot) (i : Socket) (n : Nat) (t : Int) (s : State) :
    SlotFrame k s (socketSample k i n t s) := by
  unfold socketSample
  dsimp only
  split
  · exact (State.setScanner_slotFrame _ _ _).trans (sampleOn_slotFrame _ _ _ _)
  · exact State.setScanner_slotFrame _ _ _

@[simp] theorem socketArrival_frame (k : Slot) (i : Socket) (v : Option Int) (s : State) :
    (socketArrival k i v s).part = s.part ∧ (socketArrival k i v s).lines = s.lines
      ∧ (socketArrival k i v s).store = s.store ∧ (socketArrival k i v s).chan = s.chan
      ∧ (socketArrival k i v s).zone = s.zone ∧ (socketArrival k i v s).clock = s.clock
      ∧ (socketArrival k i v s).ret = s.ret ∧ (socketArrival k i v s).link = s.link
      ∧ (socketArrival k i v s).pending = s.pending ∧ (∀ j, (socketArrival k i v s).channel j = s.channel j)
      ∧ (∀ j, (socketArrival k i v s).throttle j = s.throttle j)
      ∧ (socketArrival k i v s).acct.accel = s.acct.accel ∧ (socketArrival k i v s).acct.wEx = s.acct.wEx
      ∧ (socketArrival k i v s).acct.wSt = s.acct.wSt
      ∧ (socketArrival k i v s).acct.interval = s.acct.interval
      ∧ (socketArrival k i v s).acct.counts = s.acct.counts
      ∧ (socketArrival k i v s).acct.holdover = s.acct.holdover
      ∧ (socketArrival k i v s).acct.snapshot = s.acct.snapshot
      ∧ (∀ j, ((socketArrival k i v s).acct.sets.get j).tag = (s.acct.sets.get j).tag)
      ∧ (socketArrival k i v s).alert.inService = s.alert.inService
      ∧ (socketArrival k i v s).alert.mask = s.alert.mask
      ∧ (socketArrival k i v s).alert.priority = s.alert.priority
      ∧ (socketArrival k i v s).alert.base = s.alert.base
      ∧ (socketArrival k i v s).alert.delivery = s.alert.delivery
      ∧ (socketArrival k i v s).log.epoch = s.log.epoch := by
  unfold socketArrival
  split <;> simp

@[simp] theorem socketArrival_slotFields (k : Slot) (i : Socket) (v : Option Int) (s : State) (j : Slot) :
    ((socketArrival k i v s).slot j).board = (s.slot j).board
      ∧ ((socketArrival k i v s).slot j).identity = (s.slot j).identity
      ∧ ((socketArrival k i v s).slot j).descriptor = (s.slot j).descriptor
      ∧ ((socketArrival k i v s).slot j).status = (s.slot j).status
      ∧ ((socketArrival k i v s).slot j).active = (s.slot j).active
      ∧ ((socketArrival k i v s).slot j).staged = (s.slot j).staged
      ∧ ((socketArrival k i v s).slot j).railTrip = (s.slot j).railTrip
      ∧ ((socketArrival k i v s).slot j).burstDone = (s.slot j).burstDone
      ∧ ((socketArrival k i v s).slot j).applyDone = (s.slot j).applyDone
      ∧ ((socketArrival k i v s).slot j).abandoned = (s.slot j).abandoned
      ∧ ((socketArrival k i v s).slot j).applyDeferred = (s.slot j).applyDeferred
      ∧ ((socketArrival k i v s).slot j).vcore = (s.slot j).vcore
      ∧ ((socketArrival k i v s).slot j).vio = (s.slot j).vio
      ∧ ((socketArrival k i v s).slot j).ramp = (s.slot j).ramp
      ∧ ((socketArrival k i v s).slot j).dwell = (s.slot j).dwell
      ∧ ((socketArrival k i v s).slot j).drain = (s.slot j).drain
      ∧ ((socketArrival k i v s).slot j).drainLimit = (s.slot j).drainLimit
      ∧ ((socketArrival k i v s).slot j).identLimit = (s.slot j).identLimit := by
  unfold socketArrival
  split <;> simp

theorem socketArrival_slotFrame (k : Slot) (i : Socket) (v : Option Int) (s : State) :
    SlotFrame k s (socketArrival k i v s) := by
  unfold socketArrival
  split
  · exact socketSample_slotFrame _ _ _ _ _
  · exact SlotFrame.refl _ _

@[simp] theorem railArrival_frame (k : Slot) (r : Rail) (v : Option Int) (s : State) :
    (railArrival k r v s).part = s.part ∧ (railArrival k r v s).lines = s.lines
      ∧ (railArrival k r v s).store = s.store ∧ (railArrival k r v s).clock = s.clock
      ∧ (railArrival k r v s).ret = s.ret ∧ (railArrival k r v s).link = s.link
      ∧ (railArrival k r v s).pending = s.pending ∧ (railArrival k r v s).acct.accel = s.acct.accel
      ∧ (railArrival k r v s).acct.wEx = s.acct.wEx ∧ (railArrival k r v s).acct.wSt = s.acct.wSt
      ∧ (railArrival k r v s).acct.interval = s.acct.interval
      ∧ (railArrival k r v s).acct.counts = s.acct.counts
      ∧ (railArrival k r v s).acct.holdover = s.acct.holdover
      ∧ (railArrival k r v s).acct.snapshot = s.acct.snapshot
      ∧ (∀ j, ((railArrival k r v s).acct.sets.get j).tag = (s.acct.sets.get j).tag)
      ∧ (railArrival k r v s).alert.inService = s.alert.inService
      ∧ (railArrival k r v s).alert.mask = s.alert.mask
      ∧ (railArrival k r v s).alert.priority = s.alert.priority
      ∧ (railArrival k r v s).alert.base = s.alert.base
      ∧ (railArrival k r v s).alert.delivery = s.alert.delivery
      ∧ (railArrival k r v s).log.epoch = s.log.epoch := by
  unfold railArrival
  split <;> simp

theorem railArrival_slotFrame (k : Slot) (r : Rail) (v : Option Int) (s : State) :
    SlotFrame k s (railArrival k r v s) := by
  unfold railArrival
  split
  · exact (State.setScanner_slotFrame _ _ _).trans (railSample_slotFrame _ _ _ _ _)
  · exact SlotFrame.refl _ _

@[simp] theorem routineResult_frame (k : Slot) (p n : Nat) (v : Option Int) (s : State) :
    (routineResult k p n v s).part = s.part ∧ (routineResult k p n v s).lines = s.lines
      ∧ (routineResult k p n v s).store = s.store ∧ (routineResult k p n v s).clock = s.clock
      ∧ (routineResult k p n v s).ret = s.ret ∧ (routineResult k p n v s).link = s.link
      ∧ (routineResult k p n v s).pending = s.pending ∧ (routineResult k p n v s).acct.accel = s.acct.accel
      ∧ (routineResult k p n v s).acct.wEx = s.acct.wEx ∧ (routineResult k p n v s).acct.wSt = s.acct.wSt
      ∧ (routineResult k p n v s).acct.interval = s.acct.interval
      ∧ (routineResult k p n v s).acct.counts = s.acct.counts
      ∧ (routineResult k p n v s).acct.holdover = s.acct.holdover
      ∧ (routineResult k p n v s).acct.snapshot = s.acct.snapshot
      ∧ (∀ j, ((routineResult k p n v s).acct.sets.get j).tag = (s.acct.sets.get j).tag)
      ∧ (routineResult k p n v s).alert.inService = s.alert.inService
      ∧ (routineResult k p n v s).alert.mask = s.alert.mask
      ∧ (routineResult k p n v s).alert.priority = s.alert.priority
      ∧ (routineResult k p n v s).alert.base = s.alert.base
      ∧ (routineResult k p n v s).alert.delivery = s.alert.delivery
      ∧ (routineResult k p n v s).log.epoch = s.log.epoch := by
  unfold routineResult
  split <;> first | (simp; done) | (split <;> simp)

theorem routineResult_slotFrame (k : Slot) (p n : Nat) (v : Option Int) (s : State) :
    SlotFrame k s (routineResult k p n v s) := by
  unfold routineResult
  split
  · exact keepPartial_slotFrame _ _ _
  · exact keepPartial_slotFrame _ _ _
  · exact (railArrival_slotFrame _ _ _ _).trans (keepPartial_slotFrame _ _ _)
  · exact (railArrival_slotFrame _ _ _ _).trans (keepPartial_slotFrame _ _ _)
  · split
    · exact keepPartial_slotFrame _ _ _
    · exact (socketArrival_slotFrame _ _ _ _).trans (keepPartial_slotFrame _ _ _)

@[simp] theorem routineEnd_frame (k : Slot) (c : Conversion) (v : Option Int) (s : State) :
    (routineEnd k c v s).part = s.part ∧ (routineEnd k c v s).lines = s.lines
      ∧ (routineEnd k c v s).store = s.store ∧ (routineEnd k c v s).clock = s.clock
      ∧ (routineEnd k c v s).ret = s.ret ∧ (routineEnd k c v s).link = s.link
      ∧ (routineEnd k c v s).pending = s.pending ∧ (routineEnd k c v s).acct.accel = s.acct.accel
      ∧ (routineEnd k c v s).acct.wEx = s.acct.wEx ∧ (routineEnd k c v s).acct.wSt = s.acct.wSt
      ∧ (routineEnd k c v s).acct.interval = s.acct.interval
      ∧ (routineEnd k c v s).acct.counts = s.acct.counts
      ∧ (routineEnd k c v s).acct.holdover = s.acct.holdover
      ∧ (routineEnd k c v s).acct.snapshot = s.acct.snapshot
      ∧ (∀ j, ((routineEnd k c v s).acct.sets.get j).tag = (s.acct.sets.get j).tag)
      ∧ (routineEnd k c v s).alert.inService = s.alert.inService
      ∧ (routineEnd k c v s).alert.mask = s.alert.mask
      ∧ (routineEnd k c v s).alert.priority = s.alert.priority
      ∧ (routineEnd k c v s).alert.base = s.alert.base
      ∧ (routineEnd k c v s).alert.delivery = s.alert.delivery
      ∧ (routineEnd k c v s).log.epoch = s.log.epoch := by
  unfold routineEnd
  split <;> simp

theorem routineEnd_slotFrame (k : Slot) (c : Conversion) (v : Option Int) (s : State) :
    SlotFrame k s (routineEnd k c v s) := by
  unfold routineEnd
  split
  · exact beginRound_slotFrame _ _
  · exact (routineResult_slotFrame _ _ _ _ _).trans (advanceRound_slotFrame _ _)

@[simp] theorem captureResult_frame (k : Slot) (t : CaptureSet) (n : Nat) (v : Option Int) (s : State) :
    (captureResult k t n v s).part = s.part ∧ (captureResult k t n v s).lines = s.lines
      ∧ (captureResult k t n v s).scan = s.scan ∧ (captureResult k t n v s).store = s.store
      ∧ (captureResult k t n v s).chan = s.chan ∧ (captureResult k t n v s).zone = s.zone
      ∧ (captureResult k t n v s).clock = s.clock ∧ (captureResult k t n v s).ret = s.ret
      ∧ (captureResult k t n v s).link = s.link ∧ (captureResult k t n v s).races = s.races
      ∧ (captureResult k t n v s).pending = s.pending
      ∧ (∀ j, (captureResult k t n v s).scanner j = s.scanner j)
      ∧ (∀ j, (captureResult k t n v s).channel j = s.channel j)
      ∧ (∀ j, (captureResult k t n v s).throttle j = s.throttle j)
      ∧ (captureResult k t n v s).acct.accel = s.acct.accel
      ∧ (captureResult k t n v s).acct.wEx = s.acct.wEx ∧ (captureResult k t n v s).acct.wSt = s.acct.wSt
      ∧ (captureResult k t n v s).acct.interval = s.acct.interval
      ∧ (captureResult k t n v s).acct.counts = s.acct.counts
      ∧ (captureResult k t n v s).acct.holdover = s.acct.holdover
      ∧ (captureResult k t n v s).acct.snapshot = s.acct.snapshot
      ∧ (∀ j, ((captureResult k t n v s).acct.sets.get j).tag = (s.acct.sets.get j).tag)
      ∧ (captureResult k t n v s).alert.inService = s.alert.inService
      ∧ (captureResult k t n v s).alert.mask = s.alert.mask
      ∧ (captureResult k t n v s).alert.priority = s.alert.priority
      ∧ (captureResult k t n v s).alert.base = s.alert.base
      ∧ (captureResult k t n v s).alert.delivery = s.alert.delivery
      ∧ (captureResult k t n v s).log.epoch = s.log.epoch := by
  unfold captureResult
  split
  · split <;> simp
  · simp

@[simp] theorem captureResult_slotFields (k : Slot) (t : CaptureSet) (n : Nat) (v : Option Int) (s : State) (j : Slot) :
    ((captureResult k t n v s).slot j).board = (s.slot j).board
      ∧ ((captureResult k t n v s).slot j).identity = (s.slot j).identity
      ∧ ((captureResult k t n v s).slot j).descriptor = (s.slot j).descriptor
      ∧ ((captureResult k t n v s).slot j).status = (s.slot j).status
      ∧ ((captureResult k t n v s).slot j).active = (s.slot j).active
      ∧ ((captureResult k t n v s).slot j).staged = (s.slot j).staged
      ∧ ((captureResult k t n v s).slot j).railTrip = (s.slot j).railTrip
      ∧ ((captureResult k t n v s).slot j).burstDone = (s.slot j).burstDone
      ∧ ((captureResult k t n v s).slot j).applyDone = (s.slot j).applyDone
      ∧ ((captureResult k t n v s).slot j).abandoned = (s.slot j).abandoned
      ∧ ((captureResult k t n v s).slot j).applyDeferred = (s.slot j).applyDeferred
      ∧ ((captureResult k t n v s).slot j).vcore = (s.slot j).vcore
      ∧ ((captureResult k t n v s).slot j).vio = (s.slot j).vio
      ∧ ((captureResult k t n v s).slot j).ramp = (s.slot j).ramp
      ∧ ((captureResult k t n v s).slot j).dwell = (s.slot j).dwell
      ∧ ((captureResult k t n v s).slot j).drain = (s.slot j).drain
      ∧ ((captureResult k t n v s).slot j).drainLimit = (s.slot j).drainLimit
      ∧ ((captureResult k t n v s).slot j).identLimit = (s.slot j).identLimit := by
  unfold captureResult
  split
  · split <;> simp
  · simp

theorem captureResult_slotFrame (k : Slot) (t : CaptureSet) (n : Nat) (v : Option Int) (s : State) :
    SlotFrame k s (captureResult k t n v s) := by
  unfold captureResult
  split
  · split
    · exact SlotFrame.refl _ _
    · exact deliver_slotFrame _ _ _ _
  · exact SlotFrame.refl _ _

@[simp] theorem advanceSet_frame (k : Slot) (t : CaptureSet) (s : State) :
    (advanceSet k t s).part = s.part ∧ (advanceSet k t s).lines = s.lines
      ∧ (advanceSet k t s).store = s.store ∧ (advanceSet k t s).chan = s.chan
      ∧ (advanceSet k t s).zone = s.zone ∧ (advanceSet k t s).clock = s.clock
      ∧ (advanceSet k t s).ret = s.ret ∧ (advanceSet k t s).link = s.link
      ∧ (advanceSet k t s).races = s.races ∧ (advanceSet k t s).pending = s.pending
      ∧ (∀ j, (advanceSet k t s).channel j = s.channel j)
      ∧ (∀ j, (advanceSet k t s).throttle j = s.throttle j) ∧ (advanceSet k t s).acct.accel = s.acct.accel
      ∧ (advanceSet k t s).acct.wEx = s.acct.wEx ∧ (advanceSet k t s).acct.wSt = s.acct.wSt
      ∧ (advanceSet k t s).acct.interval = s.acct.interval ∧ (advanceSet k t s).acct.counts = s.acct.counts
      ∧ (advanceSet k t s).acct.holdover = s.acct.holdover
      ∧ (advanceSet k t s).acct.snapshot = s.acct.snapshot
      ∧ (∀ j, ((advanceSet k t s).acct.sets.get j).tag = (s.acct.sets.get j).tag)
      ∧ (advanceSet k t s).alert.inService = s.alert.inService
      ∧ (advanceSet k t s).alert.mask = s.alert.mask ∧ (advanceSet k t s).alert.priority = s.alert.priority
      ∧ (advanceSet k t s).alert.base = s.alert.base ∧ (advanceSet k t s).alert.delivery = s.alert.delivery
      ∧ (advanceSet k t s).log.epoch = s.log.epoch := by
  unfold advanceSet
  dsimp only
  split
  · simp
  · split <;> simp

@[simp] theorem advanceSet_slotFields (k : Slot) (t : CaptureSet) (s : State) (j : Slot) :
    ((advanceSet k t s).slot j).board = (s.slot j).board
      ∧ ((advanceSet k t s).slot j).identity = (s.slot j).identity
      ∧ ((advanceSet k t s).slot j).descriptor = (s.slot j).descriptor
      ∧ ((advanceSet k t s).slot j).status = (s.slot j).status
      ∧ ((advanceSet k t s).slot j).active = (s.slot j).active
      ∧ ((advanceSet k t s).slot j).staged = (s.slot j).staged
      ∧ ((advanceSet k t s).slot j).railTrip = (s.slot j).railTrip
      ∧ ((advanceSet k t s).slot j).burstDone = (s.slot j).burstDone
      ∧ ((advanceSet k t s).slot j).applyDone = (s.slot j).applyDone
      ∧ ((advanceSet k t s).slot j).abandoned = (s.slot j).abandoned
      ∧ ((advanceSet k t s).slot j).applyDeferred = (s.slot j).applyDeferred
      ∧ ((advanceSet k t s).slot j).vcore = (s.slot j).vcore
      ∧ ((advanceSet k t s).slot j).vio = (s.slot j).vio
      ∧ ((advanceSet k t s).slot j).ramp = (s.slot j).ramp
      ∧ ((advanceSet k t s).slot j).dwell = (s.slot j).dwell
      ∧ ((advanceSet k t s).slot j).drain = (s.slot j).drain
      ∧ ((advanceSet k t s).slot j).drainLimit = (s.slot j).drainLimit
      ∧ ((advanceSet k t s).slot j).identLimit = (s.slot j).identLimit := by
  unfold advanceSet
  dsimp only
  split
  · simp
  · split <;> simp

theorem advanceSet_slotFrame (k : Slot) (t : CaptureSet) (s : State) :
    SlotFrame k s (advanceSet k t s) := by
  unfold advanceSet
  dsimp only
  split
  · exact State.setScanner_slotFrame _ _ _
  · split
    · exact State.setScanner_slotFrame _ _ _
    · exact (State.setScanner_slotFrame _ _ _).trans (deliver_slotFrame _ _ _ _)

theorem conversionEnd_cases (k : Slot) (v : Option Int) (s : State) :
    conversionEnd k v s = s
      ∨ ∃ c, (s.scanner k).conversion = some c
        ∧ ((∃ t, (s.scanner k).converting = some t
            ∧ conversionEnd k v s = chooseNext k (advanceSet k t (captureResult k t c.fullScale v s)))
          ∨ ((s.scanner k).converting = none ∧ conversionEnd k v s = chooseNext k (routineEnd k c v s))) := by
  unfold conversionEnd
  dsimp only
  split
  · next c h1 h2 =>
    refine Or.inr ⟨c, h2, ?_⟩
    cases h : (s.scanner k).converting with
    | none => exact Or.inr ⟨rfl, rfl⟩
    | some t => exact Or.inl ⟨t, rfl, rfl⟩
  · exact Or.inl rfl

@[simp] theorem conversionEnd_frame (k : Slot) (v : Option Int) (s : State) :
    (conversionEnd k v s).part = s.part ∧ (conversionEnd k v s).lines = s.lines
      ∧ (conversionEnd k v s).store = s.store ∧ (conversionEnd k v s).clock = s.clock
      ∧ (conversionEnd k v s).ret = s.ret ∧ (conversionEnd k v s).link = s.link
      ∧ (conversionEnd k v s).pending = s.pending ∧ (conversionEnd k v s).acct.accel = s.acct.accel
      ∧ (conversionEnd k v s).acct.wEx = s.acct.wEx ∧ (conversionEnd k v s).acct.wSt = s.acct.wSt
      ∧ (conversionEnd k v s).acct.interval = s.acct.interval
      ∧ (conversionEnd k v s).acct.counts = s.acct.counts
      ∧ (conversionEnd k v s).acct.holdover = s.acct.holdover
      ∧ (conversionEnd k v s).acct.snapshot = s.acct.snapshot
      ∧ (∀ j, ((conversionEnd k v s).acct.sets.get j).tag = (s.acct.sets.get j).tag)
      ∧ (conversionEnd k v s).alert.inService = s.alert.inService
      ∧ (conversionEnd k v s).alert.mask = s.alert.mask
      ∧ (conversionEnd k v s).alert.priority = s.alert.priority
      ∧ (conversionEnd k v s).alert.base = s.alert.base
      ∧ (conversionEnd k v s).alert.delivery = s.alert.delivery
      ∧ (conversionEnd k v s).log.epoch = s.log.epoch := by
  obtain e | ⟨c, _, ⟨t, _, e⟩ | ⟨_, e⟩⟩ := conversionEnd_cases k v s <;> rw [e] <;> simp

theorem conversionEnd_slotFrame (k : Slot) (v : Option Int) (s : State) :
    SlotFrame k s (conversionEnd k v s) := by
  obtain e | ⟨c, _, ⟨t, _, e⟩ | ⟨_, e⟩⟩ := conversionEnd_cases k v s <;> rw [e]
  · exact SlotFrame.refl _ _
  · exact (captureResult_slotFrame _ _ _ _ _).trans ((advanceSet_slotFrame _ _ _).trans (chooseNext_slotFrame _ _))
  · exact (routineEnd_slotFrame _ _ _ _).trans (chooseNext_slotFrame _ _)

/-! ## Boards -/

@[simp] theorem enterIdent_frame (k : Slot) (s : State) :
    (enterIdent k s).part = s.part ∧ (enterIdent k s).lines = s.lines ∧ (enterIdent k s).store = s.store
      ∧ (enterIdent k s).chan = s.chan ∧ (enterIdent k s).cmp = s.cmp ∧ (enterIdent k s).zone = s.zone
      ∧ (enterIdent k s).acct = s.acct ∧ (enterIdent k s).log = s.log ∧ (enterIdent k s).alert = s.alert
      ∧ (enterIdent k s).clock = s.clock ∧ (enterIdent k s).ret = s.ret ∧ (enterIdent k s).link = s.link
      ∧ (enterIdent k s).races = s.races ∧ (enterIdent k s).pending = s.pending
      ∧ (∀ j, (enterIdent k s).channel j = s.channel j) ∧ (∀ j, (enterIdent k s).compare j = s.compare j)
      ∧ (∀ j, (enterIdent k s).throttle j = s.throttle j)
      ∧ (∀ j n, (enterIdent k s).record j n = s.record j n) := by
  simp [enterIdent]

theorem enterIdent_slotFrame (k : Slot) (s : State) :
    SlotFrame k s (enterIdent k s) := by
  exact (State.setSlot_slotFrame _ _ _).trans (startScanner_slotFrame _ _)

@[simp] theorem removeBoard_frame (k : Slot) (s : State) :
    (removeBoard k s).part = s.part ∧ (removeBoard k s).lines = s.lines ∧ (removeBoard k s).store = s.store
      ∧ (removeBoard k s).clock = s.clock ∧ (removeBoard k s).ret = s.ret ∧ (removeBoard k s).link = s.link
      ∧ (removeBoard k s).races = s.races ∧ (removeBoard k s).pending = s.pending
      ∧ (removeBoard k s).acct.accel = s.acct.accel ∧ (removeBoard k s).acct.wEx = s.acct.wEx
      ∧ (removeBoard k s).acct.wSt = s.acct.wSt ∧ (removeBoard k s).acct.interval = s.acct.interval
      ∧ (removeBoard k s).acct.counts = s.acct.counts ∧ (removeBoard k s).acct.holdover = s.acct.holdover
      ∧ (removeBoard k s).acct.snapshot = s.acct.snapshot
      ∧ (∀ j, ((removeBoard k s).acct.sets.get j).tag = (s.acct.sets.get j).tag)
      ∧ (removeBoard k s).alert.inService = s.alert.inService ∧ (removeBoard k s).alert.mask = s.alert.mask
      ∧ (removeBoard k s).alert.priority = s.alert.priority ∧ (removeBoard k s).alert.base = s.alert.base
      ∧ (removeBoard k s).alert.delivery = s.alert.delivery ∧ (removeBoard k s).log.epoch = s.log.epoch := by
  unfold removeBoard
  dsimp only
  split <;> simp [appendBoard]

theorem removeBoard_slotFrame (k : Slot) (s : State) :
    SlotFrame k s (removeBoard k s) := by
  have h : SlotFrame k s (stopScanner k ((dropClosing k (takeDown k .empty false s)).setSlot k
      ((dropClosing k (takeDown k .empty false s)).slot k).forgetBoard)) :=
    (takeDown_slotFrame _ _ _ _).trans ((State.setCompare_slotFrame _ _ _).trans
      ((State.setSlot_slotFrame _ _ _).trans (stopScanner_slotFrame _ _)))
  unfold removeBoard
  dsimp only
  split
  · exact h.trans (appendEntry_slotFrame _ _ _ _ _ _)
  · exact h

end Sys2Proof.Machine
end

