-- ==== Sys2Proof/Laws/Items.lean ====
section
/-!
SUPPORT. The items of BOARD-STAGE and ZONE-TUNE: what the model accepts and writes is what the statements' terms
in Sys2Proof/Safety.lean say.
-/

namespace Sys2Proof.Machine

open Safety

theorem tuneInRange_iff (i : TuneItem) : tuneInRange i = true ↔ TuneOk i := by
  simp only [tuneInRange, TuneOk]
  split <;> simp_all

theorem tuneItem_eq (t : Tuning) (i : TuneItem) : tuneItem t i = tunePut t i := by
  obtain ⟨code, value⟩ := i
  rcases code with _|_|_|_|_|_|_|_|_|_|_ <;> rfl

theorem laneMode_isSome (c : Nat) : (LaneMode.ofCode c).isSome = true ↔ c ≤ 3 := by
  rcases c with _|_|_|_|c <;> simp [LaneMode.ofCode]

theorem laneMapOf_isSome (e : Table 16 (Nat × Nat)) :
    (laneMapOf e).isSome = true ↔ ∀ l : Fin 16, (e.get l).1 ≤ 15 ∧ (e.get l).2 ≤ 3 := by
  unfold laneMapOf
  split
  · rename_i h
    simp only [List.all_eq_true, Bool.and_eq_true, decide_eq_true_eq, laneMode_isSome] at h
    exact iff_of_true rfl fun l => h _ (List.getElem_mem _)
  · rename_i h
    refine iff_of_false (by simp) fun g => h ?_
    simp only [List.all_eq_true, Bool.and_eq_true, decide_eq_true_eq, laneMode_isSome]
    intro x hx
    obtain ⟨j, hj, rfl⟩ := List.getElem_of_mem hx
    exact g ⟨j, by rw [← e.length_eq]; exact hj⟩

theorem stageInRange_iff (i : StageItem) : stageInRange i = true ↔ StageOk i := by
  cases i with
  | policy v => rcases v with _|_|v <;> simp [stageInRange, StageOk, FailPolicy.ofCode]
  | order v => rcases v with _|_|v <;> simp [stageInRange, StageOk, RailOrder.ofCode]
  | laneMap e => exact laneMapOf_isSome e
  | _ => simp [stageInRange, StageOk]

theorem stageLowered_eq (c : SlotCtl) (i : StageItem) :
    stageLowered c i = stageAbove (c.setpointMax .vcore) (c.setpointMax .vio) i := by cases i <;> rfl

/-- An item in range is written as `stagePut` says. -/
theorem stageItem_eq (c : SlotCtl) (t : Settings) (i : StageItem) (h : StageOk i) :
    stageItem c t i = stagePut (c.setpointMax .vcore) (c.setpointMax .vio) t i := by
  cases i with
  | policy v => rcases v with _|_|v <;> simp [StageOk] at h <;> rfl
  | order v => rcases v with _|_|v <;> simp [StageOk] at h <;> rfl
  | laneMap e =>
    have h1 := (laneMapOf_isSome e).2 h
    simp only [stageItem, stagePut, laneMapOf] at h1 ⊢
    split at h1
    · rename_i h2
      rw [if_pos h2, Option.getD_some]
      refine congrArg (fun m => { t with laneMap := m }) (Table.ext_get fun l => ?_)
      simp only [Table.get_map]
      have h3 := (h l).2
      generalize (e.get l).2 = m at h3
      rcases m with _|_|_|_|m
      · rfl
      · rfl
      · rfl
      · rfl
      · omega
    · simp at h1
  | phases v =>
    refine congrArg (fun m => { t with phases := m }) (Table.ext_get fun g => ?_)
    simp only [phasesOf, Table.get_ofFn, Nat.pow_mul]
  | _ => rfl

end Sys2Proof.Machine
end

