-- ==== Sys2Proof/Laws/Store.lean ====
section
/-!
SUPPORT. The pattern store: read after write, and that every write keeps the canonical form.
-/

namespace Sys2Proof.Machine

/-! ## One cell -/

/-- R58: an index reads as the vector just written to it. -/
theorem lookupCell_writeCell_same (i : Nat) (v : PatVector) (lo : Option Nat) (l : List (Nat × PatVector))
    (h : cellsWf lo l = true) : lookupCell (writeCell i v l) i = v := by
  induction l generalizing lo with
  | nil =>
    simp only [writeCell]
    split
    · rename_i e; simp [lookupCell, e]
    · simp [lookupCell]
  | cons c rest ih =>
    obtain ⟨j, w⟩ := c
    have hrest : cellsWf (some j) rest = true := by
      simp only [cellsWf, Bool.and_eq_true] at h
      exact h.2
    have hnone : ∀ (lo : Nat) (l : List (Nat × PatVector)), cellsWf (some lo) l = true → i ≤ lo →
        lookupCell l i = Config.clearedVector := by
      intro lo l
      induction l generalizing lo with
      | nil => intros; rfl
      | cons d t iht =>
        obtain ⟨m, x⟩ := d
        intro hw hle
        simp only [cellsWf, Bool.and_eq_true, decide_eq_true_eq] at hw
        simp only [lookupCell]
        rw [if_neg (by omega)]
        exact iht m hw.2 (by omega)
    simp only [writeCell]
    split
    · rename_i hij
      split
      · rename_i e
        simp only [lookupCell]
        rw [if_neg (by omega), hnone j rest hrest (by omega), e]
      · simp [lookupCell]
    · split
      · rename_i hij
        split
        · rename_i e
          rw [hnone j rest hrest (by omega), e]
        · simp [lookupCell]
      · simp only [lookupCell]
        rw [if_neg (by omega)]
        exact ih (some j) hrest

/-- R58: no other index is changed by a write. -/
theorem lookupCell_writeCell_other (i j : Nat) (v : PatVector) (l : List (Nat × PatVector)) (h : j ≠ i) :
    lookupCell (writeCell i v l) j = lookupCell l j := by
  induction l with
  | nil =>
    simp only [writeCell]
    split
    · rfl
    · simp [lookupCell, h.symm]
  | cons c rest ih =>
    obtain ⟨m, w⟩ := c
    simp only [writeCell]
    split
    · split
      · rfl
      · simp [lookupCell, h.symm]
    · split
      · rename_i hm
        subst hm
        split <;> simp [lookupCell, h.symm]
      · simp only [lookupCell]
        split
        · rfl
        · exact ih

/-- A bound below the first index may be lowered. -/
theorem cellsWf_weaken (lo hi : Nat) (l : List (Nat × PatVector)) (h : cellsWf (some hi) l = true)
    (hle : lo ≤ hi) : cellsWf (some lo) l = true := by
  cases l with
  | nil => rfl
  | cons c rest =>
    obtain ⟨j, w⟩ := c
    simp only [cellsWf, Bool.and_eq_true, decide_eq_true_eq] at h ⊢
    exact ⟨⟨⟨by omega, h.1.1.2⟩, h.1.2⟩, h.2⟩

/-- A write above a bound keeps the form above that bound. -/
theorem writeCell_wf_above (lo i : Nat) (v : PatVector) (l : List (Nat × PatVector))
    (h : cellsWf (some lo) l = true) (hlo : lo < i) (hi : i < 8192) :
    cellsWf (some lo) (writeCell i v l) = true := by
  induction l generalizing lo with
  | nil =>
    simp only [writeCell]
    split
    · rfl
    · rename_i hv
      simp [cellsWf, hlo, hv, Config.storeSize, hi]
  | cons c rest ih =>
    obtain ⟨j, w⟩ := c
    have hw := h
    simp only [cellsWf, Bool.and_eq_true, decide_eq_true_eq] at hw
    simp only [writeCell]
    split
    · split
      · exact h
      · rename_i hij hv
        simp only [cellsWf, Bool.and_eq_true, decide_eq_true_eq]
        exact ⟨⟨⟨hlo, hi⟩, hv⟩, ⟨⟨by omega, hw.1.1.2⟩, hw.1.2⟩, hw.2⟩
    · split
      · rename_i hij
        split
        · exact cellsWf_weaken lo j rest hw.2 (by omega)
        · rename_i hv
          simp only [cellsWf, Bool.and_eq_true, decide_eq_true_eq]
          exact ⟨⟨⟨hlo, hi⟩, hv⟩, hij ▸ hw.2⟩
      · simp only [cellsWf, Bool.and_eq_true, decide_eq_true_eq]
        exact ⟨⟨⟨hw.1.1.1, hw.1.1.2⟩, hw.1.2⟩, ih j hw.2 (by omega)⟩

/-- The form without a bound, from the form above one. -/
theorem cellsWf_none (lo : Nat) (l : List (Nat × PatVector)) (h : cellsWf (some lo) l = true) :
    cellsWf none l = true := by
  cases l with
  | nil => rfl
  | cons c rest =>
    obtain ⟨j, w⟩ := c
    simp only [cellsWf, Bool.and_eq_true, decide_eq_true_eq] at h ⊢
    exact ⟨⟨⟨trivial, h.1.1.2⟩, h.1.2⟩, h.2⟩

/-- R57: a write within the store keeps the canonical form. -/
theorem writeCell_wf (i : Nat) (v : PatVector) (l : List (Nat × PatVector)) (h : cellsWf none l = true)
    (hi : i < 8192) : cellsWf none (writeCell i v l) = true := by
  cases l with
  | nil =>
    simp only [writeCell]
    split
    · rfl
    · rename_i hv
      simp [cellsWf, hv, Config.storeSize, hi]
  | cons c rest =>
    obtain ⟨j, w⟩ := c
    have hw := h
    simp only [cellsWf, Bool.and_eq_true, decide_eq_true_eq] at hw
    simp only [writeCell]
    split
    · split
      · exact h
      · rename_i hij hv
        simp only [cellsWf, Bool.and_eq_true, decide_eq_true_eq]
        exact ⟨⟨⟨trivial, hi⟩, hv⟩, ⟨⟨hij, hw.1.1.2⟩, hw.1.2⟩, hw.2⟩
    · split
      · rename_i hij
        split
        · exact cellsWf_none j rest hw.2
        · rename_i hv
          simp only [cellsWf, Bool.and_eq_true, decide_eq_true_eq]
          exact ⟨⟨⟨trivial, hi⟩, hv⟩, hij ▸ hw.2⟩
      · simp only [cellsWf, Bool.and_eq_true, decide_eq_true_eq]
        exact ⟨⟨⟨trivial, hw.1.1.2⟩, hw.1.2⟩, writeCell_wf_above j i v rest hw.2 (by omega) hi⟩

/-! ## The store -/

@[simp] theorem PatternStore.write_records (p : PatternStore) (i : Nat) (v : PatVector) :
    (p.write i v).records = p.records := rfl

theorem PatternStore.write_wf (p : PatternStore) (i : Nat) (v : PatVector) (h : p.wf = true)
    (hi : i < 8192) : (p.write i v).wf = true := writeCell_wf i v p.cells h hi

theorem PatternStore.write_read_same (p : PatternStore) (i : Nat) (v : PatVector) (h : p.wf = true) :
    (p.write i v).read i = v := lookupCell_writeCell_same i v none p.cells h

theorem PatternStore.write_read_other (p : PatternStore) (i j : Nat) (v : PatVector) (h : j ≠ i) :
    (p.write i v).read j = p.read j := lookupCell_writeCell_other i j v p.cells h

@[simp] theorem PatternStore.writeRun_records (p : PatternStore) (start : Nat) (vs : List PatVector) :
    (p.writeRun start vs).records = p.records := by
  induction vs generalizing p start with
  | nil => rfl
  | cons v rest ih => simp [PatternStore.writeRun, ih]

/-- R58: a run within the store keeps the canonical form. -/
theorem PatternStore.writeRun_wf (p : PatternStore) (start : Nat) (vs : List PatVector) (h : p.wf = true)
    (hi : start + vs.length ≤ 8192) : (p.writeRun start vs).wf = true := by
  induction vs generalizing p start with
  | nil => exact h
  | cons v rest ih =>
    simp only [List.length_cons] at hi
    exact ih _ _ (p.write_wf start v h (by omega)) (by omega)

/-- R58: indexes outside a run are unchanged. -/
theorem PatternStore.writeRun_read_outside (p : PatternStore) (start : Nat) (vs : List PatVector) (i : Nat)
    (h : i < start ∨ start + vs.length ≤ i) : (p.writeRun start vs).read i = p.read i := by
  induction vs generalizing p start with
  | nil => rfl
  | cons v rest ih =>
    simp only [List.length_cons] at h
    rw [PatternStore.writeRun, ih _ _ (by omega), p.write_read_other _ _ _ (by omega)]

/-- R58: vector j of a run is found at index start + j. -/
theorem PatternStore.writeRun_read_inside (p : PatternStore) (start : Nat) (vs : List PatVector)
    (h : p.wf = true) (hi : start + vs.length ≤ 8192) (j : Nat) (v : PatVector) (hj : vs[j]? = some v) :
    (p.writeRun start vs).read (start + j) = v := by
  induction vs generalizing p start j with
  | nil => simp at hj
  | cons w rest ih =>
    simp only [List.length_cons] at hi
    cases j with
    | zero =>
      simp only [List.getElem?_cons_zero, Option.some.injEq] at hj
      subst hj
      rw [PatternStore.writeRun, PatternStore.writeRun_read_outside _ _ _ _ (by omega)]
      exact p.write_read_same start w h
    | succ n =>
      simp only [List.getElem?_cons_succ] at hj
      have := ih (p.write start w) (start + 1) (p.write_wf start w h (by omega)) (by omega) n hj
      rw [PatternStore.writeRun, ← this]
      congr 1
      omega

/-- R57, R71: the store of the reset state has the canonical form, and every index reads as cleared. -/
theorem storeReset_wf : State.reset.store.wf = true := rfl

theorem storeReset_read (i : Nat) : State.reset.store.read i = Config.clearedVector := rfl

end Sys2Proof.Machine
end

