-- ==== Sys2Proof/Tests/Slice0.lean ====
section
/-!
SUPPORT. Tests of one step each, with expected values from the manual's rules and worked examples; the smoke
test of WellFormed; and, for each statement with hypotheses, concrete states and operands that meet them.
-/

namespace Sys2Proof.Tests

open Machine Safety

set_option maxRecDepth 100000

/-! ## Helpers -/

/-- The command gives a next state with a property. -/
def after (i : Instr) (s : State) (p : State → Bool) : Bool :=
  match exec i s with
  | .next t => p t
  | .fault _ => false
  | .refused _ => false

/-- The command is answered by this frame, begun at once. -/
def answers (i : Instr) (s : State) (kind : Byte) (payload : List Byte) : Bool :=
  after i s fun t => decide (t.link.sending = some ⟨true, ⟨kind, payload⟩⟩) && t.link.owed

/-- A running part with every interval due and no board. -/
def live : State :=
  { State.reset with part.phase := .running, clock.msCount := 1000, zone.interval := some 0
                     acct.interval := some 0 }

/-- The board of section 2.11: 30 sockets, VIO 1,800 mV, VCORE 1,050 mV, B06 QUARANTINED, B13 MASKED. -/
def exampleSlot : SlotCtl :=
  { slotReset with
      board := .present, identity := some ⟨17, 40112⟩, descriptor := some ⟨30, 1200, 1800, 600, 600⟩
      status := .valid
      active := { Config.settings with vcore := 1050, vio := 1800 }
      staged := { Config.settings with vcore := 1050, vio := 1800 }
      sockets := Table.ofFn fun i =>
        if 30 ≤ i.val ∨ i.val = 13 then ⟨.masked, 0, none, none⟩
        else if i.val = 6 then ⟨.quarantined, 3, none, none⟩
        else ⟨.off, 0, none, none⟩ }

def present : State := live.setSlot .B exampleSlot

/-- The same board in its inrush stage, both rails HELD, the dwell of step `n` over. -/
def inrush (n : Nat) : State :=
  live.setSlot .B
    { exampleSlot with
        board := .ramping, ramp := some ⟨.vioFirst, .inrush n⟩, dwell := some 0
        vcore := ⟨1050, 1050, .held, 0, 0, none⟩, vio := ⟨1800, 1800, .held, 0, 0, none⟩ }

/-- A rail. -/
def heldAt (mv : Nat) : RailState := ⟨mv, mv, .held, 0, 0, none⟩

/-- A POWERED board of 32 sockets in a slot, all ON but one that is MASKED, with the scanner RUNNING. -/
def powered (k : Slot) (masked : Nat) : State :=
  ((live.setSlot k
      { exampleSlot with
          board := .powered, descriptor := some ⟨32, 1200, 1800, 600, 600⟩
          vcore := heldAt 1050, vio := heldAt 1800
          sockets := Table.ofFn fun i =>
            if i.val = masked then ⟨.masked, 0, none, none⟩ else ⟨.on, 0, none, none⟩ }).setScanner k
    { scannerStopped with running := true, roundCount := 32, conversion := some ⟨10000, false⟩ })

/-- The record of section 5.9, cut to two vectors: tolerance 3 and no profile. -/
def shortRecord : PatternRecord := ⟨0, 2, 100, 3, none⟩

/-- Slot A in the last vector of the last pass of a burst of record 2 under a mode, with these mismatch
counts. -/
def lastVector (m : BurstMode) (counts : Table 32 Nat) : State :=
  let s := powered .A 5
  let b : BurstConfig := ⟨2, m, 10, 500⟩
  ((s.setPattern 2 (some shortRecord)).setChannel .A
      { channelReset with state := .burst, active := some b, burst := 1
                          play := some ⟨shortRecord, 10, 1, Config.clearedVector⟩ }).setCompare .A
    { compareReset with member := (Table.fill 32 true).set 5 false, mismatch := counts }

/-- A log of `n` entries. -/
def fullLog (n : Nat) : List LogEntry :=
  List.replicate n ⟨6, 0, none, none, .zoneSafe, none, none, none, [2]⟩

/-- Powers of a slot's sockets. -/
def powers (t : State) (k : Slot) : List PowerState := (t.slot k).sockets.toList.map SocketPower.power

/-! ## Well-formed commands -/

theorem smoke_zoneSetpoint : Instr.wellFormed (.zoneSetpoint 40000 1) = false := by decide
theorem smoke_zoneSetpoint_rate : Instr.wellFormed (.zoneSetpoint 0 256) = false := by decide
theorem smoke_zoneTune : Instr.wellFormed (.zoneTune [⟨256, 0⟩]) = false := by decide
theorem smoke_zoneTune_value : Instr.wellFormed (.zoneTune [⟨0, 32768⟩]) = false := by decide
theorem smoke_zoneTune_length : Instr.wellFormed (.zoneTune (List.replicate 81 ⟨0, 0⟩)) = false := by decide
theorem smoke_boardPowerUp : Instr.wellFormed (.boardPowerUp 256) = false := by decide
theorem smoke_boardStage_slot : Instr.wellFormed (.boardStage 256 [.readout]) = false := by decide
theorem smoke_boardStage_word : Instr.wellFormed (.boardStage 0 [.vcore 65536]) = false := by decide
theorem smoke_boardStage_byte : Instr.wellFormed (.boardStage 0 [.dwell 256]) = false := by decide
theorem smoke_boardStage_lanes :
    Instr.wellFormed (.boardStage 0 [.laneMap (Table.fill 16 (256, 0))]) = false := by decide
theorem smoke_boardStage_code : Instr.wellFormed (.boardStage 0 [.unknown 14]) = false := by decide
theorem smoke_boardStage_length :
    Instr.wellFormed (.boardStage 0 (List.replicate 8 (.laneMap (Table.fill 16 (0, 0))))) = false := by decide
theorem smoke_socketSet : Instr.wellFormed (.socketSetMask 0 [256]) = false := by decide
theorem smoke_socketSet_length : Instr.wellFormed (.socketSetMask 0 (List.replicate 239 0)) = false := by decide
theorem smoke_socketStatus : Instr.wellFormed (.socketStatus 0 (List.replicate 240 0)) = false := by decide
theorem smoke_patternLoad : Instr.wellFormed (.patternLoad 65536 []) = false := by decide
theorem smoke_patternLoad_length :
    Instr.wellFormed (.patternLoad 0 (List.replicate 80 ⟨0, 0⟩)) = false := by decide
theorem smoke_patternDefine : Instr.wellFormed (.patternDefineWrite 0 0 65536 0 0 none) = false := by decide
theorem smoke_patternDefine_profile :
    Instr.wellFormed (.patternDefineWrite 0 0 1 1 0 (some ⟨Table.fill 8 256, 0⟩)) = false := by decide
theorem smoke_burstConfig : Instr.wellFormed (.burstConfigSet 0 0 256 1 1) = false := by decide
theorem smoke_accelTable : Instr.wellFormed (.accelTableLoad [⟨0, 65536⟩]) = false := by decide
theorem smoke_accelTable_length :
    Instr.wellFormed (.accelTableLoad (List.replicate 61 ⟨0, 0⟩)) = false := by decide
theorem smoke_weightsSet : Instr.wellFormed (.weightsSet 0 65536) = false := by decide
theorem smoke_logRead : Instr.wellFormed (.logRead 0 256) = false := by decide
theorem smoke_alertConfig : Instr.wellFormed (.alertConfig 0 256) = false := by decide
theorem smoke_unknownKind_reply : Instr.wellFormed (.unknownKindRequest 0x81 []) = false := by decide
theorem smoke_unknownKind_known : Instr.wellFormed (.unknownKindRequest 0x42 []) = false := by decide
theorem smoke_unknownKind_length :
    Instr.wellFormed (.unknownKindRequest 0x70 (List.replicate 241 0)) = false := by decide
theorem smoke_identityAnswer :
    Instr.wellFormed (.identityAnswer .A ⟨0, 16777216⟩ ⟨1, 400, 1000, 1, 1⟩) = false := by decide
theorem smoke_accepts : Instr.wellFormed (.boardStage 0 [.vcore 1050, .readout]) = true := by decide

/-! ## Decoding: the table gives no row any bits (log entry 2) -/

theorem test_decode_none : decodeTableWord 8 0x42 = none := by decide
theorem test_withFetchWord : State.reset.withFetchWord 8 0x42 = State.reset := by decide

/-! ## Link -/

/-- R189. -/
theorem test_identify : answers .identify live 0x81 [0, 0x72, 0x3C, 0x28, 0x01, 1, 240, 1] = true := by decide

/-- Section 12.7: the frame of LOG-STATUS, kind 42h, payload empty, is taken at its last byte. -/
theorem test_byteArrival_last :
    after (.byteArrival ((crc16 [0, 0x42]).extractLsb' 8 8) true)
      { live with link.rx := .receiving
                  link.buffer := [0xA5, 0, 0x42, (crc16 [0, 0x42]).extractLsb' 0 8] }
      (fun t => decide (t.link.sending = some ⟨true, 0xC2, [0, 0, 0, 0, 0, 0, 0]⟩)) = true := by decide

/-- R185: the check value of the CRC with polynomial 1021h and initial value FFFFh over "123456789". -/
theorem test_crc16 : crc16 [0x31, 0x32, 0x33, 0x34, 0x35, 0x36, 0x37, 0x38, 0x39] = 0x29B1 := by decide

theorem test_byteArrival_hunt :
    after (.byteArrival 0xA5 true) live (fun t => decide (t.link.rx = .receiving)) = true := by decide

theorem test_unknownKind : answers (.unknownKindRequest 0x70 []) live 0xF0 [6] = true := by decide

theorem test_frameDiscarded :
    after .frameDiscarded { live with link.rx := .receiving, link.buffer := [0xA5] }
      (fun t => decide (t.link.rx = .hunt)) = true := by decide

theorem test_receiveTimeout :
    after .receiveTimeout { live with link.rx := .receiving, link.buffer := [0xA5] }
      (fun t => decide (t.link.rx = .hunt)) = true := by decide

/-- Section 12.7: an alert frame carries ZONE, occupancy 121 and zone state SOAK. -/
def zoneRaised : State :=
  { live with log.entries := fullLog 121, zone.state := .soak, alert.raised := 1, alert.mask := 0 }

theorem test_alertFrame :
    after .alertFrame zoneRaised (fun t =>
      decide (t.link.sending = some ⟨false, 0xFF, [0, 121, 0, 3]⟩) && decide (t.alert.inService = 1)) = true := by
  decide

/-- Section 12.7: the reply composed during the alert frame begins when the frame ends. -/
theorem test_frameSent :
    after .frameSent
      { live with link.sending := some ⟨false, 0xFF, []⟩, link.composed := some ⟨0xC2, [0]⟩, link.owed := true }
      (fun t => decide (t.link.sending = some ⟨true, 0xC2, [0]⟩) && t.link.owed) = true := by decide

/-! ## Log and alerts -/

/-- Section 12.7: status 0, occupancy 121, discarded count 3, epoch 7, arm ARMED. -/
theorem test_logStatus :
    answers .logStatus { live with log := ⟨fullLog 121, 3, 7, true⟩ } 0xC2 [0, 121, 0, 3, 0, 7, 0] = true := by
  decide

/-- R192: an entry of 27 bytes. -/
theorem test_logRead :
    answers (.logRead 0 1) { live with log := ⟨fullLog 1, 0, 6, true⟩ } 0xC0
      ([0, 1, 0, 0, 0] ++ [6, 0, 0, 0, 0, 0, 0, 0, 11, 0, 0, 0, 0, 0, 0, 0, 0, 0, 1, 2, 0, 0, 0, 0, 0, 0, 0])
      = true := by decide

/-- R158: fewer entries than asked for. -/
theorem test_logRetire :
    answers (.logRetire 3) { live with log := ⟨fullLog 2, 0, 6, true⟩ } 0xC1 [2, 2, 0, 0, 0, 0, 0] = true := by
  decide

theorem test_alertMask :
    after (.alertMask 0 0xFF) live (fun t => decide (t.alert.mask = 0)) = true := by decide

theorem test_alertConfig :
    after (.alertConfig 1 1) live (fun t =>
      decide (t.alert.priority = .rotating) && decide (t.alert.delivery = .polled)) = true := by decide

/-- Section 10.6, step 6: BOARD-B before BOARD-D in FIXED mode, polled. -/
theorem test_alertPoll :
    after .alertPoll
      { live with alert.raised := 0x28, alert.mask := 0, alert.delivery := .polled }
      (fun t => decide (t.alert.raised = 0x20) && decide (t.alert.inService = 8)) = true := by decide

/-- Section 10.6, step 10: ALERT-DONE 1 makes the base 2. -/
theorem test_alertDone :
    after (.alertDone 1) { live with alert.priority := .rotating, alert.inService := 2, alert.mask := 0 }
      (fun t => decide (t.alert.base = 2) && decide (t.alert.inService = 0)) = true := by decide

/-- Section 10.6, step 13: BURST, of rank 0 under base 7, interrupts ZONE, of rank 1. -/
theorem test_alert_nesting :
    (⟨0x80, 1, 0, .rotating, 7, .frame⟩ : AlertUnit).choose = some 7 := by decide

/-! ## Zone -/

/-- R110: a target above the zone cutoff less 80 is clamped to it. -/
theorem test_zoneSetpoint :
    answers (.zoneSetpoint 2400 16) { live with zone.lastValid := some 400 } 0x83 [2, 16, 9] = true := by decide

theorem test_zoneTune :
    after (.zoneTune [⟨0, 2000⟩, ⟨9, 320⟩]) live (fun t =>
      decide (t.zone.tuning.kp = 2000) && decide (t.zone.tuning.coolTarget = 320)) = true := by decide

theorem test_zoneCool :
    after .zoneCool { live with zone.state := .soak, zone.output := -300, zone.heatEn := true } (fun t =>
      decide (t.zone.state = .cool) && decide (t.zone.fan = 300) && !t.zone.heatEn) = true := by decide

/-- R123, R124: a powered board is locked out, and the entry carries HOST-ABORT (2). -/
theorem test_zoneAbort :
    after .zoneAbort (powered .B 40) (fun t =>
      t.zone.safeLine && decide ((t.slot .B).board = .present)
        && decide ((newest t).map LogEntry.detail = some [2])) = true := by decide

theorem test_zoneReset_safe :
    answers .zoneReset { live with zone.state := .safe } 0x82 [7] = true := by decide

theorem test_zoneReset :
    after .zoneReset (powered .B 3) (fun t =>
      decide ((t.slot .B).board = .present) && decide ((t.slot .B).active.vcore = 0)
        && decide ((t.socket .B 3).power = .masked) && decide ((t.socket .B 4).power = .off)) = true := by decide

/-- R126: the reply tells of the EXCURSION note and clears it. -/
theorem test_zoneStatus :
    after .zoneStatus { live with zone.excNote := true } (fun t => !t.zone.excNote) = true := by decide

/-- Section 7.4, interval 3: heater 372, integrator 1,601,100, settle count 43. -/
theorem test_controlInterval :
    after (.controlInterval (some 2012) (some 2012))
      { live with zone.state := .settle, zone.target := some 2000, zone.effective := some 2000
                  zone.integ := 1601700, zone.settleCount := 42 }
      (fun t => decide (t.zone.heater = 372) && decide (t.zone.integ = 1601100) && decide (t.zone.fan = 200)
        && decide (t.zone.settleCount = 43)) = true := by decide

/-- Section 7.4: in COOL, error -940 with I at 1,000,000 gives output -1,000 and drops the candidate. -/
theorem test_loop_windup : loopStep Config.tuning 1000000 (-940) = (1000000, -1000) := by decide

/-! ## Boards and rails -/

/-- Section 2.11, time 0: VIO SETTLING, target 1,800 mV, settle limit running. -/
theorem test_boardPowerUp :
    after (.boardPowerUp 1) present (fun t =>
      decide ((t.slot .B).vio = ⟨0, 1800, .settling, 0, 0, some 200⟩) && decide ((t.slot .B).vcore = Config.railOff)
        && decide ((t.slot .B).board = .ramping)) = true := by decide

theorem test_boardPowerUp_empty : answers (.boardPowerUp 0) live 0x90 [9] = true := by decide

/-- R25: under VIO-FIRST the drain lowers VCORE first. -/
theorem test_boardPowerDown :
    after (.boardPowerDown 1) (powered .B 5) (fun t =>
      decide ((t.slot .B).board = .draining) && decide ((t.slot .B).vcore.cond = .lowering)
        && decide ((t.slot .B).vio = heldAt 1800) && decide ((t.socket .B 0).power = .off)) = true := by decide

/-- R19: VCORE above the board's maximum of 1,200 mV is clamped to it. -/
theorem test_boardStage :
    after (.boardStage 1 [.vcore 1500, .slew 20]) present (fun t =>
      decide ((t.slot .B).staged.vcore = 1200) && decide ((t.slot .B).staged.slew = 20)
        && decide ((t.slot .B).active.vcore = 1050)) = true := by decide

/-- Section 2.11: strike limit 1 applied, with B06 QUARANTINED at 3 strikes and B14 ON at 1. -/
theorem test_boardApply :
    after (.boardApply 1)
      (live.setSlot .B
        { exampleSlot with
            board := .powered, staged := { exampleSlot.staged with strikeLimit := 1 }
            sockets := (exampleSlot.sockets.set 14 ⟨.on, 1, none, none⟩).set 15 ⟨.on, 0, none, none⟩ })
      (fun t => decide (t.socket .B 6 = ⟨.quarantined, 1, none, none⟩)
        && decide (t.socket .B 14 = ⟨.quarantined, 1, none, none⟩) && decide ((t.socket .B 15).power = .on)
        && decide ((newest t).map LogEntry.detail = some [4]) && (t.slot .B).applyDone) = true := by decide

/-- R41: a QUARANTINED socket with 3 strikes takes the lowered limit of 5 as its count, with no new report. -/
theorem test_boardApply_quarantined :
    after (.boardApply 1)
      (live.setSlot .B
        { exampleSlot with active := { exampleSlot.active with strikeLimit := 10 }
                           staged := { exampleSlot.staged with strikeLimit := 5 } })
      (fun t => decide (t.socket .B 6 = ⟨.quarantined, 5, none, none⟩) && decide (t.log.entries = [])
        && decide ((t.socket .B 13).strikes = 0)) = true := by decide

theorem test_boardStatus :
    after (.boardStatus 1) (live.setSlot .B { exampleSlot with railTrip := true, abandoned := 3 }) (fun t =>
      !(t.slot .B).railTrip && decide ((t.slot .B).abandoned = 0)) = true := by decide

/-- R2, R43. -/
theorem test_boardInserted :
    after (.boardInserted .C) live (fun t =>
      decide ((t.slot .C).board = .ident) && (t.scanner .C).running
        && decide ((t.slot .C).identLimit = some 50)) = true := by decide

/-- Section 1.8: a POWERED board pulled gives BOARD-PULLED with detail POWERED (4) and raises BOARD-C. -/
theorem test_boardRemoved :
    after (.boardRemoved .C) (powered .C 5) (fun t =>
      decide ((t.slot .C).board = .empty) && decide ((newest t).map LogEntry.detail = some [4])
        && t.alert.raised.getLsbD 4) = true := by decide

/-- R5, R6: another board in a tagged slot retags it; the entry's detail is the old serial, 40,112. -/
theorem test_identityAnswer_retag :
    after (.identityAnswer .B ⟨17, 7⟩ ⟨4, 1200, 1800, 600, 600⟩)
      (setTag .B ⟨17, 40112⟩ (live.setSlot .B { exampleSlot with board := .ident }))
      (fun t => decide ((newest t).map LogEntry.detail = some [0xB0, 0x9C, 0])
        && decide ((t.socket .B 3).power = .off) && decide ((t.socket .B 4).power = .masked)
        && decide ((t.slot .B).active.vcore = 0)) = true := by decide

/-- R3: a socket count of 33 is out of range. -/
theorem test_identityAnswer_range :
    after (.identityAnswer .A ⟨1, 1⟩ ⟨33, 400, 1000, 1, 1⟩) (live.setSlot .A { slotReset with board := .ident })
      (fun t => decide ((t.slot .A).status = .outOfRange)) = true := by decide

theorem test_identityTimeout :
    after (.identityTimeout .A) (live.setSlot .A { slotReset with board := .ident, identLimit := some 0 })
      (fun t => decide ((t.slot .A).board = .present) && decide ((t.slot .A).status = .noAnswer)) = true := by
  decide

/-- R21, R28: the detail names VCORE (0) and RAIL-TIMEOUT (0). -/
theorem test_settleLimitExpiry :
    after (.settleLimitExpiry .B .vcore)
      (live.setSlot .B { exampleSlot with board := .ramping, vcore := ⟨900, 1050, .settling, 0, 0, some 0⟩ })
      (fun t => decide ((t.slot .B).board = .tripped) && decide ((newest t).map LogEntry.detail = some [0, 0]))
      = true := by decide

/-- Section 2.11, time 300: step 1 switches B04, B05 and B07 on; B06 stays QUARANTINED. -/
theorem test_inrushDwellExpiry :
    after (.inrushDwellExpiry .B) (inrush 0) (fun t =>
      decide (((powers t .B).drop 3).take 6 = [.off, .on, .on, .quarantined, .on, .off])) = true := by decide

/-- Section 2.11, time 370: the dwell of step 7 ends in POWERED. -/
theorem test_inrushDwellExpiry_last :
    after (.inrushDwellExpiry .B) (inrush 7) (fun t => decide ((t.slot .B).board = .powered)) = true := by decide

theorem test_drainLimitExpiry :
    after (.drainLimitExpiry .B)
      (live.setSlot .B
        { exampleSlot with board := .draining, drain := some ⟨.vio, true, false⟩, drainLimit := some 0 })
      (fun t => decide ((t.slot .B).board = .present)) = true := by decide

/-! ## Sockets -/

theorem test_socketSetMask :
    after (.socketSetMask 1 [2, 6]) present (fun t =>
      decide (t.link.sending = some ⟨true, 0x95, [0, 0, 4]⟩) && decide ((t.socket .B 2).power = .masked)) = true := by
  decide

/-- R36: an unpopulated socket, B30, stays MASKED; B13 becomes OFF. -/
theorem test_socketSetUnmask :
    after (.socketSetUnmask 1 [13, 30]) present (fun t =>
      decide (t.link.sending = some ⟨true, 0x95, [0, 1, 0]⟩)) = true := by decide

/-- R37: B06 is OFF with no strike, and the entry's detail is NONE. -/
theorem test_socketSetReinstate :
    after (.socketSetReinstate 1 [6]) present (fun t =>
      decide (t.socket .B 6 = ⟨.off, 0, none, none⟩)
        && decide ((newest t).map LogEntry.detail = some [0xFF])) = true := by decide

/-- R38, section 12.3: B06 is QUARANTINED with 3 strikes, and its record is invalid with age 65,535. -/
theorem test_socketStatus :
    answers (.socketStatus 1 [6]) present 0x96 [0, 1, 0, 0, 0, 0, 0xFF, 0xFF, 4, 3, 0, 0] = true := by decide

/-- R33: the first of three strikes. -/
theorem test_switchFault :
    after (.switchFault .A 9 true) (powered .A 5) (fun t =>
      decide (t.socket .A 9 = ⟨.tripWait, 1, none, some 30⟩) && (t.slot .A).socketTrip
        && decide ((t.record .A 9).trips = 1)) = true := by decide

/-- Section 2.11: at its retry's expiry B14 goes ON. -/
theorem test_retryExpiry :
    after (.retryExpiry .B 14)
      ((powered .B 13).setSocket .B 14 ⟨.tripWait, 1, none, some 0⟩)
      (fun t => decide (t.socket .B 14 = ⟨.on, 1, none, none⟩)) = true := by decide

/-! ## Sensing -/

/-- Section 3.10: at full-scale 12,000 mA, 12,400 mA clamps to 255 and 8,300 mA gives 176. -/
theorem test_currentCode : currentCode 12000 12400 = 255 ∧ currentCode 12000 8300 = 176 := by decide

/-- Section 2.11, time 326: B14 trips at code 244 after 241, under limit 230. -/
theorem test_conversionEnd_overcurrent :
    after (.conversionEnd .B (some 400))
      (((powered .B 13).setSocket .B 14 ⟨.on, 0, some 241, none⟩).setScanner .B
        { (powered .B 13).scanner .B with position := 5 + 2 * 14, partialResult := some 244 })
      (fun t => decide (t.socket .B 14 = ⟨.tripWait, 1, none, some 30⟩)
        && decide ((newest t).map LogEntry.detail = some [241, 244, 230])) = true := by decide

/-- Section 3.10, round 4: a third reading above range gives TEMP-SENSOR with detail 3,200. -/
theorem test_conversionEnd_diode :
    after (.conversionEnd .D (some 5000))
      ((powered .D 5).setScanner .D
        { (powered .D 5).scanner .D with
            position := 5 + 2 * 19, partialResult := some 10, faults := (Table.fill 32 0).set 19 2 })
      (fun t => decide ((newest t).map LogEntry.cause = some .tempSensor)
        && decide ((newest t).map LogEntry.detail = some [0x80, 0x0C])
        && decide (((t.scanner .D).records.get 19).temp = 3200)) = true := by decide

/-- Section 7.6, time 35: the fall timer lowers s to 1 and restarts. -/
theorem test_throttleFallExpiry :
    after (.throttleFallExpiry .B) ((powered .B 5).setThrottle .B ⟨2, none, some 0⟩)
      (fun t => decide (t.throttle .B = ⟨1, none, some 10000⟩)) = true := by decide

theorem test_riseHoldExpiry :
    after (.riseHoldExpiry .B) ((powered .B 5).setThrottle .B ⟨2, some 0, none⟩)
      (fun t => decide (t.throttle .B = ⟨2, none, none⟩)) = true := by decide

/-- Section 7.6, time 0: Tmax 2,104 raises s to 1 and starts the rise-hold timer. -/
theorem test_roundEnd :
    (roundEndSignal .B ((powered .B 5).setScanner .B
      { scannerStopped with
          records := (Table.fill 32 Config.invalidSample).set 7 ⟨0, true, 2104, true, false, 0⟩ })).throttle .B
      = ⟨1, some 10000, none⟩ := by decide

/-! ## Patterns and bursts -/

/-- Section 4.7: slot A in BURST on record 3, slot B in GAP on record 3 with record 9 pending. -/
def loading : State :=
  let r3 : PatternRecord := ⟨0, 1024, 40, 0, none⟩
  let r9 : PatternRecord := ⟨2048, 512, 40, 0, none⟩
  let s := ((powered .A 5).setPattern 3 (some r3)).setPattern 9 (some r9)
  let s1 := s.setSlot .B { exampleSlot with board := .powered }
  (s1.setChannel .A { channelReset with state := .burst, active := some ⟨3, .continuous, 1, 1⟩
                                        play := some ⟨r3, 1, 0, Config.clearedVector⟩ }).setChannel .B
    { channelReset with state := .gap, active := some ⟨3, .periodic, 1, 1⟩
                        pending := some ⟨9, .periodic, 1, 1⟩, gap := some 0 }

theorem test_patternLoad_protected :
    answers (.patternLoad 1000 (List.replicate 64 ⟨1, 1⟩)) loading 0xA0 [3] = true := by decide

theorem test_patternLoad :
    after (.patternLoad 1024 [⟨5, 3⟩, ⟨6, 1⟩]) loading (fun t =>
      decide (t.store.read 1024 = ⟨5, true, true⟩) && decide (t.store.read 1025 = ⟨6, true, false⟩)) = true := by
  decide

theorem test_patternDefineWrite :
    after (.patternDefineWrite 7 512 512 40 0 none) loading (fun t =>
      decide (t.store.records.get 7 = some ⟨512, 512, 40, 0, none⟩)) = true := by decide

theorem test_patternDefineClear : answers (.patternDefineClear 9) loading 0xA1 [3] = true := by decide

/-- Section 4.7: record 3 is in use by slots A and B. -/
theorem test_patternDefineQuery : usersByte loading 3 = 3 := by decide

theorem test_patternDefineQuery_undefined :
    answers (.patternDefineQuery 7) loading 0xA1 (List.replicate 23 0 ++ [0xFF, 0xFF]) = true := by decide

/-- Section 4.8: drive bits 0 and 3 through the example's lane map. -/
theorem test_lanes :
    let e (l : Nat) : LaneEntry := if l = 1 then ⟨0, .invert⟩ else if l = 2 then ⟨5, .forceHigh⟩ else ⟨l, .normal⟩
    (List.range 16).map (fun l => laneLevel (e l) 9) = [true, false, true, true] ++ List.replicate 12 false := by
  decide

/-- Section 4.8: with T of 40 units, group 3 rises at 1.5 and falls at 2.5 microseconds, in quarters of 50 ns. -/
theorem test_pulses : pulseRise 40 3 = 4 * 30 ∧ pulseFall 40 3 = 4 * 50 := by decide

/-- Section 5.9, time 90: a SET in BURST is DEFERRED. -/
theorem test_burstConfigSet :
    after (.burstConfigSet 0 3 1 20 500) loading (fun t =>
      decide ((t.channel .A).pending = some ⟨3, .periodic, 20, 500⟩)
        && decide ((t.channel .A).active = some ⟨3, .continuous, 1, 1⟩)) = true := by decide

theorem test_burstConfigQuery :
    answers (.burstConfigQuery 1) loading 0xA2
      ([0, 3, 1, 3, 1, 1, 0, 1, 0, 1, 9, 1, 1, 0, 1, 0, 1] ++ List.replicate 8 0) = true := by decide

/-- Section 5.9, time 0: the verdict set holds the 31 ON sockets. -/
theorem test_exerciseStart :
    after (.exerciseStart 0)
      (((powered .A 5).setPattern 2 (some shortRecord)).setChannel .A
        { channelReset with active := some ⟨2, .periodic, 10, 500⟩ })
      (fun t => decide ((t.channel .A).state = .burst)
        && decide ((t.compare .A).member = (Table.fill 32 true).set 5 false)) = true := by decide

/-- R88: stopping a burst counts it abandoned. -/
theorem test_exerciseStop :
    after (.exerciseStop 0) loading (fun t =>
      decide ((t.channel .A).state = .idle) && decide ((t.slot .A).abandoned = 1)) = true := by decide

/-- Section 5.10, time 1.0: a retrigger abandons the burst and takes the deferred apply. -/
theorem test_burstTrigger :
    after (.burstTrigger 0)
      (let s := lastVector .triggered (Table.fill 32 7)
       s.setSlot .A { s.slot .A with applyDeferred := true, staged := { (s.slot .A).staged with slew := 20 } })
      (fun t => decide ((t.slot .A).abandoned = 1) && (t.slot .A).applyDone
        && decide ((t.slot .A).active.slew = 20) && decide ((t.channel .A).state = .burst)
        && decide ((t.compare .A).mismatch = Table.fill 32 0)) = true := by decide

/-- R80: the second pass begins at the record's start with the rate step then set. -/
theorem test_vectorBoundary :
    after (.vectorBoundary .A)
      (let s := lastVector .periodic (Table.fill 32 0)
       (s.setChannel .A { s.channel .A with play := some ⟨shortRecord, 4, 1, Config.clearedVector⟩ }).setThrottle
         .A ⟨1, none, none⟩)
      (fun t => decide ((t.channel .A).play = some ⟨shortRecord, 5, 0, Config.clearedVector⟩)
        && decide ((t.channel .A).rateStep = 1)) = true := by decide

/-- R90: members of group 1 whose response is low against an expect bit of 1. -/
theorem test_sampleInstant :
    after (.sampleInstant .A 1 0xFE)
      (let s := lastVector .periodic (Table.fill 32 0)
       s.setChannel .A { s.channel .A with pulses := Table.fill 4 [⟨true, true⟩] })
      (fun t => decide ((t.compare .A).mismatch = (Table.fill 32 0).set 8 1)
        && decide ((t.channel .A).pulses.get 1 = [])) = true := by decide

/-- Section 5.9, burst end: A09 with 7 mismatches fails, A22 with 3 does not; the channel enters GAP. -/
theorem test_burstEnd :
    after (.burstEnd .A) (lastVector .periodic (((Table.fill 32 0).set 9 7).set 22 3)) (fun t =>
      decide ((t.record .A 9).verdict = .failed) && decide ((t.record .A 22).verdict = .good)
        && decide ((newest t).map LogEntry.detail = some [7, 0, 2]) && decide ((t.channel .A).gap = some 500))
      = true := by decide

/-- Section 5.9: at the gap's end the pending configuration is adopted and the next burst starts. -/
theorem test_gapExpiry :
    after (.gapExpiry .B) loading (fun t =>
      decide ((t.channel .B).state = .burst) && decide ((t.channel .B).active = some ⟨9, .periodic, 1, 1⟩)
        && decide ((t.channel .B).pending = none)) = true := by decide

/-- Section 6.8: socket B10, phase 1, has H1 10, H2 14 and ratio 10; socket B02, phase 0, has ratio 104. -/
theorem test_deviation :
    let e : Table 8 Nat := ⟨[40, 60, 80, 100, 100, 80, 60, 40], rfl⟩
    let s : Table 8 Nat := ⟨[78, 104, 96, 80, 70, 40, 38, 58], rfl⟩
    halfOne s e 1 = 10 ∧ halfTwo s e 1 = 14 ∧ deviationRatio 24 560 = 10
      ∧ halfOne s e 0 = 118 ∧ halfTwo s e 0 = 110 ∧ deviationRatio 228 560 = 104 := by decide

/-! ## Accounts -/

/-- Section 8.5: the table of the example. -/
def exampleTable : List Breakpoint := [⟨1600, 256⟩, ⟨2000, 2048⟩, ⟨2400, 12288⟩]

theorem test_accelTableLoad :
    after (.accelTableLoad exampleTable) live (fun t => decide (t.acct.accel = exampleTable)) = true := by decide

theorem test_weightsSet : answers (.weightsSet 300 64) live 0xB1 [2, 0, 1, 64, 0] = true := by decide

theorem test_accountSnapshot :
    after .accountSnapshot live (fun t => decide (t.acct.snapshot = .waiting)) = true := by decide

def lastPage : State :=
  { live with acct.snapshot := .held ⟨PerSlot.fill Config.blankSet, PerSlot.fill (Table.fill 32 0), 4, 811,
                (Table.fill 32 true).set 31 false⟩ }

/-- Section 8.11: the last page read releases the snapshot. -/
theorem test_accountRead :
    after (.accountRead 31) lastPage (fun t => decide (t.acct.snapshot = .absent)) = true := by decide

theorem test_accountRead_none : answers (.accountRead 31) live 0xB3 [3] = true := by decide

theorem test_snapshotRelease :
    after .snapshotRelease lastPage (fun t => decide (t.acct.snapshot = .absent)) = true := by decide

theorem test_accountClear :
    after (.accountClear 1) (present.setRecord .B 4 { Config.zeroRecord with stress := 9 }) (fun t =>
      decide ((t.record .B 4).stress = 0)) = true := by decide

/-- Section 8.5, interval 1: stress 5,001,876 and residue 164. -/
theorem test_accountInterval :
    after .accountIntervalExpiry
      (let s := (((setTag .B ⟨1, 1⟩ (powered .B 5)).setRecord .B 17 { Config.zeroRecord with stress := 5000000 }).setScanner
          .B { scannerStopped with
                records := (Table.fill 32 Config.invalidSample).set 17 ⟨0, true, 2104, true, false, 5⟩ }).setThrottle
          .B ⟨1, none, none⟩
       { s with acct.accel := exampleTable
                acct.counts := s.acct.counts.set .B ((Table.fill 32 ⟨0, 0⟩).set 17 ⟨1000, 600⟩) })
      (fun t => decide ((t.record .B 17).stress = 5001876) && decide ((t.record .B 17).residue = 164)
        && decide ((t.record .B 17).powered = 1000) && decide ((t.record .B 17).exercised = 600)) = true := by decide

/-- Section 8.5, interval 3: the factor at 2,000, the weight and the increment. -/
theorem test_interval3 :
    accelFactor exampleTable 2000 = 2048 ∧ stressWeight 256 64 1 ⟨1000, 0⟩ = 64 ∧ (2048 * 64 + 72) / 256 = 512 := by
  decide

/-! ## Time base and power -/

/-- R20, R174: a rail slews by 10 mV and its settle limit counts. -/
theorem test_reference1ms :
    after .reference1ms
      (live.setSlot .B { exampleSlot with board := .ramping, vio := ⟨0, 1800, .settling, 0, 0, some 200⟩ })
      (fun t => decide ((t.slot .B).vio = ⟨10, 1800, .settling, 0, 0, some 199⟩)) = true := by decide

theorem test_reference1s :
    after .reference1s live (fun t => decide (t.clock.runSeconds = 1) && decide (t.clock.msCount = 0)) = true := by
  decide

/-- Section 11.6: detection. -/
theorem test_holdoverDetection :
    after .holdoverDetection live (fun t =>
      decide (t.clock.live = .holdover) && t.clock.sticky && t.acct.holdover && t.alert.raised.getLsbD 1) = true := by
  decide

def inHoldover (q : Bool) : State :=
  { live with clock.live := .holdover, clock.source := .internal, clock.sticky := true, clock.qualifying := q }

theorem test_qualificationStart :
    after .qualificationStart (inHoldover false) (fun t => t.clock.qualifying) = true := by decide

theorem test_qualificationFail :
    after .qualificationFail (inHoldover true) (fun t =>
      !t.clock.qualifying && decide (t.clock.live = .holdover)) = true := by decide

theorem test_qualificationSuccess :
    after .qualificationSuccess (inHoldover true) (fun t =>
      decide (t.clock.live = .locked) && t.alert.raised.getLsbD 1) = true := by decide

/-- Section 11.6, 350 ms: the CLOCK-CLEAR reply shows HOLDOVER with the flag clear. -/
theorem test_clockClear :
    answers .clockClear (inHoldover false) 0xE1 [0, 1, 1, 0, 0, 0, 0, 0, 0, 1] = true := by decide

theorem test_clockStatus :
    answers .clockStatus (inHoldover false) 0xE0 [0, 1, 1, 0, 1, 0, 0, 0, 0, 1] = true := by decide

/-- Section 11.5: slot A hard-off to PRESENT, its burst abandoned and its deferred apply cancelled. -/
theorem test_powerFailAssert :
    after (.powerFailAssert true)
      (let s := lastVector .periodic (Table.fill 32 0)
       s.setSlot .A { s.slot .A with applyDeferred := true })
      (fun t => decide (t.part.phase = .commit) && decide ((t.slot .A).board = .present)
        && decide ((t.slot .A).abandoned = 1) && !(t.slot .A).applyDone && decide (t.zone.fan = 1000)) = true := by
  decide

theorem test_resetAssert :
    after .resetAssert live (fun t => decide (t.part = ⟨.commit, true, false⟩) && t.lines.reset) = true := by decide

def committing (kept : Bool) : State := { live with part := ⟨.commit, kept, false⟩ }

theorem test_commitComplete :
    after .commitComplete (committing false) (fun t =>
      decide (t.part.phase = .retained) && t.ret.mark && t.ret.checksum.isSome) = true := by decide

theorem test_resetRelease :
    after .resetRelease { committing true with part.phase := .retained, lines.reset := true } (fun t =>
      decide (t.part.phase = .checking) && !t.lines.reset) = true := by decide

theorem test_powerOnReset :
    after (.powerOnReset false) { State.reset with ret.mark := true, part.phase := .unpowered } (fun t =>
      decide (t.part.phase = .checking) && !t.ret.mark) = true := by decide

theorem test_powerLoss :
    after .powerLoss { live with ret.mark := true } (fun t =>
      decide (t.part.phase = .unpowered) && t.ret.mark) = true := by decide

theorem test_backupSupplyLoss :
    after .backupSupplyLoss { live with ret.mark := true } (fun t => !t.ret.mark) = true := by decide

/-- Section 11.5: an image of 120 entries, discarded count 3 and epoch 6, as a start finds it. -/
def powerReturns : State :=
  let m : Image := ⟨PerSlot.fill Config.blankSet, fullLog 120, 3, 6⟩
  { State.reset with ret := ⟨m, some m, true⟩ }

/-- Section 11.5: VALID, epoch 7, 121 entries, the newest POWER-RESTORED with detail 120. -/
theorem test_retentionCheckEnd :
    after .retentionCheckEnd powerReturns (fun t =>
      decide (t.clock.outcome = .valid) && decide (t.log.epoch = 7) && decide (t.log.entries.length = 121)
        && decide (t.log.discarded = 3) && decide ((newest t).map LogEntry.cause = some .powerRestored)
        && decide ((newest t).map LogEntry.detail = some [120, 0])) = true := by decide

/-- Section 11.5: without a checksum the check is LOST, with epoch 1 and one entry. -/
theorem test_retentionCheckEnd_lost :
    after .retentionCheckEnd { powerReturns with ret.checksum := none } (fun t =>
      decide (t.clock.outcome = .lost) && decide (t.log.epoch = 1) && decide (t.log.entries.length = 1)) = true := by
  decide

/-! ## Witnesses: states and operands that meet the hypotheses of the statements, clause by clause -/

/-- A running part that receives a frame. -/
def receiving : State := { live with link.rx := .receiving, link.buffer := [0xA5] }

/-- A part whose transmitter sends an alert frame, with a reply composed or not. -/
def sendingState (g : Option Frame) (d : DeliveryMode) : State :=
  { live with link.sending := some ⟨false, 0xFF, []⟩, link.composed := g, alert.delivery := d }

/-- An alert unit's state. -/
def alertState (raised inService : Byte) (d : DeliveryMode) : State :=
  { live with alert.raised := raised, alert.inService := inService, alert.mask := 0, alert.delivery := d }

/-- Slot B holding the example board in a board state. -/
def boardIn (b : BoardState) : State := live.setSlot .B { exampleSlot with board := b }

/-- Slot A POWERED, record 2 defined, its channel in a state under these configurations. -/
def chanIn (st : ChannelState) (a p : Option BurstConfig) : State :=
  ((powered .A 5).setPattern 2 (some shortRecord)).setChannel .A
    { channelReset with state := st, active := a, pending := p, gap := some 0
                        play := some ⟨shortRecord, 1, 0, Config.clearedVector⟩ }

/-- A configuration of record 2. -/
def conf (m : BurstMode) : BurstConfig := ⟨2, m, 1, 1⟩

/-- A record of eight vectors with an expected profile. -/
def profiled : PatternRecord := ⟨0, 8, 100, 3, some ⟨Table.fill 8 0, 65535⟩⟩

/-- Slot A in BURST on a record, at a pass and a position. -/
def playing (rec : PatternRecord) (pass position : Nat) : State :=
  let s := lastVector .periodic (Table.fill 32 65535)
  s.setChannel .A { s.channel .A with play := some ⟨rec, pass, position, Config.clearedVector⟩
                                      pulses := Table.fill 4 [⟨true, true⟩] }

/-- The profile record of section 6.8 with a deviation strike limit: B10 and B02 have eight samples. -/
def exampleProfile (limit : Nat) : ProfileRecord :=
  { burst := 1, codes := ⟨[40, 60, 80, 100, 100, 80, 60, 40], rfl⟩, limit := 26, phases := ⟨[0, 1, 2, 3], rfl⟩
    points := Table.fill 8 .complete
    samples := Table.fill 32 ((⟨[78, 104, 96, 80, 70, 40, 38, 58], rfl⟩ : Table 8 Nat).map some)
    members := Table.fill 32 true, strikeLimit := some limit }

/-- The example board RAMPING or POWERED with a rail of its own, that rail's current conversion about to end. -/
def railEnd (b : BoardState) (ramp : Option Ramp) (vcore vio : RailState) (position v : Nat) : State :=
  (live.setSlot .B { exampleSlot with board := b, ramp := ramp, vcore := vcore, vio := vio }).setScanner .B
    { scannerStopped with running := true, roundCount := 30, conversion := some ⟨10000, false⟩
                          position := position, partialResult := some v }

/-- Slot A's scanner at a position of the round, with a first result and a capture list. -/
def roundAt (position : Nat) (first : Option Nat) (captures : List CaptureEntry) : State :=
  let s := powered .A 5
  s.setScanner .A { s.scanner .A with position := position, partialResult := first, captures := captures }

/-- Slot A's scanner converting a capture set for a burst whose record is collecting. -/
def capturing : State :=
  let s := powered .A 5
  (s.setScanner .A { s.scanner .A with converting := some ⟨2, 30, 32, 1, false, 1, false⟩ }).setCompare .A
    { compareReset with collecting := some (exampleProfile 4) }

theorem witness_RequestIsTakenFromItsFrame :
    Instr.wellFormed (.logRead 65535 255) = true
      ∧ requestFrame (.logRead 65535 255) = some ⟨0x40, [0xFF, 0xFF, 0xFF]⟩
      ∧ Instr.wellFormed (.zoneSetpoint (-32768) 255) = true
      ∧ requestFrame (.zoneSetpoint (-32768) 255) = some ⟨0x03, [0, 0x80, 0xFF]⟩ := by decide

theorem witness_BytesOfAFrameTakeItsRequest :
    (List.replicate 240 (0 : Byte)).length ≤ 240 ∧ topBit 0x20 = false ∧ live.part.phase = .running
      ∧ live.link.rx = .hunt := by decide

/-- A receiver that holds the frame of LOG-STATUS but for its last byte, with this low byte of the CRC. -/
def lastByte (low : Byte) : State := { live with link.rx := .receiving, link.buffer := [0xA5, 0, 0x42, low] }

theorem witness_ReceiverFollowsHuntAndReceiving :
    let crc := crc16 [0, 0x42]
    let low := crc.extractLsb' 0 8
    live.part.phase = .running ∧ live.link.rx = .hunt ∧ (0xA4 : Byte) ≠ 0xA5
      ∧ receiving.part.phase = .running ∧ receiving.link.rx = .receiving ∧ receiving.link.buffer = [0xA5#8]
      ∧ (240 : Byte).toNat ≤ 240 ∧ 240 < (241 : Byte).toNat
      ∧ (lastByte low).link.rx = .receiving ∧ topBit 0x42 = false
      ∧ (lastByte low).link.buffer = [0xA5#8, BitVec.ofNat 8 ([] : List Byte).length, 0x42] ++ [] ++ [low]
      ∧ crc.toNat = low.toNat + 256 * (crc.extractLsb' 8 8).toNat
      ∧ crc.toNat ≠ low.toNat + 256 * ((crc.extractLsb' 8 8) ^^^ 1).toNat
      ∧ { live with link.owed := true }.link.owed = true ∧ requestFrame .logStatus = some ⟨0x42, []⟩ := by decide

theorem witness_UnknownKindIsRefused :
    Ready live ∧ (0x00 : Byte) ∉ catalogue ∧ topBit 0x00 = false ∧ (0x7F : Byte) ∉ catalogue ∧ topBit 0x7F = false
      ∧ topBit 0x80 = true ∧ topBit 0xFF = true := by decide

theorem witness_TransmitterSendsRepliesThenAlerts :
    (sendingState (some ⟨0xC2, []⟩) .frame).part.phase = .running
      ∧ (sendingState (some ⟨0xC2, []⟩) .frame).link.sending = some ⟨false, 0xFF, []⟩
      ∧ (sendingState (some ⟨0xC2, []⟩) .frame).link.composed = some ⟨0xC2, []⟩
      ∧ (sendingState none .polled).link.composed = none ∧ (sendingState none .polled).alert.delivery = .polled
      ∧ (sendingState none .frame).alert.choose = none
      ∧ zoneRaised.part.phase = .running ∧ zoneRaised.link.sending = none ∧ zoneRaised.link.composed = none
      ∧ zoneRaised.alert.delivery = .frame ∧ zoneRaised.alert.choose = some 0
      ∧ (alertState 0x80 0 .frame).alert.choose = some 7 := by decide

/-- R188: the last byte of a reply goes out with ZONE raised, and the alert frame begins in that step. -/
theorem witness_Transmitter_alertAfterReply :
    let s : State := { zoneRaised with link.sending := some ⟨true, 0xC2, [0]⟩, link.owed := true }
    s.part.phase = .running ∧ s.link.sending = some ⟨true, 0xC2, [0]⟩ ∧ s.link.composed = none
      ∧ s.alert.delivery = .frame ∧ s.alert.choose = some 0
      ∧ after .frameSent s (fun t => decide (t.link.sending = some ⟨false, 0xFF, [0, 121, 0, 3]⟩) && !t.link.owed
          && decide (t.alert.raised = 0) && decide (t.alert.inService = 1)) = true := by decide

theorem witness_ReadoutsChangeOnlyTheLink :
    Ready present ∧ (present.slot .B).board ≠ .empty ∧ 1 ≤ [31].length ∧ (∀ n ∈ [31], n ≤ 31)
      ∧ (List.range 32).length ≤ 32 ∧ (∀ n ∈ List.range 32, n ≤ 31) ∧ (∃ n ∈ [0, 32], 31 < n)
      ∧ (present.slot .A).board = .empty ∧ 32 < (List.range 33).length ∧ ((boardIn .ident).slot .B).board ≠ .empty
      ∧ answers (.socketStatus 0 [32]) present 0x96 [9] = true
      ∧ answers (.socketStatus 1 [0, 32]) (boardIn .ident) 0x96 [4] = true
      ∧ answers (.socketStatus 0 []) present 0x96 [5] = true := by decide

theorem witness_LogStatusCarriesOccupancyAndArm : Ready live := by decide

/-- The bounds of LOG-READ's and LOG-RETIRE's ranges, on each side. -/
theorem witness_LogRequestsReadAndRetireTheOldest :
    Ready live ∧ answers (.logRead 255 8) live 0xC0 [0, 0, 0, 0, 0] = true
      ∧ answers (.logRead 256 8) live 0xC0 [4] = true ∧ answers (.logRead 0 0) live 0xC0 [4] = true
      ∧ answers (.logRead 0 9) live 0xC0 [4] = true ∧ answers (.logRetire 256) live 0xC1 [2, 0, 0, 0, 0, 0, 0] = true
      ∧ answers (.logRetire 257) live 0xC1 [4] = true := by decide

theorem witness_BoardStatusReportsAndClearsEvents :
    Ready present ∧ (present.slot .B).board ≠ .empty ∧ (present.slot .A).board = .empty := by decide

theorem witness_EligibilityFollowsRank :
    (⟨0x81, 0, 0, .rotating, 7, .frame⟩ : AlertUnit).base < 8
      ∧ (⟨0x81, 0, 0, .rotating, 7, .frame⟩ : AlertUnit).eligible 7 = true
      ∧ (⟨0x81, 0, 0, .rotating, 7, .frame⟩ : AlertUnit).choose = some 7
      ∧ (⟨0x81, 0, 0, .fixed, 7, .frame⟩ : AlertUnit).choose = some 0 := by decide

theorem witness_AlertRequestsChangeOnlyTheAlertUnit :
    Ready live ∧ (0x0F : Byte) &&& 0xF0 = 0 ∧ (0x80 : Byte) &&& 0x80 ≠ 0
      ∧ answers (.alertConfig 2 0) live 0xD1 [4] = true ∧ answers (.alertConfig 0 2) live 0xD1 [4] = true
      ∧ Ready (alertState 0x28 0 .polled) ∧ (alertState 0x28 0 .polled).alert.delivery = .polled
      ∧ (alertState 0x28 0 .polled).alert.choose = some 3
      ∧ (alertState 0 0 .polled).alert.choose = none ∧ live.alert.delivery = .frame := by decide

/-- R172: ALERT# is low with BOARD-D raised and BOARD-B in service only under a rank that lets BOARD-D through. -/
theorem witness_AlertRequests_line :
    (alertState 0x20 0 .polled).part.phase = .running ∧ (alertState 0x20 0 .polled).alertLow = true
      ∧ (alertState 0x80 0 .frame).alertLow = true ∧ (alertState 0x20 0x08 .polled).alertLow = false
      ∧ { alertState 0x20 0x08 .polled with alert.priority := .rotating, alert.base := 4 }.alertLow = true
      ∧ State.reset.part.phase = .checking ∧ State.reset.alertLow = false
      ∧ { alertState 0x20 0 .polled with part.phase := .commit }.alertLow = false
      ∧ { alertState 0x20 0 .polled with part.phase := .commit }.part.phase ≠ .running := by decide

theorem witness_AlertDoneEndsServiceAndRotates :
    Ready (alertState 0 0x80 .frame) ∧ (alertState 0 0x80 .frame).alert.inService.getLsbD 7 = true
      ∧ (alertState 0 0x80 .frame).alert.inService.getLsbD 0 = false ∧ ¬ 7 < 7 ∧ 7 < 8 := by decide

/-- A table of 16 breakpoints that ends at the top of the range. -/
def longTable : List Breakpoint := (List.range 16).map fun (n : Nat) => ⟨-640 + 256 * (n : Int), n⟩

theorem witness_TableAndWeightsAreWritten :
    Ready live ∧ 1 ≤ [(⟨-640, 0⟩ : Breakpoint)].length ∧ longTable.length ≤ 16
      ∧ (∀ p ∈ longTable, -640 ≤ p.temp ∧ p.temp ≤ 3200) ∧ longTable.Pairwise (fun p q => p.temp < q.temp)
      ∧ (∀ p ∈ [(⟨3200, 65535⟩ : Breakpoint)], -640 ≤ p.temp ∧ p.temp ≤ 3200) := by decide

theorem witness_FactorInterpolatesTheTable :
    exampleTable.length = 2 + 1 ∧ accelOk exampleTable = true
      ∧ (1600 : Int) ≤ (exampleTable.getD 0 ⟨0, 0⟩).temp ∧ (exampleTable.getD 2 ⟨0, 0⟩).temp ≤ 2400
      ∧ (exampleTable.getD 0 ⟨0, 0⟩).temp ≤ 1600 ∧ (1999 : Int) < (exampleTable.getD 1 ⟨0, 0⟩).temp
      ∧ (exampleTable.getD 1 ⟨0, 0⟩).temp ≤ 2000 ∧ (2399 : Int) < (exampleTable.getD 2 ⟨0, 0⟩).temp
      ∧ accelFactor exampleTable 2104 = 4710 := by decide

theorem witness_SnapshotRequestsAndAccountClear :
    Ready live ∧ live.acct.snapshot = .absent ∧ Ready lastPage ∧ lastPage.acct.snapshot ≠ .absent
      ∧ (∃ c, lastPage.acct.snapshot = .held c) ∧ Ready present ∧ (present.slot .B).board ≠ .empty
      ∧ answers (.accountRead 32) lastPage 0xB3 [4] = true
      ∧ (present.slot .A).board = .empty ∧ ((boardIn .ident).slot .B).board ≠ .empty
      ∧ answers (.accountClear 0) present 0xB5 [9] = true ∧ answers (.accountClear 1) (boardIn .ident) 0xB5 [0] = true :=
  ⟨by decide, by decide, by decide, by decide, ⟨_, rfl⟩, by decide, by decide, by decide, by decide, by decide,
    by decide, by decide⟩

theorem witness_AccountIntervalAccruesStress :
    live.part.phase = .running ∧ live.acct.interval = some 0 ∧ (live.slot .A).board = .empty
      ∧ ((setTag .B ⟨1, 1⟩ present).slot .B).board ≠ .empty
      ∧ ((setTag .B ⟨1, 1⟩ present).acct.sets.get .B).tag ≠ none
      ∧ { live with acct.snapshot := .waiting }.acct.snapshot = .waiting ∧ live.acct.snapshot ≠ .waiting := by decide

theorem witness_PatternLoadWritesTheWholeRunOrNothing :
    let vs : List RawVector := List.replicate 64 ⟨0xFFFF, 3⟩
    Ready loading ∧ loading.store.wf = true ∧ 1 ≤ vs.length ∧ vs.length ≤ 64 ∧ 8128 + vs.length ≤ 8192
      ∧ (∀ v ∈ vs, v.marks.toNat < 4) ∧ (∀ j < vs.length, loading.protectedVector (8128 + j) = false)
      ∧ loading.protectedVector (960 + 63) = true ∧ loading.protectedVector (960 + 64) = false := by decide

theorem witness_PatternDefineReplacesUnusedRecords :
    Ready loading ∧ 8191 ≤ 8191 ∧ 8191 + 1 ≤ 8192 ∧ loading.inUse 7 = false ∧ loading.inUse 3 = true
      ∧ loading.inUse 9 = true ∧ answers (.patternDefineWrite 7 8192 1 1 0 none) loading 0xA1 [4] = true
      ∧ answers (.patternDefineWrite 7 8191 2 1 0 none) loading 0xA1 [4] = true
      ∧ answers (.patternDefineWrite 7 8191 1 0 0 none) loading 0xA1 [4] = true
      ∧ answers (.patternDefineWrite 7 0 0 1 0 none) loading 0xA1 [4] = true
      ∧ answers (.patternDefineClear 32) loading 0xA1 [4] = true
      ∧ answers (.patternDefineWrite 32 0 1 1 0 none) loading 0xA1 [4] = true
      ∧ answers (.patternDefineQuery 32) loading 0xA1 [4] = true := by decide

theorem witness_BurstConfigFollowsTheChannelState :
    let i := chanIn .idle none none
    Ready i ∧ (i.slot .A).board ≠ .empty
      ∧ (i.channel .A).state = .idle ∧ ((chanIn .done none none).channel .A).state = .done
      ∧ ((chanIn .burst none none).channel .A).state = .burst ∧ ((chanIn .gap none none).channel .A).state = .gap
      ∧ ((chanIn .wait none none).channel .A).state = .wait
      ∧ (chanIn .wait none none).store.records.get 2 = some shortRecord
      ∧ (chanIn .wait none none).store.records.get 3 = none ∧ BurstMode.periodic ≠ .triggered
      ∧ ClosingWaits .A (chanIn .wait none none) ∧ (i.slot .B).board = .empty
      ∧ answers (.burstConfigSet 1 31 3 1 1) i 0xA2 [9] = true ∧ answers (.burstConfigSet 0 32 3 1 1) i 0xA2 [4] = true
      ∧ answers (.burstConfigSet 0 31 4 1 1) i 0xA2 [4] = true ∧ answers (.burstConfigSet 0 31 3 0 1) i 0xA2 [4] = true
      ∧ answers (.burstConfigSet 0 31 3 1 0) i 0xA2 [4] = true ∧ 1 < (2 : Byte).toNat ∧ 1 < (255 : Byte).toNat
      ∧ (takeFrame 0x22 [0, 2] i).link.sending = some ⟨true, 0xA2, [4]⟩ :=
  ⟨by decide, by decide, by decide, by decide, by decide, by decide, by decide, by decide, by decide, by decide,
    trivial, by decide, by decide, by decide, by decide, by decide, by decide, by decide, by decide, by decide⟩

theorem witness_ExerciseStartAndGapEndStartABurst :
    let s := chanIn .idle (some (conf .single)) none
    let g := chanIn .gap (some (conf .periodic)) (some (conf .triggered))
    ((s.channel .A).pending = none ∧ (s.channel .A).active = some (conf .single))
      ∧ s.store.records.get (conf .single).pattern = some shortRecord ∧ ClosingWaits .A s ∧ Ready s
      ∧ (s.slot .A).board = .powered ∧ s.zone.state ≠ .safe ∧ (s.channel .A).state = .idle
      ∧ (conf .single).mode ≠ .triggered
      ∧ (g.channel .A).pending = some (conf .triggered) ∧ (g.channel .A).state = .gap
      ∧ (g.channel .A).gap = some 0 ∧ (conf .triggered).mode = .triggered ∧ ClosingWaits .A g :=
  ⟨by decide, by decide, trivial, by decide, by decide, by decide, by decide, by decide, by decide, by decide,
    by decide, by decide, trivial⟩

/-- The refusals: an EMPTY slot, SAFE, a board that is not POWERED, a channel in WAIT, no configuration, and one
that names an undefined record. -/
theorem witness_ExerciseStart_refusals :
    let s := chanIn .idle (some (conf .single)) none
    let u := chanIn .idle (some (conf .single)) (some ⟨3, .single, 1, 1⟩)
    Ready s ∧ answers (.exerciseStart 1) s 0xA3 [9] = true
      ∧ answers (.exerciseStart 0) { s with zone.state := .safe } 0xA3 [7] = true
      ∧ answers (.exerciseStart 1) present 0xA3 [3] = true
      ∧ answers (.exerciseStart 0) (chanIn .wait (some (conf .single)) none) 0xA3 [3] = true
      ∧ answers (.exerciseStart 0) (chanIn .idle none none) 0xA3 [3] = true
      ∧ (u.channel .A).pending = some ⟨3, .single, 1, 1⟩ ∧ u.store.records.get 3 = none
      ∧ answers (.exerciseStart 0) u 0xA3 [3] = true ∧ answers (.exerciseStart 4) s 0xA3 [4] = true := by decide

theorem witness_ExerciseStopAbandonsTheBurst :
    let s := chanIn .burst (some (conf .single)) none
    Ready s ∧ (s.slot .A).board ≠ .empty ∧ (s.channel .A).state = .burst ∧ (s.slot .A).applyDeferred = false
      ∧ ((chanIn .gap none none).channel .A).state ≠ .burst
      ∧ ((s.setSlot .A { s.slot .A with applyDeferred := true }).slot .A).applyDeferred = true
      ∧ (s.slot .B).board = .empty ∧ answers (.exerciseStop 1) s 0xA4 [9] = true
      ∧ answers (.exerciseStop 1) (boardIn .ident) 0xA4 [0] = true := by decide

theorem witness_BurstTriggerStartsOrRestarts :
    let s := chanIn .wait (some (conf .triggered)) none
    let p := chanIn .wait (some (conf .triggered)) (some (conf .single))
    let u := chanIn .wait (some (conf .triggered)) (some ⟨3, .single, 1, 1⟩)
    let b := chanIn .burst (some (conf .triggered)) (some (conf .periodic))
    Ready s ∧ (s.slot .A).board ≠ .empty ∧ ClosingWaits .A s ∧ s.zone.state ≠ .safe
      ∧ { s with zone.state := .safe }.zone.state = .safe ∧ (s.channel .A).state = .wait
      ∧ (s.channel .A).active = some (conf .triggered) ∧ (s.channel .A).pending = none
      ∧ s.store.records.get 2 = some shortRecord
      ∧ (p.channel .A).pending = some (conf .single)
      ∧ (∃ c, (u.channel .A).pending = some c ∧ u.store.records.get c.pattern = none)
      ∧ (b.channel .A).state = .burst ∧ (b.channel .A).active = some (conf .triggered)
      ∧ (b.channel .A).pending = some (conf .periodic) ∧ (b.slot .A).applyDeferred = false
      ∧ ((chanIn .burst (some (conf .single)) none).channel .A).active = some (conf .single)
      ∧ (conf .single).mode ≠ .triggered ∧ ((chanIn .gap none none).channel .A).state = .gap :=
  ⟨by decide, by decide, trivial, by decide, by decide, by decide, by decide, by decide, by decide, by decide,
    ⟨_, rfl, by decide⟩, by decide, by decide, by decide, by decide, by decide, by decide, by decide⟩

/-- R86: a retrigger of a TRIGGERED burst with an apply deferred that changes the phase order and lowers the strike
limit, which quarantines socket 7 before the new burst marks its members; and a trigger in SAFE of an EMPTY slot. -/
theorem witness_BurstTrigger_deferred :
    let b := chanIn .burst (some (conf .triggered)) (some (conf .periodic))
    let s := (b.setSlot .A
      { b.slot .A with applyDeferred := true
                       staged := { (b.slot .A).staged with phases := Table.fill 4 3, strikeLimit := 2 } }).setSocket .A 7
      ⟨.on, 2, none, none⟩
    Ready s ∧ (s.slot .A).board ≠ .empty ∧ s.zone.state ≠ .safe ∧ (s.channel .A).state = .burst
      ∧ ClosingWaits .A s ∧ (s.channel .A).active = some (conf .triggered) ∧ (conf .triggered).mode = .triggered
      ∧ (s.channel .A).pending = some (conf .periodic) ∧ s.store.records.get 2 = some shortRecord
      ∧ (s.slot .A).applyDeferred = true
      ∧ after (.burstTrigger 0) s (fun t => decide ((t.compare .A).phases = Table.fill 4 3)
          && decide ((t.slot .A).abandoned = 1) && (t.compare .A).member.get 0 && !(t.compare .A).member.get 7
          && decide ((t.channel .A).active = some (conf .periodic))) = true
      ∧ (s.slot .B).board = .empty ∧ answers (.burstTrigger 1) { s with zone.state := .safe } 0xA5 [9] = true :=
  ⟨by decide, by decide, by decide, by decide, trivial, by decide, by decide, by decide, by decide, by decide,
    by decide, by decide, by decide⟩

theorem witness_VectorBoundaryPlaysThePasses :
    (playing profiled 2 0).part.phase = .running ∧ ((playing profiled 2 0).channel .A).state = .burst
      ∧ ((playing profiled 2 0).channel .A).play = some ⟨profiled, 2, 0, Config.clearedVector⟩
      ∧ capturePoint profiled 2 1 = some 1 ∧ capturePoint profiled 2 2 = none
      ∧ ((playing profiled 2 0).scanner .A).converting = none ∧ 0 + 1 < 0 + profiled.length
      ∧ 0 + profiled.length ≤ 7 + 1 ∧ 9 < ((playing profiled 9 7).channel .A).passes
      ∧ ((playing profiled 10 7).channel .A).passes ≤ 10 := by decide

/-- Slot A about to drive the vector of capture point 1, with an older entry or a set in conversion for a point, and a
closing record of burst 1 whose point 1 and one other are in these states. -/
def recapturing (captures : List CaptureEntry) (set : Option CaptureSet) (other : PointState) : State :=
  let s := playing profiled 2 0
  ((s.setScanner .A { s.scanner .A with captures := captures, converting := set }).setChannel .A
      { s.channel .A with burst := 2 }).setCompare .A
    { s.compare .A with
        closing := some { exampleProfile 4 with points := ((Table.fill 8 .complete).set 1 .awaited).set 7 other } }

/-- An older entry of the point, and a set in conversion for the point and for another; the record has another point
AWAITED, or none and is discarded. -/
theorem witness_VectorBoundary_captures :
    let l := recapturing [⟨1, 1⟩, ⟨0, 1⟩] (some ⟨0, 3, 32, 1, false, 1, false⟩) .awaited
    let c := recapturing [] (some ⟨1, 3, 32, 1, false, 1, false⟩) .complete
    l.part.phase = .running ∧ (l.channel .A).state = .burst ∧ capturePoint profiled 2 (0 + 1) = some 1
      ∧ (l.channel .A).play = some ⟨profiled, 2, 0, Config.clearedVector⟩ ∧ (l.compare .A).collecting = none
      ∧ (∃ e ∈ (l.scanner .A).captures, e.point = 1 ∧ e.burst = 1) ∧ (exampleProfile 4).burst = 1
      ∧ (l.scanner .A).converting = some ⟨0, 3, 32, 1, false, 1, false⟩ ∧ (0 : Fin 8) ≠ 1
      ∧ (c.scanner .A).converting = some ⟨1, 3, 32, 1, false, 1, false⟩ ∧ (c.channel .A).burst = 2
      ∧ after (.vectorBoundary .A) l (fun t => decide ((t.scanner .A).captures = [⟨0, 1⟩, ⟨1, 2⟩])
          && decide ((t.compare .A).closing.map (fun r => r.points.get 1) = some .lost)) = true
      ∧ after (.vectorBoundary .A) c (fun t => decide ((t.scanner .A).captures = [])
          && decide ((t.compare .A).closing = none) && decide (t.log = c.log)) = true := by decide

theorem witness_VectorBoundary_closing :
    ClosingWaits .A (recapturing [] (some ⟨1, 3, 32, 1, false, 1, false⟩) .complete) :=
  show ProfileRecord.finished _ = false by decide

/-- R67, section 4.8: the board through the example's lane map: the driven vector with bits 0 and 3 in BURST, the idle
word in GAP, and nothing in an EMPTY slot. -/
theorem witness_VectorBoundary_lanes :
    let s := chanIn .burst none none
    let map : Table 16 LaneEntry := Table.ofFn fun l =>
      if l = 1 then ⟨0, .invert⟩ else if l = 2 then ⟨5, .forceHigh⟩ else ⟨l.val, .normal⟩
    let b := (s.setSlot .A { s.slot .A with active := { (s.slot .A).active with laneMap := map } }).setChannel .A
      { s.channel .A with play := some ⟨shortRecord, 1, 0, ⟨9, false, false⟩⟩ }
    let g := b.setChannel .A { b.channel .A with state := .gap, play := none }
    (b.slot .A).board = .powered ∧ (b.channel .A).state = .burst ∧ (b.slot .B).board ≠ .powered
      ∧ (b.channel .A).play = some ⟨shortRecord, 1, 0, ⟨9, false, false⟩⟩
      ∧ (b.lanes .A).map Table.toList = some ([true, false, true, true] ++ List.replicate 12 false)
      ∧ b.clockGroups .A = .pulsing ∧ (g.channel .A).state ≠ .burst
      ∧ (g.lanes .A).map Table.toList = some ([false, true, true] ++ List.replicate 13 false)
      ∧ g.clockGroups .A = .heldLow ∧ b.lanes .B = none ∧ b.clockGroups .B = .released := by decide

theorem witness_SampleInstantCountsMismatches :
    (playing shortRecord 1 0).part.phase = .running ∧ ((playing shortRecord 1 0).channel .A).state = .burst
      ∧ ((playing shortRecord 1 0).channel .A).pulses.get 3 = [⟨true, true⟩]
      ∧ ((playing shortRecord 1 0).compare .A).mismatch.get 31 = 65535
      ∧ ((playing shortRecord 1 0).compare .A).member.get 31 = true
      ∧ ((playing shortRecord 1 0).compare .A).member.get 5 = false := by decide

/-- Slot A at the end of a SINGLE burst of some passes, with a collecting profile record one point of which is in
a state. -/
def collectingEnd (passes : Nat) (point : PointState) : State :=
  let s := lastVector .single (Table.fill 32 0)
  (s.setChannel .A { s.channel .A with active := some ⟨2, .single, passes, 500⟩
                                       play := some ⟨shortRecord, passes, 1, Config.clearedVector⟩ }).setCompare .A
    { s.compare .A with collecting := some { exampleProfile 4 with points := (Table.fill 8 .complete).set 7 point } }

/-- The end of a burst with an apply deferred, which changes the phase order. -/
def deferredEnd (m : BurstMode) : State :=
  let s := lastVector m ((Table.fill 32 0).set 9 4)
  let c := s.slot .A
  s.setSlot .A { c with applyDeferred := true, staged := { c.staged with phases := Table.fill 4 3 } }

theorem witness_BurstEndTakesVerdictsAndFollowsItsMode :
    ∀ m ∈ [BurstMode.continuous, .periodic, .single, .triggered],
      let s := lastVector m (((Table.fill 32 0).set 9 4).set 22 3)
      s.part.phase = .running ∧ (s.channel .A).state = .burst
        ∧ (s.channel .A).play = some ⟨shortRecord, 10, 1, Config.clearedVector⟩
        ∧ (s.channel .A).active = some ⟨2, m, 10, 500⟩ ∧ 0 + 2 ≤ 1 + 1 ∧ 10 ≤ 10
        ∧ (∀ g, (s.channel .A).pulses.get g = []) ∧ (s.compare .A).collecting = none
        ∧ (s.compare .A).closing = none ∧ (s.slot .A).applyDeferred = false
        ∧ (s.compare .A).member.get 9 = true ∧ 3 < (s.compare .A).mismatch.get 9
        ∧ ¬ 3 < (s.compare .A).mismatch.get 22 ∧ (s.channel .A).pending = none
        ∧ s.store.records.get 2 = some shortRecord := by decide

theorem witness_BurstEnd_profile :
    (∀ n ∈ [7, 8], ∀ pt ∈ [PointState.awaited, .lost, .complete],
      let s := collectingEnd n pt
      s.part.phase = .running ∧ (s.channel .A).state = .burst
        ∧ (s.channel .A).play = some ⟨shortRecord, n, 1, Config.clearedVector⟩
        ∧ (s.channel .A).active = some ⟨2, .single, n, 500⟩ ∧ (∀ g, (s.channel .A).pulses.get g = [])
        ∧ (s.compare .A).collecting
            = some { exampleProfile 4 with points := (Table.fill 8 .complete).set 7 pt }
        ∧ (s.compare .A).closing = none)
      ∧ ((Table.fill 8 PointState.complete).set 7 .awaited).get 7 = .awaited
      ∧ (∀ j : Fin 8, ((Table.fill 8 PointState.complete).set 7 .lost).get j ≠ .awaited)
      ∧ ∀ m ∈ [BurstMode.continuous, .periodic, .single, .triggered],
        let s := deferredEnd m
        s.part.phase = .running ∧ (s.slot .A).applyDeferred = true ∧ (s.channel .A).active = some ⟨2, m, 10, 500⟩
          ∧ (s.compare .A).member.get 9 = true ∧ 3 < (s.compare .A).mismatch.get 9
          ∧ s.store.records.get 2 = some shortRecord := by decide

/-- A burst end with no record collecting while the record of the burst before still waits for a point. -/
def waitingEnd (m : BurstMode) : State :=
  let s := lastVector m ((Table.fill 32 0).set 9 4)
  s.setCompare .A { s.compare .A with
    closing := some { exampleProfile 4 with points := (Table.fill 8 .complete).set 7 .awaited } }

/-- R83, R84, R92, R99: with a record still closing, and with one collecting, a failing member is reported and the mode
followed. -/
theorem witness_BurstEnd_closing :
    (∀ m ∈ [BurstMode.continuous, .periodic, .single, .triggered],
      let s := waitingEnd m
      s.part.phase = .running ∧ (s.channel .A).state = .burst ∧ (s.channel .A).active = some ⟨2, m, 10, 500⟩
        ∧ (s.compare .A).collecting = none ∧ (s.slot .A).applyDeferred = false
        ∧ (s.compare .A).member.get 9 = true ∧ 3 < (s.compare .A).mismatch.get 9
        ∧ after (.burstEnd .A) s (fun t => decide ((t.record .A 9).verdict = .failed)
            && decide ((t.record .A 8).verdict = .good) && decide ((t.compare .A).mismatch.get 9 = 0)
            && decide ((t.compare .A).closing = (s.compare .A).closing)) = true)
      ∧ ∀ n ∈ [7, 8], ∀ pt ∈ [PointState.awaited, .complete],
        let s := collectingEnd n pt
        let f := s.setCompare .A { s.compare .A with mismatch := (Table.fill 32 0).set 9 4 }
        (f.compare .A).collecting ≠ none ∧ (f.slot .A).applyDeferred = false
          ∧ after (.burstEnd .A) f (fun t => decide ((t.record .A 9).failing = 1)
              && decide ((t.channel .A).state = .done) && decide ((t.compare .A).mismatch.get 9 = 0)
              && decide ((t.compare .A).collecting = none)) = true := by decide

theorem witness_BurstEnd_waits : ClosingWaits .A (waitingEnd .continuous) := show ProfileRecord.finished _ = false by decide

/-- Slot A's scanner converting the last socket of the last capture set that a closing record waits for. -/
def closingLast (limit : Nat) : State :=
  let s := powered .A 5
  (s.setScanner .A { s.scanner .A with converting := some ⟨7, 31, 32, 1, false, 1, false⟩ }).setCompare .A
    { compareReset with
        closing := some { exampleProfile limit with points := (Table.fill 8 .complete).set 7 .awaited } }

/-- Strike limits below, at and above the new count of 1; ratios at and above the deviation limit. -/
theorem witness_ProfileVerdictAddsStrikesAboveTheLimit :
    let smp : Table 8 Nat := ⟨[78, 104, 96, 80, 70, 40, 38, 58], rfl⟩
    let struck := satInc 15 ((present.compare .B).devStrikes.get 2)
    (∀ limit ∈ [0, 1, 2], (exampleProfile limit).members.get 2 = true
        ∧ (∀ j : Fin 8, ((exampleProfile limit).samples.get 2).get j = some (smp.get j))
        ∧ (exampleProfile limit).strikeLimit = some limit)
      ∧ profileRatio (exampleProfile 1) 10 smp = 10 ∧ 10 ≤ (exampleProfile 1).limit
      ∧ profileRatio (exampleProfile 1) 2 smp = 104 ∧ (exampleProfile 1).limit < 104
      ∧ profileRatio { exampleProfile 1 with limit := 104 } 2 smp ≤ 104
      ∧ profileH1 (exampleProfile 1) 2 smp = 118 ∧ profileH2 (exampleProfile 1) 2 smp = 110
      ∧ 0 ≤ struck ∧ 1 ≤ struck ∧ struck < 2 ∧ (present.record .B 2).loggedProfile = false := by decide

/-- The last clause takes the step with strike limit 1: socket 2, of ratio 104, has its one strike and its report. -/
theorem witness_ProfileVerdict_step :
    let s := closingLast 4
    let rec7 := { exampleProfile 4 with points := (Table.fill 8 .complete).set 7 .awaited }
    s.part.phase = .running ∧ (s.scanner .A).running = true ∧ (s.scanner .A).conversion = some ⟨10000, false⟩
      ∧ (s.scanner .A).converting = some ⟨7, 31, 32, 1, false, 1, false⟩ ∧ 32 ≤ 31 + 1
      ∧ (s.compare .A).collecting = none ∧ (s.compare .A).closing = some rec7 ∧ rec7.burst = 1
      ∧ rec7.strikeLimit = some 4 ∧ rec7.points.get 7 = .awaited
      ∧ (∀ j : Fin 8, j ≠ 7 → rec7.points.get j ≠ .awaited)
      ∧ after (.conversionEnd .A (some 2275)) (closingLast 1) (fun t =>
          decide ((t.compare .A).devStrikes.get 2 = 1) && decide ((t.record .A 2).verdict = .failed)
            && decide ((t.compare .A).devStrikes.get 10 = 0) && decide ((t.compare .A).closing = none)) = true := by
  decide

theorem witness_BoardPowerUpStartsTheRamp :
    let c := present.slot .B
    Ready present ∧ present.zone.state ≠ .safe ∧ c.board = .present ∧ c.status = .valid ∧ c.active.vcore ≠ 0
      ∧ c.active.vio ≠ 0 ∧ c.active.order = .vioFirst ∧ (present.slot .A).board = .empty
      ∧ { present with zone.state := .safe }.zone.state = .safe
      ∧ ((boardIn .ramping).slot .B).board = .ramping ∧ ((boardIn .tripped).slot .B).board = .tripped
      ∧ { exampleSlot with status := .noAnswer }.status ≠ .valid := by decide

/-- A rail of the draining example board at the end of its current conversion, after a voltage reading. -/
def drainEnd (d : Drain) (position v : Nat) : State :=
  let s := railEnd .draining none ⟨300, 0, .lowering, 0, 0, none⟩ (heldAt 1800) position v
  s.setSlot .B { s.slot .B with drain := some d, drainLimit := some 150 }

theorem witness_DrainLowersTheRailsInReverseOrder :
    let d (last : Bool) := live.setSlot .B
      { exampleSlot with board := .draining, drain := some ⟨.vcore, last, false⟩, drainLimit := some 0 }
    Ready (boardIn .powered) ∧ ((boardIn .powered).slot .B).board = .powered
      ∧ ((boardIn .powered).channel .B).state ≠ .burst ∧ ((boardIn .ident).slot .B).board = .ident
      ∧ ((boardIn .powered).slot .A).board = .empty
      ∧ (d true).part.phase = .running ∧ ((d true).slot .B).board = .draining
      ∧ ((d true).slot .B).drainLimit = some 0 ∧ ((d true).slot .B).drain = some ⟨.vcore, true, false⟩
      ∧ ((d false).slot .B).drain = some ⟨.vcore, false, false⟩ := by decide

/-- 99 and 100 mV on either rail, and a rail that was OFF. -/
theorem witness_Drain_sample :
    ∀ x ∈ [((⟨.vcore, false, false⟩ : Drain), 1, 99), (⟨.vcore, true, false⟩, 1, 99), (⟨.vcore, false, false⟩, 1, 100),
        (⟨.vio, true, true⟩, 3, 1800), (⟨.vio, false, false⟩, 3, 100)],
      let s := drainEnd x.1 x.2.1 x.2.2
      s.part.phase = .running ∧ (s.scanner .B).running = true ∧ (s.scanner .B).conversion = some ⟨10000, false⟩
        ∧ (s.scanner .B).converting = none ∧ (s.scanner .B).partialResult = some x.2.2
        ∧ (s.scanner .B).position = x.2.1 ∧ (s.slot .B).board = .draining ∧ (s.slot .B).drain = some x.1 := by decide

theorem witness_SettleLimitTripsTheBoard :
    let s := railEnd .ramping none ⟨900, 1050, .settling, 0, 0, some 0⟩ (heldAt 1800) 1 0
    s.part.phase = .running ∧ (s.slot .B).board = .ramping ∧ (Rail.vcore.of (s.slot .B)).cond = .settling
      ∧ (Rail.vcore.of (s.slot .B)).settle = some 0 ∧ (Rail.vio.of (s.slot .B)).cond ≠ .settling
      ∧ (Rail.vio.of (s.slot .B)).settle ≠ some 0 := by decide

/-- Steps 0, 6 and 7; sockets of the next step that are chosen, faulty and not chosen. -/
theorem witness_InrushDwellSwitchesTheNextSocketsOn :
    (∀ n ∈ [0, 6, 7], (inrush n).part.phase = .running ∧ ((inrush n).slot .B).board = .ramping
        ∧ ((inrush n).slot .B).ramp = some ⟨.vioFirst, .inrush n⟩ ∧ ((inrush n).slot .B).dwell = some 0)
      ∧ ((inrush 0).socket .B 4).power = .off ∧ (inrush 0).eligible .B 4 = true ∧ (4 : Fin 32).val / 4 = 0 + 1
      ∧ ((inrush 0).lines.switchFault.get .B).get 4 = false
      ∧ ((setSwitchFault .B 5 true (inrush 0)).lines.switchFault.get .B).get 5 = true
      ∧ (inrush 0).eligible .B 6 = false := by decide

/-- A VIO sample of 1,890 mV, the top of its window; a settling rail, an overcurrent and an undervoltage. -/
theorem witness_RailSampleTripsOrSettlesTheRail :
    let up := railEnd .ramping (some ⟨.vioFirst, .first⟩) Config.railOff ⟨1800, 1800, .settling, 0, 0, some 9⟩ 3 1890
    let both := railEnd .powered none (heldAt 1050) ⟨1800, 1800, .held, 2, 1, none⟩ 3 1891
    let second := railEnd .ramping (some ⟨.vioFirst, .second⟩) ⟨1050, 1050, .settling, 0, 0, some 9⟩ (heldAt 1800) 1 998
    up.part.phase = .running ∧ (up.scanner .B).running = true
      ∧ (up.scanner .B).conversion = some ⟨10000, false⟩ ∧ (up.scanner .B).converting = none
      ∧ (up.scanner .B).partialResult = some 1890 ∧ (up.scanner .B).position = 3 ∧ (up.slot .B).board = .ramping
      ∧ 1890 ≤ 1800 + 1800 * 5 / 100 ∧ (up.slot .B).railLimit .vio = 600
      ∧ (up.slot .B).vio.cond = .settling ∧ (up.slot .B).vio.command = (up.slot .B).vio.target
      ∧ (up.slot .B).ramp = some ⟨.vioFirst, .first⟩ ∧ RailOrder.vioFirst.first = .vio
      ∧ (both.slot .B).board = .powered ∧ ¬ 1891 ≤ 1800 + 1800 * 5 / 100 ∧ 2 ≤ (both.slot .B).vio.windowMiss
      ∧ (both.slot .B).vio.cond = .held ∧ 1 ≤ (both.slot .B).vio.overRun
      ∧ (second.slot .B).ramp = some ⟨.vioFirst, .second⟩ ∧ (second.slot .B).vio.cond = .held
      ∧ (second.slot .B).vcore.cond = .settling ∧ 1050 ≤ 998 + 1050 * 5 / 100
      ∧ (second.socket .B 0).power = .off ∧ second.eligible .B 0 = true := by decide

theorem witness_BoardStageWritesOnlyTheStagedCopy :
    Ready present ∧ (present.slot .B).board ≠ .empty ∧ (present.slot .B).board ≠ .ident
      ∧ (present.slot .B).status = .valid ∧ (present.slot .B).descriptor = some ⟨30, 1200, 1800, 600, 600⟩
      ∧ (present.slot .B).board.checked = false ∧ ((boardIn .powered).slot .B).board.checked = true
      ∧ { exampleSlot with status := .noAnswer }.status ≠ .valid
      ∧ after (.boardStage 1 [.vcore 400]) present (fun t => decide ((t.slot .B).staged.vcore = 400)) = true
      ∧ answers (.boardStage 1 [.vcore 399]) present 0x92 [4] = true
      ∧ answers (.boardStage 1 [.strikeLimit 16]) present 0x92 [4] = true
      ∧ answers (.boardStage 1 (List.replicate 16 .readout)) present 0x92 [5] = true
      ∧ (present.slot .A).board = .empty ∧ ((boardIn .ident).slot .B).board = .ident
      ∧ answers (.boardStage 0 (List.replicate 15 .readout)) present 0x92 [9] = true
      ∧ answers (.boardStage 1 [.slew 0]) (boardIn .ident) 0x92 [3] = true
      ∧ answers (.boardStage 0 [.unknown 15]) present 0x92 [4] = true := by decide

/-- A list of items at the ends of their ranges, and items beyond them. -/
def stageEnds : List StageItem :=
  [.vcore 400, .vio 65535, .fullScale 20000, .currentLimit 255, .retryDelay 1, .strikeLimit 15, .devLimit 1, .dwell 100,
    .slew 1, .window 10, .policy 1, .order 1, .laneMap (Table.fill 16 (15, 3)), .phases 255, .readout]

theorem witness_BoardStage_lists :
    stageEnds.length = 15 ∧ (∀ i ∈ stageEnds, StageOk i) ∧ .vcore 0 ∉ stageEnds ∧ .vio 0 ∉ stageEnds
      ∧ StageOk (.vcore 0) ∧ stageEnds.any (stageAbove 1200 1800) = true
      ∧ (∀ i ∈ [StageItem.vcore 399, .vio 999, .fullScale 999, .fullScale 20001, .currentLimit 0, .retryDelay 0,
            .strikeLimit 16, .devLimit 0, .dwell 101, .slew 0, .window 11, .policy 2, .order 2,
            .laneMap ((Table.fill 16 (15, 3)).set 15 (16, 3)), .laneMap ((Table.fill 16 (15, 3)).set 0 (0, 4)),
            .unknown 15], ¬ StageOk i)
      ∧ ((boardIn .powered).slot .B).board.checked = true ∧ ∀ n : Nat, .unknown n ∉ stageEnds := by
  refine ⟨by decide, ?_, by decide, by decide, Or.inl rfl, by decide, ?_, by decide, ?_⟩
  · simp [stageEnds, StageOk, Table.fill]; decide
  · simp [StageOk, Table.fill, Table.set]; decide
  · simp [stageEnds]

/-- R19, section 12.3: every item of the list is written, VIO clamped to the board's 1,800 mV. -/
theorem test_boardStage_all :
    after (.boardStage 1 stageEnds) present (fun t =>
      let u := (t.slot .B).staged
      decide (u.vcore = 400 ∧ u.vio = 1800 ∧ u.fullScale = 20000 ∧ u.currentLimit = 255 ∧ u.retryDelay = 1
        ∧ u.strikeLimit = 15 ∧ u.devLimit = 1 ∧ u.dwell = 100 ∧ u.slew = 1 ∧ u.window = 10 ∧ u.policy = .drop
        ∧ u.order = .vcoreFirst ∧ u.laneMap = Table.fill 16 ⟨15, .forceHigh⟩ ∧ u.phases = Table.fill 4 3)) = true := by
  decide

theorem witness_BoardApplyTakesTheStagedCopy :
    let c : SlotCtl :=
      { exampleSlot with
          board := .powered, vcore := heldAt 1050, vio := heldAt 1800
          staged := { exampleSlot.staged with vcore := 1000, strikeLimit := 1, policy := .drop } }
    let s := live.setSlot .B c
    Ready s ∧ (s.slot .B).board ≠ .empty ∧ (s.slot .B).board ≠ .ident ∧ c.board.checked = true
      ∧ c.staged.vcore ≠ 0 ∧ c.staged.vio ≠ 0 ∧ c.applyDeferred = false ∧ (s.channel .B).state ≠ .burst
      ∧ (Rail.vcore.of c).cond = .held ∧ c.active.setpoint .vcore ≠ c.staged.setpoint .vcore
      ∧ c.active.setpoint .vio = c.staged.setpoint .vio ∧ (Rail.vio.of c).cond ≠ .settling
      ∧ c.staged.strikeLimit < c.active.strikeLimit ∧ c.staged.strikeLimit ≤ (s.socket .B 6).strikes
      ∧ ¬ c.staged.strikeLimit ≤ (s.socket .B 5).strikes ∧ c.active.policy = .keep ∧ c.staged.policy = .drop
      ∧ exampleSlot.staged.policy = exampleSlot.active.policy
      ∧ ((chanIn .burst none none).channel .A).state = .burst
      ∧ { c with staged := { c.staged with vio := 0 } }.staged.vio = 0
      ∧ { c with applyDeferred := true }.applyDeferred = true
      ∧ (s.slot .A).board = .empty ∧ ((boardIn .ident).slot .B).board = .ident
      ∧ answers (.boardApply 0) s 0x93 [9] = true ∧ answers (.boardApply 1) (boardIn .ident) 0x93 [3] = true := by decide

/-- DROP to KEEP on a POWERED board with a SETTLING rail: OFF sockets with and without an active switch fault, and a
QUARANTINED socket of 3 strikes under a limit lowered from 10 to 5; and KEEP to DROP with a FAILED socket ON. -/
theorem witness_BoardApply_policies :
    let c : SlotCtl :=
      { exampleSlot with
          board := .powered, vcore := ⟨900, 1050, .settling, 0, 0, some 9⟩, vio := heldAt 1800
          active := { exampleSlot.active with policy := .drop, strikeLimit := 10 }
          staged := { exampleSlot.staged with vcore := 1000, policy := .keep, strikeLimit := 5 } }
    let s := setSwitchFault .B 29 true (live.setSlot .B c)
    let f := ((powered .B 5).setRecord .B 9 { Config.zeroRecord with verdict := .failed })
    Ready s ∧ (s.slot .B).board ≠ .empty ∧ c.board.checked = true ∧ (Rail.vcore.of c).cond = .settling
      ∧ c.staged.strikeLimit < c.active.strikeLimit ∧ (s.socket .B 6).power = .quarantined
      ∧ (s.socket .B 6).strikes = 3 ∧ (s.socket .B 5).power ≠ .quarantined
      ∧ ¬ c.staged.strikeLimit ≤ (s.socket .B 5).strikes ∧ (s.socket .B 5).power = .off
      ∧ c.descriptor = some ⟨30, 1200, 1800, 600, 600⟩ ∧ (29 : Fin 32).val < 30 ∧ ¬ (30 : Fin 32).val < 30
      ∧ (s.lines.switchFault.get .B).get 5 = false ∧ (s.lines.switchFault.get .B).get 29 = true
      ∧ (s.socket .B 29).power = .off ∧ c.active.policy = .drop ∧ c.staged.policy = .keep
      ∧ (f.record .B 9).verdict = .failed ∧ (f.socket .B 9).power = .on
      ∧ (f.slot .B).active.policy = .keep := by decide

theorem witness_InsertionStartsTheIdentityRead :
    live.part.phase = .running ∧ (live.slot .A).board = .empty ∧ live.scanner .A = scannerStopped
      ∧ State.reset.part.phase ≠ .running
      ∧ ((live.setSlot .A { slotReset with board := .ident, identLimit := some 0 }).slot .A).identLimit = some 0
      ∧ ((live.setSlot .A { slotReset with board := .ident, identLimit := some 1 }).slot .A).identLimit ≠ some 0 := by
  decide

theorem witness_IdentityAnswerTagsTheSet :
    let lo : Descriptor := ⟨1, 400, 1000, 1, 1⟩
    let hi : Descriptor := ⟨32, 2500, 3600, 65535, 65535⟩
    (boardIn .ident).part.phase = .running ∧ ((boardIn .ident).slot .B).board = .ident
      ∧ lo.inRange = true ∧ hi.inRange = true ∧ { lo with socketCount := 0 }.inRange = false
      ∧ { hi with vcoreMax := 2501 }.inRange = false
      ∧ ((boardIn .ident).acct.sets.get .B).tag = none
      ∧ ((setTag .B ⟨1, 1⟩ (boardIn .ident)).acct.sets.get .B).tag = some ⟨1, 1⟩
      ∧ (⟨1, 1⟩ : Identity) ≠ ⟨1, 2⟩ := by decide

theorem witness_RemovalMakesTheSlotSafe :
    State.reset.part.phase ≠ .running ∧ (live.slot .A).board = .empty ∧ (boardIn .draining).part.phase = .running
      ∧ ((boardIn .draining).slot .B).board = .draining ∧ ((boardIn .tripped).slot .B).board = .tripped
      ∧ ((boardIn .tripped).channel .B).state ≠ .burst
      ∧ ((boardIn .draining).socket .B 6) = ⟨.quarantined, 3, none, none⟩
      ∧ ((boardIn .draining).socket .B 13).power = .masked ∧ ((powered .A 5).socket .A 31).power = .on
      ∧ ((deferredEnd .single).channel .A).state = .burst ∧ ((deferredEnd .single).slot .A).applyDeferred = true
      ∧ ((lastVector .single (Table.fill 32 0)).slot .A).applyDeferred = false := by decide

theorem witness_MaskAndUnmaskActOnTheListedSockets :
    Ready (boardIn .powered) ∧ ((boardIn .powered).slot .B).board ≠ .empty
      ∧ ((boardIn .powered).slot .B).board ≠ .ident ∧ (List.range 32).length ≤ 32
      ∧ (∀ n ∈ List.range 32, n ≤ 31) ∧ (∀ i, ((boardIn .powered).lines.switchFault.get .B).get i = false)
      ∧ ((boardIn .powered).socket .B 2).power = .off ∧ ((boardIn .powered).socket .B 13).power = .masked
      ∧ (13 : Fin 32).val < ((boardIn .powered).slot .B).countInForce
      ∧ ¬ (31 : Fin 32).val < ((boardIn .powered).slot .B).countInForce
      ∧ (∃ n ∈ [0, 32], 31 < n) ∧ 32 < (List.replicate 33 0).length
      ∧ ((setSwitchFault .B 13 true (boardIn .powered)).lines.switchFault.get .B).get 13 = true
      ∧ ((boardIn .powered).record .B 13).verdict ≠ .failed
      ∧ ((boardIn .ident).slot .B).board = .ident ∧ ((boardIn .ident).slot .A).board = .empty
      ∧ answers (.socketSetMask 0 [40]) (boardIn .ident) 0x95 [9] = true
      ∧ answers (.socketSetUnmask 1 [40]) (boardIn .ident) 0x95 [3] = true
      ∧ answers (.socketSetReinstate 0 []) (boardIn .ident) 0x95 [5] = true := by decide

/-- The example board POWERED, B06 FAILED and QUARANTINED, with a switch fault at B29. -/
def reinstating : State :=
  let f : FirstFailure := ⟨.functional, 9400000, 4, 3612, [7, 0, 2]⟩
  setSwitchFault .B 29 true
    ((boardIn .powered).setRecord .B 6 { Config.zeroRecord with verdict := .failed, first := some f })

/-- A list of several sockets with one listed twice, and the same with one that is tripped, last and listed twice. -/
theorem witness_ReinstateRestoresTheSocket :
    let s := reinstating
    let l := [6, 13, 6, 2]
    Ready s ∧ (s.slot .B).board ≠ .empty ∧ (s.slot .B).board ≠ .ident ∧ 1 ≤ l.length ∧ l.length ≤ 32
      ∧ (∀ n ∈ l, n ≤ 31) ∧ (∀ n ∈ l ++ [29, 29], n ≤ 31) ∧ (∀ n ∈ List.replicate 32 31, n ≤ 31)
      ∧ (s.record .B 6).first ≠ none ∧ (s.record .B 2).first = none ∧ (s.socket .B 6).power = .quarantined
      ∧ (s.socket .B 13).power = .masked ∧ (s.slot .B).board = .powered ∧ (s.socket .B 29).power = .off
      ∧ (s.lines.switchFault.get .B).get 29 = true ∧ (∀ n ∈ l, (s.lines.switchFault.get .B).get (socketOf n) = false)
      ∧ l.getLast? = some (2 : Fin 32).val ∧ (l ++ [29, 29]).getLast? = some (29 : Fin 32).val
      ∧ ((s.slot .B).descriptor.map Descriptor.socketCount) = some 30 ∧ s.log.entries.length ≤ 256 := by decide

/-- R36, R37: four entries in list order, the second REINSTATE of B06 with cause NONE; and a socket that goes ON onto its
switch fault is tripped. -/
theorem test_reinstate_list :
    after (.socketSetReinstate 1 [6, 13, 6, 2]) reinstating (fun t =>
        decide (t.link.sending = some ⟨true, 0x95, [0, 2, 0, 2, 2]⟩)
          && decide (t.log.entries.map LogEntry.detail = [[5], [0xFF], [0xFF], [0xFF]])) = true
      ∧ after (.socketSetReinstate 1 [29, 29]) reinstating (fun t =>
        decide (t.socket .B 29 = ⟨.tripWait, 1, none, some 30⟩) && decide ((t.record .B 29).trips = 2)
          && decide ((newest t).map LogEntry.cause = some .switchFault)) = true := by decide

theorem witness_SwitchFaultTripsAndRetryRecovers :
    let s := (powered .A 5).setSocket .A 9 ⟨.tripWait, 1, none, some 0⟩
    s.part.phase = .running ∧ (s.socket .A 0).power = .on ∧ (s.socket .A 5).power ≠ .on
      ∧ (s.socket .A 9).power = .tripWait ∧ (s.socket .A 9).retry = some 0
      ∧ (s.lines.switchFault.get .A).get 9 = false ∧ (s.socket .A 0).retry ≠ some 0
      ∧ (s.slot .A).board = .powered ∧ s.eligible .A 9 = true
      ∧ ((setSwitchFault .A 9 true s).lines.switchFault.get .A).get 9 = true := by decide

/-- The last conversion of a capture set whose record is still collecting. -/
def lastOfSet : State :=
  let s := closingLast 4
  s.setCompare .A { s.compare .A with collecting := (s.compare .A).closing, closing := none }

theorem witness_ConversionEndFollowsTheRound :
    let s := roundAt 66 none []
    let e := roundAt 66 none [⟨7, 1⟩]
    s.part.phase = .running ∧ (live.scanner .A).running = false ∧ (s.scanner .A).running = true
      ∧ (s.scanner .A).conversion = some ⟨10000, false⟩ ∧ (s.scanner .A).converting = none
      ∧ 31 < (s.scanner .A).roundCount ∧ (s.scanner .A).position = 4 + 2 * 31 ∧ (s.scanner .A).captures = []
      ∧ (e.scanner .A).captures = [⟨7, 1⟩] ∧ (e.scanner .A).setsBegun < 2 ∧ 0 < (e.slot .A).countInForce
      ∧ ((roundAt 0 none []).scanner .A).position = 0 ∧ ((roundAt 2 none []).scanner .A).position = 2
      ∧ (capturing.scanner .A).converting = some ⟨2, 30, 32, 1, false, 1, false⟩ ∧ 30 + 1 < 32
      ∧ (capturing.scanner .A).running = true ∧ (capturing.scanner .A).conversion = some ⟨10000, false⟩
      ∧ (capturing.compare .A).collecting = some (exampleProfile 4) ∧ (exampleProfile 4).burst = 1
      ∧ (capturing.compare .A).closing = none
      ∧ (lastOfSet.scanner .A).converting = some ⟨7, 31, 32, 1, false, 1, false⟩ ∧ 32 ≤ 31 + 1
      ∧ (lastOfSet.scanner .A).captures = [] ∧ (lastOfSet.compare .A).closing = none
      ∧ (lastOfSet.compare .A).collecting
          = some { exampleProfile 4 with points := (Table.fill 8 .complete).set 7 .awaited } := by decide

/-- Two sets begun in the round; a conversion discarded by ZONE-RESET; sets of an abandoned burst, one of them
overwritten by a new burst whose samples are kept. -/
theorem witness_ConversionEnd_discards :
    let e := roundAt 66 none [⟨7, 1⟩]
    let two := e.setScanner .A { e.scanner .A with setsBegun := 2 }
    let z := two.setScanner .A { two.scanner .A with conversion := some ⟨10000, true⟩ }
    let set (s : State) (c : CaptureSet) := s.setScanner .A { s.scanner .A with converting := some c }
    let last := set lastOfSet ⟨7, 31, 32, 1, true, 1, true⟩
    (two.scanner .A).captures = [⟨7, 1⟩] ∧ 2 ≤ (two.scanner .A).setsBegun ∧ (two.scanner .A).converting = none
      ∧ after (.conversionEnd .A (some 241)) two (fun t => decide ((t.scanner .A).captures = [⟨7, 1⟩])
          && decide ((t.scanner .A).converting = none) && decide ((t.scanner .A).position = 67)) = true
      ∧ (z.scanner .A).running = true ∧ (z.scanner .A).conversion = some ⟨10000, true⟩ ∧ 0 < (z.slot .A).countInForce
      ∧ after (.conversionEnd .A (some 241)) z (fun t => decide ((t.scanner .A).position = 0)
          && decide ((t.scanner .A).setsBegun = 1) && decide ((t.scanner .A).partialResult = none)
          && decide (((t.scanner .A).converting.map CaptureSet.point) = some 7)) = true
      ∧ after (.conversionEnd .A (some 241)) (set capturing ⟨2, 30, 32, 1, true, 1, true⟩) (fun t =>
          decide (t.compare .A = capturing.compare .A)
            && decide ((t.scanner .A).converting = some ⟨2, 31, 32, 1, true, 1, true⟩)) = true
      ∧ (last.scanner .A).converting = some ⟨7, 31, 32, 1, true, 1, true⟩ ∧ (last.scanner .A).captures = []
      ∧ after (.conversionEnd .A (some 241)) last (fun t => decide (t.compare .A = lastOfSet.compare .A)
          && decide ((t.scanner .A).converting = none)) = true := by decide

/-- Socket 31 with a code above the limit; temperatures at the cutoff and out of range. -/
theorem witness_SocketSampleTripsAnOnSocket :
    let s := (roundAt (5 + 2 * 31) (some 231) []).setSocket .A 31 ⟨.on, 0, some 241, none⟩
    let f := (roundAt (5 + 2 * 31) (some 230) []).setScanner .A
      { (roundAt (5 + 2 * 31) (some 230) []).scanner .A with faults := Table.fill 32 2 }
    s.part.phase = .running ∧ (s.scanner .A).running = true ∧ (s.scanner .A).conversion = some ⟨10000, false⟩
      ∧ (s.scanner .A).converting = none ∧ (s.scanner .A).partialResult = some 231
      ∧ (s.scanner .A).position = 5 + 2 * 31 ∧ (s.socket .A 31).power = .on
      ∧ (s.socket .A 31).overCode = some 241 ∧ (s.slot .A).active.currentLimit < 231
      ∧ (s.slot .A).active.currentLimit = 230 ∧ s.zone.tuning.socketCutoff = 2400
      ∧ min 3 ((f.scanner .A).faults.get 31 + 1) = 3 ∧ (f.socket .A 31).overCode = none
      ∧ (f.socket .A 5).power ≠ .on := by decide

theorem witness_ThrottleTimersEndAndFall :
    ((powered .B 5).setThrottle .B ⟨1, some 0, some 0⟩).part.phase = .running
      ∧ ((powered .B 5).setThrottle .B ⟨1, some 0, some 0⟩).throttle .B = ⟨1, some 0, some 0⟩
      ∧ ((powered .B 5).throttle .B).hold ≠ some 0 ∧ ((powered .B 5).throttle .B).fall ≠ some 0 := by decide

/-- Slot B at the end of a round, with the temperature of socket 7. -/
def lastOfRound (temp : Int) : State :=
  let s := powered .B 5
  s.setScanner .B
    { s.scanner .B with position := 3 + 2 * 32, partialResult := some 10
                        records := (Table.fill 32 Config.invalidSample).set 7 ⟨0, true, temp, true, false, 100⟩ }

/-- R119, R120: at 2,080 the step rises, at 2,032 nothing starts, and below it the fall timer starts. -/
theorem witness_Throttle_round :
    let s := lastOfRound 2080
    s.part.phase = .running ∧ (s.scanner .B).running = true ∧ (s.scanner .B).conversion = some ⟨10000, false⟩
      ∧ (s.scanner .B).converting = none ∧ (s.scanner .B).roundCount = 32 ∧ (s.scanner .B).position = 3 + 2 * 32
      ∧ 0 ≤ s.zone.tuning.hysteresis ∧ (s.slot .B).board = .powered
      ∧ after (.conversionEnd .B none) s (fun t => decide (t.throttle .B = ⟨1, some 10000, none⟩)) = true
      ∧ after (.conversionEnd .B none) ((lastOfRound 2032).setThrottle .B ⟨1, none, some 7⟩)
          (fun t => decide (t.throttle .B = ⟨1, none, none⟩)) = true
      ∧ after (.conversionEnd .B none) ((lastOfRound 2031).setThrottle .B ⟨1, none, none⟩)
          (fun t => decide (t.throttle .B = ⟨1, none, some 10000⟩)) = true := by decide

theorem witness_SetpointAndCoolDriveTheZone :
    let z (st : ZoneState) (t : Option Int) : State := { live with zone.state := st, zone.lastValid := t }
    Ready (z .idle (some 400)) ∧ (z .idle (some 400)).zone.lastValid = some 400
      ∧ (z .idle none).zone.lastValid = none ∧ (z .soak none).zone.state = .soak ∧ (z .cool none).zone.state = .cool
      ∧ (z .safe none).zone.state = .safe
      ∧ answers (.zoneSetpoint 3200 160) (z .idle (some 400)) 0x83 [2, 16, 9] = true
      ∧ answers (.zoneSetpoint (-640) 1) (z .idle (some 400)) 0x83 [0, 0x80, 0xFD] = true
      ∧ answers (.zoneSetpoint 3201 160) (z .idle (some 400)) 0x83 [4] = true
      ∧ answers (.zoneSetpoint (-641) 1) (z .idle (some 400)) 0x83 [4] = true
      ∧ answers (.zoneSetpoint 0 161) (z .idle (some 400)) 0x83 [4] = true
      ∧ answers (.zoneSetpoint 0 0) (z .idle (some 400)) 0x83 [4] = true := by decide

theorem witness_ZoneTuneWritesEveryItemOrNone :
    let s : State := { live with zone.target := some 2320 }
    Ready live ∧ Ready s ∧ (∀ g, live.zone.target = some g → g + 80 ≤ 960) ∧ s.zone.target = some 2320
      ∧ (2399 : Int) < 2320 + 80 ∧ answers (.zoneTune [⟨5, 2399⟩]) s 0x84 [3] = true
      ∧ after (.zoneTune [⟨5, 2400⟩]) s (fun t => decide (t.zone.tuning.zoneCutoff = 2400)) = true
      ∧ answers (.zoneTune [⟨1, 0⟩, ⟨0, 2001⟩]) live 0x84 [4] = true
      ∧ answers (.zoneTune (List.replicate 11 ⟨0, 0⟩)) live 0x84 [5] = true :=
  ⟨by decide, by decide, (by intro g h; cases h), by decide, by decide, by decide, by decide, by decide, by decide⟩

/-- Ten items at the ends of their ranges, and items beyond them. -/
def tuneEnds : List TuneItem :=
  [⟨0, 2000⟩, ⟨1, 500⟩, ⟨2, 8⟩, ⟨3, 3600⟩, ⟨4, 1000⟩, ⟨5, 3360⟩, ⟨6, 640⟩, ⟨7, -640⟩, ⟨8, 320⟩, ⟨9, 1600⟩]

theorem witness_ZoneTune_lists :
    tuneEnds.length = 10 ∧ (∀ i ∈ tuneEnds, TuneOk i)
      ∧ (∀ i ∈ [(⟨0, 2001⟩ : TuneItem), ⟨1, -1⟩, ⟨2, 7⟩, ⟨3, 9⟩, ⟨4, 1001⟩, ⟨5, 959⟩, ⟨6, 3201⟩, ⟨7, -641⟩, ⟨8, 7⟩,
          ⟨9, 319⟩, ⟨10, 0⟩], ¬ TuneOk i)
      ∧ after (.zoneTune tuneEnds) live
          (fun t => decide (t.zone.tuning = ⟨2000, 500, 8, 3600, 1000, 3360, 640, -640, 320, 1600⟩)) = true := by
  refine ⟨by decide, ?_, ?_, by decide⟩
  · simp [tuneEnds, TuneOk]
  · simp [TuneOk]

theorem witness_SafeEntryLocksTheZoneOut :
    let f : State := { live with zone.primary := ⟨0, false, 2⟩, zone.secondary := ⟨0, false, 2⟩ }
    Ready live ∧ live.zone.state ≠ .safe ∧ live.part.phase = .running ∧ live.zone.interval = some 0
      ∧ live.zone.tuning.zoneCutoff ≤ 2400 ∧ ¬ live.zone.tuning.zoneCutoff ≤ 2399
      ∧ 2 ≤ f.zone.primary.faults ∧ 2 ≤ f.zone.secondary.faults ∧ f.zone.interval = some 0
      ∧ { live with zone.state := .safe }.zone.state = .safe := by decide

/-- A zone in a state with target and effective setpoint 2,000. -/
def zoneIn (st : ZoneState) (settle exc : Nat) : State :=
  { live with zone.state := st, zone.target := some 2000, zone.effective := some 2000, zone.settleCount := settle
              zone.excCount := exc }

theorem witness_ControlIntervalRunsTheLoop :
    let r : State := { zoneIn .ramp 0 0 with zone.effective := some 1984 }
    let far : State := { zoneIn .ramp 0 0 with zone.effective := some 1983 }
    let near : State := { zoneIn .ramp 0 0 with zone.effective := some 2017 }
    live.part.phase = .running ∧ live.zone.interval = some 0 ∧ (2399 : Int) < live.zone.tuning.zoneCutoff
      ∧ 10 ≤ live.zone.tuning.settleTime ∧ live.zone.state = .idle ∧ (zoneIn .safe 0 0).zone.state = .safe
      ∧ ((2000 : Int) - 1984).natAbs ≤ r.zone.rampRate.natAbs ∧ 1983 + far.zone.rampRate < 2000
      ∧ 2000 < 2017 - near.zone.rampRate ∧ 1 ≤ r.zone.rampRate
      ∧ ((2032 : Int) - 2000).natAbs ≤ live.zone.tuning.band.toNat
      ∧ live.zone.tuning.band.toNat < ((2033 : Int) - 2000).natAbs
      ∧ ((zoneIn .settle 298 0).zone.settleCount : Int) + 1 < live.zone.tuning.settleTime
      ∧ live.zone.tuning.settleTime ≤ ((zoneIn .settle 299 0).zone.settleCount : Int) + 1
      ∧ (zoneIn .soak 0 28).zone.excCount < 29 ∧ (zoneIn .soak 0 29).zone.excCount = 29
      ∧ (zoneIn .settle 0 0).zone.effective = some 2000 := by decide

/-- COOL with the effective setpoint 16 and 17 above the cool target and at it; sensors 80 and 81 apart, at counts 8
and 9; readings out of range on each side; and the states an interval without a reading can meet. -/
theorem witness_ControlInterval_coolAndSensors :
    let cool (e : Int) : State := { zoneIn .cool 0 0 with zone.effective := some e }
    let d (n : Nat) : State := { live with zone.discCount := n }
    let u := live.zone.tuning
    (cool 576).zone.interval = some 0 ∧ (cool 576).part.phase = .running
      ∧ u.coolTarget < 576 ∧ 576 - u.coolTarget ≤ (cool 576).zone.rampRate
      ∧ (cool 577).zone.rampRate < 577 - u.coolTarget ∧ (560 : Int) ≤ u.coolTarget ∧ u.coolTarget < 561
      ∧ ¬ 80 < ((480 : Int) - 400).natAbs ∧ 80 < ((481 : Int) - 400).natAbs
      ∧ (d 8).zone.discCount < 9 ∧ 9 ≤ (d 9).zone.discCount ∧ (d 9).zone.discNote = false
      ∧ (-641 : Int) < -640 ∧ (3200 : Int) < 3201 ∧ (2399 : Int) < u.zoneCutoff
      ∧ live.zone.primary.faults < 2 ∧ 0 ≤ u.fanFloor ∧ live.zone.state ≠ .safe
      ∧ (zoneIn .settle 5 0).zone.state = .settle ∧ (zoneIn .soak 0 5).zone.state = .soak := by decide

/-- R114: COOL ends in IDLE at the cool target, with the integrator cleared and the fan at its floor. -/
theorem test_controlInterval_cool :
    after (.controlInterval (some 560) (some 560)) { zoneIn .cool 0 0 with zone.integ := 5 } (fun t =>
      decide (t.zone.state = .idle) && decide (t.zone.integ = 0) && decide (t.zone.fan = 200)) = true := by decide

theorem witness_ZoneResetReturnsTheZoneToIdle :
    Ready (powered .A 5) ∧ (powered .A 5).zone.state ≠ .safe ∧ (zoneIn .safe 0 0).zone.state = .safe
      ∧ Ready (zoneIn .safe 0 0) ∧ ((powered .A 5).scanner .A).running = true := by decide

theorem witness_ReferencesCountEveryTimer :
    live.part.phase = .running ∧ 1000 ≤ live.clock.msCount
      ∧ { live with clock.msCount := 999 }.clock.msCount < 1000 ∧ (live.scanner .A).running = false
      ∧ ((powered .A 5).scanner .A).running = true := by decide

theorem witness_ClockMonitorFollowsTheReference :
    live.clock.live = .locked ∧ live.part.phase = .running ∧ (inHoldover true).clock.live = .holdover
      ∧ (inHoldover true).clock.qualifying = true ∧ (inHoldover false).clock.qualifying = false
      ∧ (committing false).part.phase = .commit ∧ (committing false).clock.live = .locked := by decide

theorem witness_CommitRetainsTheAccounts :
    live.part.phase = .running ∧ State.reset.part.phase = .checking ∧ (committing true).part.phase = .commit
      ∧ (committing true).part.resetKept = true ∧ (committing true).lines.reset = false
      ∧ (committing false).part.resetKept = false ∧ live.part.phase ≠ .commit
      ∧ { committing true with part.phase := .retained, lines.reset := true }.lines.reset = true
      ∧ ((boardIn .powered).slot .B).board.live = true ∧ ((boardIn .ident).slot .B).board = .ident
      ∧ (committing true).link.sending = none
      ∧ { committing true with link.sending := some ⟨true, 0xC2, []⟩ }.link.sending = some ⟨true, 0xC2, []⟩
      ∧ State.reset.part.phase ≠ .running ∧ requestFrame .identify = some ⟨0x01, []⟩ := by decide

/-- A retention check of an image of `n` entries, with POWER-FAIL# asserted at its end and a board in slot A. -/
def powerFails (n : Nat) : State :=
  let m : Image := ⟨PerSlot.fill Config.blankSet, fullLog n, 65534, 255⟩
  { powerReturns with ret := ⟨m, some m, true⟩, lines.powerFail := true
                      lines.present := State.reset.lines.present.set .A true }

theorem witness_RetentionCheckRestoresOrLoses :
    powerReturns.part.phase = .checking ∧ powerReturns.part.failSeen = false
      ∧ powerReturns.lines.powerFail = false ∧ powerReturns.ret.mark = true
      ∧ powerReturns.ret.image.entries.length < 256
      ∧ State.reset.ret.mark = false ∧ State.reset.ret.checksum = none ∧ State.reset.part.phase = .checking
      ∧ (fullLog 255).length < 256 ∧ State.reset.lines.present.get .A = false
      ∧ (State.reset.lines.present.set .A true).get .A = true
      ∧ (powerFails 256).part.phase = .checking ∧ (powerFails 256).lines.powerFail = true
      ∧ ¬ (powerFails 256).ret.image.entries.length < 256 ∧ (powerFails 256).lines.present.get .A = true
      ∧ { powerReturns with part.failSeen := true }.part.failSeen = true := by decide

theorem witness_RetentionCheck_valid (n : Nat) :
    (∃ i, powerReturns.ret.checksum = some i ∧ imageCrc i = imageCrc powerReturns.ret.image)
      ∧ (powerFails n).ret.mark = true
      ∧ ∃ i, (powerFails n).ret.checksum = some i ∧ imageCrc i = imageCrc (powerFails n).ret.image :=
  ⟨⟨_, rfl, rfl⟩, rfl, ⟨_, rfl, rfl⟩⟩

/-- R153, R179: a full restored log loses its oldest entry to POWER-RESTORED, and the commit that follows copies it. -/
theorem test_retentionCheckEnd_commits :
    after .retentionCheckEnd (powerFails 256) (fun t =>
      decide (t.part.phase = .commit) && decide (t.log.entries.length = 256) && decide (t.log.discarded = 65535)
        && decide ((newest t).map LogEntry.detail = some [0, 1]) && decide (t.log.epoch = 0)
        && decide (t.ret.image.entries = t.log.entries) && decide (t.ret.checksum = none)
        && decide ((t.slot .A).board = .empty)) = true := by decide

/-- A part with a POWERED board at the end of a burst in which every member fails, and that end in its queue. -/
def stepping : State := { lastVector .periodic (Table.fill 32 4) with pending := [.burstEnd .A] }

theorem stepping_steps : ∃ t, step stepping = .next t ∧ (t.record .A 0).verdict = .failed := ⟨_, rfl, by decide⟩

theorem witness_EveryStepKeepsStoreAndLogLegal : StoreAndLogLegal stepping ∧ ∃ t, step stepping = .next t :=
  ⟨by decide, _, rfl⟩

theorem witness_EveryStepKeepsSocketsSafe : SocketsSafe stepping ∧ ∃ t, step stepping = .next t :=
  ⟨by decide, _, rfl⟩

theorem witness_EveryStepKeepsThermalSafe : ThermalSafe stepping ∧ ∃ t, step stepping = .next t :=
  ⟨by decide, _, rfl⟩

theorem witness_EveryStepKeepsVerdictsAgree : VerdictsAgree stepping ∧ ∃ t, step stepping = .next t :=
  ⟨by decide, _, rfl⟩

theorem witness_EveryStepKeepsStrikesLegal : StrikesLegal stepping ∧ ∃ t, step stepping = .next t :=
  ⟨by decide, _, rfl⟩

theorem witness_EveryStepKeepsChannelsLegal :
    SocketsSafe stepping ∧ ChannelsLegal stepping ∧ ∃ t, step stepping = .next t := by
  refine ⟨by decide, ?_, _, rfl⟩
  intro k _
  cases k
  · exact ⟨fun _ => rfl, trivial⟩
  all_goals exact ⟨fun h => absurd rfl h, trivial⟩

end Sys2Proof.Tests
end

section
/-!
PROOFS. What a command can be: the rules that serve the requests of the catalogue, listed once, and the loops over
the four slots.
-/

namespace Sys2Proof.Machine

open Safety

/-! ## Requests -/

/-- The rules that serve requests (R190), for every operand, and the refusals that a frame can meet before its rule
is looked at. -/
inductive Request : (State → Served) → Prop
  | identify : Request serveIdentify
  | zoneReset : Request serveZoneReset
  | zoneSetpoint (t : Int) (r : Nat) : Request (serveZoneSetpoint t r)
  | zoneTune (l : List TuneItem) : Request (serveZoneTune l)
  | zoneCool : Request serveZoneCool
  | zoneAbort : Request serveZoneAbort
  | zoneStatus : Request serveZoneStatus
  | boardPowerUp (n : Nat) : Request (serveBoardPowerUp n)
  | boardPowerDown (n : Nat) : Request (serveBoardPowerDown n)
  | boardStage (n : Nat) (l : List StageItem) : Request (serveBoardStage n l)
  | boardApply (n : Nat) : Request (serveBoardApply n)
  | boardStatus (n : Nat) : Request (serveBoardStatus n)
  | socketSetMask (n : Nat) (l : List Nat) : Request (serveSocketSetMask n l)
  | socketSetUnmask (n : Nat) (l : List Nat) : Request (serveSocketSetUnmask n l)
  | socketSetReinstate (n : Nat) (l : List Nat) : Request (serveSocketSetReinstate n l)
  | socketSetOther (n : Nat) (l : List Nat) : Request (serveSocketSetOther n l)
  | socketStatus (n : Nat) (l : List Nat) : Request (serveSocketStatus n l)
  | patternLoad (a : Nat) (l : List RawVector) : Request (servePatternLoad a l)
  | patternDefineWrite (r a n p t : Nat) (f : Option Profile) : Request (servePatternDefineWrite r a n p t f)
  | patternDefineClear (r : Nat) : Request (servePatternDefineClear r)
  | patternDefineQuery (r : Nat) : Request (servePatternDefineQuery r)
  | burstConfigSet (n p m c g : Nat) : Request (serveBurstConfigSet n p m c g)
  | burstConfigQuery (n : Nat) : Request (serveBurstConfigQuery n)
  | burstConfigOther (n : Nat) : Request (serveBurstConfigOther n)
  | exerciseStart (n : Nat) : Request (serveExerciseStart n)
  | exerciseStop (n : Nat) : Request (serveExerciseStop n)
  | burstTrigger (n : Nat) : Request (serveBurstTrigger n)
  | accelTableLoad (l : List Breakpoint) : Request (serveAccelTableLoad l)
  | weightsSet (a b : Nat) : Request (serveWeightsSet a b)
  | accountSnapshot : Request serveAccountSnapshot
  | accountRead (q : Nat) : Request (serveAccountRead q)
  | snapshotRelease : Request serveSnapshotRelease
  | accountClear (n : Nat) : Request (serveAccountClear n)
  | logRead (p n : Nat) : Request (serveLogRead p n)
  | logRetire (n : Nat) : Request (serveLogRetire n)
  | logStatus : Request serveLogStatus
  | alertMask (a b : Byte) : Request (serveAlertMask a b)
  | alertConfig (p d : Nat) : Request (serveAlertConfig p d)
  | alertPoll : Request serveAlertPoll
  | alertDone (n : Nat) : Request (serveAlertDone n)
  | clockStatus : Request serveClockStatus
  | clockClear : Request serveClockClear
  | refused (st : Status) : Request (fun s => answer s st)

/-- A rule that gives, in one state, what the rule of a request gives there. -/
def ServedAs (f : State → Served) (s : State) : Prop := ∃ serve, Request serve ∧ f s = serve s

theorem Request.servedAs {f : State → Served} (h : Request f) (s : State) : ServedAs f s := ⟨f, h, rfl⟩

theorem servedAs_refused (st : Status) (s : State) : ServedAs (fun s => answer s st) s := (Request.refused st).servedAs s

/-- R187, check 2: a payload of the wrong length is refused. -/
theorem ofLength_servedAs {f : State → Served} (n : Nat) (p : List Byte) (s : State) (h : Request f) :
    ServedAs (ofLength n p f) s := by
  unfold ServedAs ofLength
  split
  · exact h.servedAs s
  · exact servedAs_refused _ s

theorem stageFrame_servedAs (p : List Byte) (s : State) : ServedAs (stageFrame p) s := by
  unfold ServedAs stageFrame
  split
  · exact servedAs_refused _ s
  · split
    · exact (Request.boardStage _ _).servedAs s
    · exact servedAs_refused _ s

theorem socketSetFrame_servedAs (p : List Byte) (s : State) : ServedAs (socketSetFrame p) s := by
  unfold ServedAs socketSetFrame
  split
  · split
    · exact (Request.socketSetMask _ _).servedAs s
    · exact (Request.socketSetUnmask _ _).servedAs s
    · exact (Request.socketSetReinstate _ _).servedAs s
    · exact (Request.socketSetOther _ _).servedAs s
  · exact servedAs_refused _ s

theorem socketStatusFrame_servedAs (p : List Byte) (s : State) : ServedAs (socketStatusFrame p) s := by
  unfold ServedAs socketStatusFrame
  split
  · exact (Request.socketStatus _ _).servedAs s
  · exact servedAs_refused _ s

theorem patternLoadFrame_servedAs (p : List Byte) (s : State) : ServedAs (patternLoadFrame p) s := by
  unfold ServedAs patternLoadFrame
  split
  · exact servedAs_refused _ s
  · exact (Request.patternLoad _ _).servedAs s

theorem patternDefineFrame_servedAs (p : List Byte) (s : State) : ServedAs (patternDefineFrame p) s := by
  unfold ServedAs patternDefineFrame
  split
  · split
    · split
      · exact servedAs_refused _ s
      · exact (Request.patternDefineWrite _ _ _ _ _ _).servedAs s
    · exact ofLength_servedAs _ _ _ (.patternDefineClear _)
    · exact ofLength_servedAs _ _ _ (.patternDefineQuery _)
    · exact servedAs_refused _ s
  · exact servedAs_refused _ s

theorem burstConfigFrame_servedAs (p : List Byte) (s : State) : ServedAs (burstConfigFrame p) s := by
  unfold ServedAs burstConfigFrame
  split
  · split
    · exact ofLength_servedAs _ _ _ (.burstConfigSet _ _ _ _ _)
    · exact ofLength_servedAs _ _ _ (.burstConfigQuery _)
    · exact (Request.burstConfigOther _).servedAs s
  · exact servedAs_refused _ s

theorem zoneTuneFrame_servedAs (p : List Byte) (s : State) : ServedAs (zoneTuneFrame p) s := by
  unfold ServedAs zoneTuneFrame
  split
  · exact servedAs_refused _ s
  · exact (Request.zoneTune _).servedAs s

theorem accelFrame_servedAs (p : List Byte) (s : State) : ServedAs (accelFrame p) s := by
  unfold ServedAs accelFrame
  split
  · exact servedAs_refused _ s
  · exact (Request.accelTableLoad _).servedAs s

/-- R187, R190: a frame is served by the rule of a request, or refused. -/
theorem serveFrame_servedAs (kind : Byte) (p : List Byte) (s : State) : ServedAs (serveFrame kind p) s := by
  unfold serveFrame
  split
  · exact ofLength_servedAs _ _ _ .identify
  · exact ofLength_servedAs _ _ _ .zoneReset
  · exact ofLength_servedAs _ _ _ (.zoneSetpoint _ _)
  · exact zoneTuneFrame_servedAs p s
  · exact ofLength_servedAs _ _ _ .zoneCool
  · exact ofLength_servedAs _ _ _ .zoneAbort
  · exact ofLength_servedAs _ _ _ .zoneStatus
  · exact ofLength_servedAs _ _ _ (.boardPowerUp _)
  · exact ofLength_servedAs _ _ _ (.boardPowerDown _)
  · exact stageFrame_servedAs p s
  · exact ofLength_servedAs _ _ _ (.boardApply _)
  · exact ofLength_servedAs _ _ _ (.boardStatus _)
  · exact socketSetFrame_servedAs p s
  · exact socketStatusFrame_servedAs p s
  · exact patternLoadFrame_servedAs p s
  · exact patternDefineFrame_servedAs p s
  · exact burstConfigFrame_servedAs p s
  · exact ofLength_servedAs _ _ _ (.exerciseStart _)
  · exact ofLength_servedAs _ _ _ (.exerciseStop _)
  · exact ofLength_servedAs _ _ _ (.burstTrigger _)
  · exact accelFrame_servedAs p s
  · exact ofLength_servedAs _ _ _ (.weightsSet _ _)
  · exact ofLength_servedAs _ _ _ .accountSnapshot
  · exact ofLength_servedAs _ _ _ (.accountRead _)
  · exact ofLength_servedAs _ _ _ .snapshotRelease
  · exact ofLength_servedAs _ _ _ (.accountClear _)
  · exact ofLength_servedAs _ _ _ (.logRead _ _)
  · exact ofLength_servedAs _ _ _ (.logRetire _)
  · exact ofLength_servedAs _ _ _ .logStatus
  · exact ofLength_servedAs _ _ _ (.alertMask _ _)
  · exact ofLength_servedAs _ _ _ (.alertConfig _ _)
  · exact ofLength_servedAs _ _ _ .alertPoll
  · exact ofLength_servedAs _ _ _ (.alertDone _)
  · exact ofLength_servedAs _ _ _ .clockStatus
  · exact ofLength_servedAs _ _ _ .clockClear
  · exact servedAs_refused _ s

/-- R186, R187: what the taking of a request can do, by the phase, the reply owed and the rule. -/
theorem takeRequest_cases (kind : Byte) (serve : State → Served) (s : State) :
    (s.part.phase ≠ .running ∧ takeRequest kind serve s = s)
      ∨ (s.part.phase = .running ∧ s.link.owed = true ∧ takeRequest kind serve s = received s)
      ∨ (Ready s ∧ ∃ l, takeRequest kind serve s = { (serve (received s)).state with link := l }) := by
  by_cases h : s.part.phase = .running
  · cases ho : s.link.owed with
    | true => exact Or.inr (Or.inl ⟨h, rfl, takeRequest_owed kind serve s h ho⟩)
    | false => exact Or.inr (Or.inr ⟨⟨h, ho⟩, _, takeRequest_ready kind serve s ⟨h, ho⟩⟩)
  · exact Or.inl ⟨h, takeRequest_off kind serve s h⟩

/-- A good frame is taken as a request of the catalogue is. -/
theorem takeFrame_request (kind : Byte) (p : List Byte) (s : State) :
    ∃ serve, Request serve ∧ takeFrame kind p s = takeRequest kind serve s := by
  obtain ⟨serve, hr, e⟩ := serveFrame_servedAs kind p (received s)
  refine ⟨serve, hr, ?_⟩
  unfold received at e
  simp only [takeFrame, takeRequest, e]

/-- R187, R190: a command that has a frame takes a request of the catalogue, or is a frame discarded. -/
theorem exec_request (i : Instr) (f : Frame) (h : requestFrame i = some f) (s : State) :
    exec i s = .next (whenRunning discardFrame s)
      ∨ ∃ kind serve, Request serve ∧ exec i s = .next (takeRequest kind serve s) := by
  have served {kind serve} (hr : Request serve) (e : exec i s = .next (takeRequest kind serve s)) :
      exec i s = .next (whenRunning discardFrame s)
        ∨ ∃ kind serve, Request serve ∧ exec i s = .next (takeRequest kind serve s) := Or.inr ⟨kind, serve, hr, e⟩
  cases i
  case identify => exact served .identify rfl
  case zoneReset => exact served .zoneReset rfl
  case zoneSetpoint => exact served (.zoneSetpoint _ _) rfl
  case zoneTune => exact served (.zoneTune _) rfl
  case zoneCool => exact served .zoneCool rfl
  case zoneAbort => exact served .zoneAbort rfl
  case zoneStatus => exact served .zoneStatus rfl
  case boardPowerUp => exact served (.boardPowerUp _) rfl
  case boardPowerDown => exact served (.boardPowerDown _) rfl
  case boardStage => exact served (.boardStage _ _) rfl
  case boardApply => exact served (.boardApply _) rfl
  case boardStatus => exact served (.boardStatus _) rfl
  case socketSetMask => exact served (.socketSetMask _ _) rfl
  case socketSetUnmask => exact served (.socketSetUnmask _ _) rfl
  case socketSetReinstate => exact served (.socketSetReinstate _ _) rfl
  case socketStatus => exact served (.socketStatus _ _) rfl
  case patternLoad => exact served (.patternLoad _ _) rfl
  case patternDefineWrite => exact served (.patternDefineWrite _ _ _ _ _ _) rfl
  case patternDefineClear => exact served (.patternDefineClear _) rfl
  case patternDefineQuery => exact served (.patternDefineQuery _) rfl
  case burstConfigSet => exact served (.burstConfigSet _ _ _ _ _) rfl
  case burstConfigQuery => exact served (.burstConfigQuery _) rfl
  case exerciseStart => exact served (.exerciseStart _) rfl
  case exerciseStop => exact served (.exerciseStop _) rfl
  case burstTrigger => exact served (.burstTrigger _) rfl
  case accelTableLoad => exact served (.accelTableLoad _) rfl
  case weightsSet => exact served (.weightsSet _ _) rfl
  case accountSnapshot => exact served .accountSnapshot rfl
  case accountRead => exact served (.accountRead _) rfl
  case snapshotRelease => exact served .snapshotRelease rfl
  case accountClear => exact served (.accountClear _) rfl
  case logRead => exact served (.logRead _ _) rfl
  case logRetire => exact served (.logRetire _) rfl
  case logStatus => exact served .logStatus rfl
  case alertMask => exact served (.alertMask _ _) rfl
  case alertConfig => exact served (.alertConfig _ _) rfl
  case alertPoll => exact served .alertPoll rfl
  case alertDone => exact served (.alertDone _) rfl
  case clockStatus => exact served .clockStatus rfl
  case clockClear => exact served .clockClear rfl
  case unknownKindRequest kind payload =>
    obtain ⟨serve, hr, e⟩ := takeFrame_request kind payload s
    by_cases ht : topBit kind = true
    · exact Or.inl (by simp [exec, execUnknownKindRequest, ht])
    · exact served (kind := kind) hr (by simp [exec, execUnknownKindRequest, ht, e])
  all_goals cases h

/-! ## Loops over the slots -/

/-- What each turn gives its own slot, and no other turn takes away, every slot has after the work on all four. -/
theorem forSlots_all (Q : Slot → State → Prop) (f : Slot → State → State) (h : ∀ k s, Q k (f k s))
    (keep : ∀ j k s, j ≠ k → Q k s → Q k (f j s)) (s : State) (k : Slot) : Q k (forSlots f s) := by
  cases k
  · exact keep .D _ _ (by decide) (keep .C _ _ (by decide) (keep .B _ _ (by decide) (h .A _)))
  · exact keep .D _ _ (by decide) (keep .C _ _ (by decide) (h .B _))
  · exact keep .D _ _ (by decide) (h .C _)
  · exact h .D _

/-- What the work on all four slots does to one of them: what its own turn does, from a state that shows the slot as
before, and with what every turn keeps. -/
theorem forSlots_at {α : Type} (view : Slot → State → α) (inv : State → Prop) (f : Slot → State → State)
    (hview : ∀ j k s, j ≠ k → view k (f j s) = view k s) (hinv : ∀ k s, inv s → inv (f k s)) (s : State) (hs : inv s)
    (k : Slot) : ∃ u, inv u ∧ view k u = view k s ∧ view k (forSlots f s) = view k (f k u) := by
  have hA := hinv .A s hs
  have hB := hinv .B _ hA
  have hC := hinv .C _ hB
  have keep {j u} (h : j ≠ k) : view k (f j u) = view k u := hview j k u h
  unfold forSlots Slot.all
  simp only [List.foldl]
  cases k
  · exact ⟨s, hs, rfl, by rw [keep (by decide), keep (by decide), keep (by decide)]⟩
  · exact ⟨_, hA, keep (by decide), by rw [keep (by decide), keep (by decide)]⟩
  · exact ⟨_, hB, by rw [keep (by decide), keep (by decide)], keep (by decide)⟩
  · exact ⟨_, hC, by rw [keep (by decide), keep (by decide), keep (by decide)], rfl⟩

end Sys2Proof.Machine
end


section
/-!
PROOFS. The operations of a burst and of the scanner that reach the slot controller only by failure reports, said once
for each, so that what every report keeps they keep.
-/

namespace Sys2Proof.Machine

open Safety

/-! ## Steps made of failure reports -/

/-- `t` is reached from `s` by failure reports of sockets of slot `k`, by alert sources raised and by changes of the
slot's scanner, channel, compare unit and throttle state. -/
inductive Reporting (k : Slot) (s : State) : State → Prop
  | refl : Reporting k s s
  | report (i : Socket) (c : FailCause) (d : List Byte) {t : State} (h : Reporting k s t) :
      Reporting k s (reportFailure k i c d t)
  | scanner (x : Scanner) {t : State} (h : Reporting k s t) : Reporting k s (t.setScanner k x)
  | channel (x : Channel) {t : State} (h : Reporting k s t) : Reporting k s (t.setChannel k x)
  | compare (x : Compare) {t : State} (h : Reporting k s t) : Reporting k s (t.setCompare k x)
  | throttle (x : Throttle) {t : State} (h : Reporting k s t) : Reporting k s (t.setThrottle k x)
  | raise (x : Source) {t : State} (h : Reporting k s t) : Reporting k s (raiseSource x t)

theorem Reporting.trans {k : Slot} {s t u : State} (h : Reporting k s t) (g : Reporting k t u) : Reporting k s u := by
  induction g with
  | refl => exact h
  | report i c d _ ih => exact ih.report i c d
  | scanner x _ ih => exact ih.scanner x
  | channel x _ ih => exact ih.channel x
  | compare x _ ih => exact ih.compare x
  | throttle x _ ih => exact ih.throttle x
  | raise x _ ih => exact ih.raise x

theorem Reporting.slotFrame {k : Slot} {s t : State} (h : Reporting k s t) : SlotFrame k s t := by
  induction h with
  | refl => exact SlotFrame.refl k s
  | report i c d _ ih => exact ih.trans (reportFailure_slotFrame _ _ _ _ _)
  | scanner x _ ih => exact ih.trans (State.setScanner_slotFrame _ _ _)
  | channel x _ ih => exact ih.trans (State.setChannel_slotFrame _ _ _)
  | compare x _ ih => exact ih.trans (State.setCompare_slotFrame _ _ _)
  | throttle x _ ih => exact ih.trans (State.setThrottle_slotFrame _ _ _)
  | raise x _ ih => exact ih.trans (raiseSource_slotFrame _ _ _)

/-- R139: what reports leave of the slot controller. -/
theorem Reporting.slotFields {k : Slot} {s t : State} (h : Reporting k s t) :
    (t.slot k).board = (s.slot k).board ∧ (t.slot k).active = (s.slot k).active
      ∧ (t.slot k).staged = (s.slot k).staged := by
  induction h with
  | refl => exact ⟨rfl, rfl, rfl⟩
  | _ => simpa

/-- R139, step 4: a report closes no switch. -/
theorem Reporting.socket_on {k : Slot} {s t : State} (h : Reporting k s t) (i : Socket)
    (hi : (t.socket k i).power = .on) : (s.socket k i).power = .on := by
  induction h with
  | refl => exact hi
  | report n c d _ ih =>
    rw [reportFailure_socket] at hi
    split at hi
    · exact absurd hi (by simp)
    · exact ih hi
  | scanner _ _ ih | channel _ _ ih | compare _ _ ih | throttle _ _ ih | raise _ _ ih => exact ih (by simpa using hi)

/-- A loop over sockets whose turns only report. -/
theorem forSockets_reporting {k : Slot} (f : Socket → State → State) (h : ∀ i u, Reporting k u (f i u))
    (l : List Socket) (s : State) : Reporting k s (forSockets l f s) :=
  forSockets_invariant (Reporting k s) f (fun i u hu => hu.trans (h i u)) l s .refl

theorem judgeSocket_reporting (k : Slot) (p : ProfileRecord) (i : Socket) (s : State) :
    Reporting k s (judgeSocket k p i s) := by
  obtain e | ⟨c, e | ⟨d, e⟩⟩ := judgeSocket_cases k p i s <;> rw [e]
  · exact .refl
  · exact .compare c .refl
  · exact .report i _ d (.compare c .refl)

theorem profileVerdict_reporting (k : Slot) (p : ProfileRecord) (s : State) : Reporting k s (profileVerdict k p s) := by
  unfold profileVerdict
  split
  · exact .refl
  · exact forSockets_reporting _ (judgeSocket_reporting k p) _ s

theorem finishClosing_reporting (k : Slot) (s : State) : Reporting k s (finishClosing k s) := by
  obtain e | ⟨p, c, _, e⟩ := finishClosing_cases k s <;> rw [e]
  · exact .refl
  · exact (Reporting.compare c .refl).trans (profileVerdict_reporting _ _ _)

theorem deliver_reporting (k : Slot) (n : Nat) (f : ProfileRecord → ProfileRecord) (s : State) :
    Reporting k s (deliver k n f s) :=
  (Reporting.compare _ .refl).trans (finishClosing_reporting _ _)

theorem completeRecord_reporting (k : Slot) (n : Nat) (m : Table 32 Bool) (s : State) :
    Reporting k s (completeRecord k n m s) := by
  obtain e | ⟨c, e⟩ | ⟨c, d, e⟩ := completeRecord_cases k n m s <;> rw [e]
  · exact .refl
  · exact .compare c .refl
  · exact (Reporting.compare d (.compare c .refl)).trans (finishClosing_reporting _ _)

theorem captureIntoList_reporting (k : Slot) (p : Fin 8) (n : Nat) (s : State) :
    Reporting k s (captureIntoList k p n s) := by
  unfold captureIntoList
  exact captureLoss_keeps (Reporting k s) k (fun n f u h => h.trans (deliver_reporting k n f u)) _ _
    (.scanner _ .refl)

theorem requestCapture_reporting (k : Slot) (p : Fin 8) (n : Nat) (s : State) :
    Reporting k s (requestCapture k p n s) := by
  unfold requestCapture
  split
  · split
    · exact (Reporting.scanner _ .refl).trans (deliver_reporting _ _ _ _)
    · exact captureIntoList_reporting k p n s
  · exact captureIntoList_reporting k p n s

theorem driveVector_reporting (k : Slot) (r : PatternRecord) (n q : Nat) (s : State) :
    Reporting k s (driveVector k r n q s) := by
  unfold driveVector
  dsimp only
  split
  · exact (Reporting.channel _ .refl).trans (requestCapture_reporting _ _ _ _)
  · exact .channel _ .refl

theorem startPass_reporting (k : Slot) (r : PatternRecord) (n : Nat) (s : State) :
    Reporting k s (startPass k r n s) :=
  (Reporting.channel _ .refl).trans (driveVector_reporting _ _ _ _ _)

theorem startBurst_reporting (k : Slot) (s : State) : Reporting k s (startBurst k s) := by
  unfold startBurst
  dsimp only
  split
  · exact .refl
  · exact (Reporting.compare _ (.channel _ .refl)).trans (startPass_reporting _ _ _ _)

theorem burstPoint_reporting (k : Slot) (s : State) : Reporting k s (burstPoint k s) := by
  unfold burstPoint
  dsimp only
  split
  · split
    · exact .channel _ (.channel _ .refl)
    · exact (Reporting.channel _ .refl).trans (startBurst_reporting _ _)
  · exact .channel _ .refl

theorem functionalVerdict_reporting (k : Slot) (m : Table 32 Bool) (n : Nat) (p : Fin 32) (i : Socket) (s : State) :
    Reporting k s (functionalVerdict k m n p i s) := by
  unfold functionalVerdict
  dsimp only
  split
  · exact .report _ _ _ .refl
  · exact .refl

theorem burstVerdicts_reporting (k : Slot) (r : PatternRecord) (b : BurstConfig) (s : State) :
    Reporting k s (burstVerdicts k r b s) :=
  .compare _ ((forSockets_reporting _ (functionalVerdict_reporting k _ _ _) _ s).trans
    (completeRecord_reporting _ _ _ _))

theorem vectorBoundary_reporting (k : Slot) (s : State) : Reporting k s (vectorBoundary k s) := by
  unfold vectorBoundary
  dsimp only
  split
  · split
    · split
      · exact startPass_reporting _ _ _ _
      · exact .refl
    · exact driveVector_reporting _ _ _ _ _
  · exact .refl

theorem sampleInstant_reporting (k : Slot) (g : Fin 4) (b : Byte) (s : State) :
    Reporting k s (sampleInstant k g b s) := by
  unfold sampleInstant
  dsimp only
  split
  · exact .compare _ (.channel _ .refl)
  · exact .refl

theorem gapExpired_reporting (k : Slot) (s : State) : Reporting k s (gapExpired k s) := by
  unfold gapExpired
  dsimp only
  split
  · exact (Reporting.channel _ .refl).trans (burstPoint_reporting _ _)
  · exact .refl

/-! ## The scanner -/

theorem chooseNext_reporting (k : Slot) (s : State) : Reporting k s (chooseNext k s) := by
  unfold chooseNext beginConversion
  obtain e | ⟨c, e⟩ := beginSet_cases k s <;> rw [e]
  · exact .scanner _ .refl
  · exact .scanner _ (.scanner c .refl)

theorem startScanner_reporting (k : Slot) (s : State) : Reporting k s (startScanner k s) :=
  (Reporting.scanner _ (.scanner _ .refl)).trans (chooseNext_reporting _ _)

theorem advanceRound_reporting (k : Slot) (s : State) : Reporting k s (advanceRound k s) := by
  unfold advanceRound beginRound
  dsimp only
  split
  · exact .scanner _ .refl
  · obtain e | ⟨t, e⟩ := roundEndSignal_cases k s <;> rw [e]
    · exact .scanner _ .refl
    · exact .scanner _ (.throttle t .refl)

theorem captureResult_reporting (k : Slot) (t : CaptureSet) (n : Nat) (v : Option Int) (s : State) :
    Reporting k s (captureResult k t n v s) := by
  unfold captureResult
  split
  · split
    · exact .refl
    · exact deliver_reporting _ _ _ _
  · exact .refl

theorem advanceSet_reporting (k : Slot) (t : CaptureSet) (s : State) : Reporting k s (advanceSet k t s) := by
  unfold advanceSet
  dsimp only
  split
  · exact .scanner _ .refl
  · split
    · exact .scanner _ .refl
    · exact (Reporting.scanner _ .refl).trans (deliver_reporting _ _ _ _)

theorem riseHoldExpired_reporting (k : Slot) (s : State) : Reporting k s (riseHoldExpired k s) := by
  unfold riseHoldExpired
  dsimp only
  split
  · exact .throttle _ .refl
  · exact .refl

theorem fallExpired_reporting (k : Slot) (s : State) : Reporting k s (fallExpired k s) := by
  unfold fallExpired
  dsimp only
  split
  · exact .throttle _ .refl
  · exact .refl

end Sys2Proof.Machine
end


section
/-!
PROOFS. `SocketsSafe` (R17, R20, R28, R29, R123, R124) in two parts, and the steps of one slot that close no switch of an
unpowered board.
-/

namespace Sys2Proof.Machine

open Safety

/-! ## The property in two parts -/

/-- No board is powered or draining. -/
def AllDown (s : State) : Prop := ∀ k, (s.slot k).board.live = false

/-- A switch is closed only on a board that is RAMPING or POWERED. -/
def SwitchesSafe (s : State) : Prop :=
  ∀ k i, (s.socket k i).power = .on → (s.slot k).board.checked = true

/-- Boards may be powered: the part runs and the zone is not in SAFE. -/
def MayPower (s : State) : Prop := s.part.phase = .running ∧ s.zone.state ≠ .safe

theorem socketsSafe_iff (s : State) : SocketsSafe s ↔ (¬ MayPower s → AllDown s) ∧ SwitchesSafe s := by
  simp only [SocketsSafe, MayPower, AllDown, SwitchesSafe, Slot.mem_all, true_imp_iff, not_and_or, not_not, or_imp,
    and_assoc]

theorem BoardState.live_of_checked {b : BoardState} (h : b.checked = true) : b.live = true := by
  cases b <;> simp_all [BoardState.checked, BoardState.live]

theorem BoardState.not_checked_of_not_live {b : BoardState} (h : b.live = false) : b.checked = false := by
  cases b <;> simp_all [BoardState.checked, BoardState.live]

/-- On a board that is neither RAMPING nor POWERED no switch is closed. -/
theorem SwitchesSafe.not_on {s : State} (h : SwitchesSafe s) {k : Slot} (hb : (s.slot k).board.checked = false)
    (i : Socket) : (s.socket k i).power ≠ .on := by
  intro hi
  rw [h k i hi] at hb
  exact absurd hb (by decide)

/-- A state whose boards are the same and that has no other switch closed. -/
theorem socketsSafe_of_same {s t : State} (hs : SocketsSafe s) (hm : MayPower s → MayPower t)
    (hb : ∀ k, (t.slot k).board = (s.slot k).board)
    (hi : ∀ k i, (t.socket k i).power = .on → (s.socket k i).power = .on) : SocketsSafe t := by
  rw [socketsSafe_iff] at hs ⊢
  obtain ⟨hd, hw⟩ := hs
  refine ⟨fun h k => ?_, fun k i h => ?_⟩
  · rw [hb k]; exact hd (fun g => h (hm g)) k
  · rw [hb k]; exact hw k i (hi k i h)

/-- A change that leaves the slot controllers. -/
theorem socketsSafe_of_slots {s t : State} (hs : SocketsSafe s) (h : t.slots = s.slots) (hm : MayPower s → MayPower t) :
    SocketsSafe t := by
  have e : ∀ k, t.slot k = s.slot k := fun k => by unfold State.slot; rw [h]
  exact socketsSafe_of_same hs hm (fun k => by rw [e k]) (fun k i => by unfold State.socket; rw [e k]; exact id)

/-! ## Steps of one slot -/

end Sys2Proof.Machine

namespace Sys2Proof.Safety

open Machine

theorem SlotFrame.mayPower {k : Slot} {s t : State} (h : SlotFrame k s t) : MayPower t ↔ MayPower s := by
  obtain ⟨hp, _, _, _, _, _, _, hz, _⟩ := h
  have hz' : t.zone.state = s.zone.state := by rw [hz]
  rw [MayPower, MayPower, hp, hz']

theorem SlotFrame.slot_ne {k j : Slot} {s t : State} (h : SlotFrame k s t) (hj : j ≠ k) : t.slot j = s.slot j := by
  obtain ⟨_, _, _, _, _, _, _, _, _, _, ho⟩ := h
  exact (ho j hj).1

theorem SlotFrame.socket_ne {k j : Slot} {s t : State} (h : SlotFrame k s t) (hj : j ≠ k) (i : Socket) :
    t.socket j i = s.socket j i := by
  unfold State.socket; rw [h.slot_ne hj]

end Sys2Proof.Safety

namespace Sys2Proof.Machine

open Safety

/-- A step of one slot that leaves its switches safe. -/
theorem SwitchesSafe.of_slotFrame {k : Slot} {s t : State} (hs : SwitchesSafe s) (hf : SlotFrame k s t)
    (hi : ∀ i, (t.socket k i).power = .on → (t.slot k).board.checked = true) : SwitchesSafe t := by
  intro j i h
  by_cases hj : j = k
  · subst hj; exact hi i h
  · rw [hf.slot_ne hj]
    rw [hf.socket_ne hj] at h
    exact hs j i h

/-- A step of one slot that powers its board only where boards may be powered, and leaves its switches safe. -/
theorem socketsSafe_of_slotFrame {k : Slot} {s t : State} (hs : SocketsSafe s) (hf : SlotFrame k s t)
    (hl : (t.slot k).board.live = true → (s.slot k).board.live = true ∨ MayPower s)
    (hi : ∀ i, (t.socket k i).power = .on → (t.slot k).board.checked = true) : SocketsSafe t := by
  rw [socketsSafe_iff] at hs ⊢
  obtain ⟨hd, hw⟩ := hs
  refine ⟨fun h j => ?_, hw.of_slotFrame hf hi⟩
  rw [hf.mayPower] at h
  by_cases hj : j = k
  · subst hj
    cases hb : (t.slot j).board.live with
    | false => rfl
    | true =>
      obtain g | g := hl hb
      · rw [hd h j] at g; exact g.symm
      · exact absurd g h
  · rw [hf.slot_ne hj]; exact hd h j

/-! ## Steps that close no switch of an unpowered board -/

/-- A step of slot `k` that keeps its board state, and closes a switch only where the board is RAMPING or POWERED. -/
def SwitchesKept (k : Slot) (s t : State) : Prop :=
  SlotFrame k s t ∧ (t.slot k).board = (s.slot k).board
    ∧ ∀ i, (t.socket k i).power = .on → (s.socket k i).power = .on ∨ (s.slot k).board.checked = true

theorem SwitchesKept.refl (k : Slot) (s : State) : SwitchesKept k s s :=
  ⟨SlotFrame.refl k s, rfl, fun _ h => Or.inl h⟩

theorem SwitchesKept.trans {k : Slot} {s t u : State} (h : SwitchesKept k s t) (g : SwitchesKept k t u) :
    SwitchesKept k s u := by
  obtain ⟨hf, hb, hi⟩ := h
  obtain ⟨gf, gb, gi⟩ := g
  refine ⟨hf.trans gf, gb.trans hb, fun i hu => ?_⟩
  obtain ht | ht := gi i hu
  · exact hi i ht
  · exact Or.inr (hb ▸ ht)

/-- On a RAMPING or POWERED board any switch may close. -/
theorem SwitchesKept.of_checked {k : Slot} {s t : State} (hf : SlotFrame k s t)
    (hb : (t.slot k).board = (s.slot k).board) (hc : (s.slot k).board.checked = true) : SwitchesKept k s t :=
  ⟨hf, hb, fun _ _ => Or.inr hc⟩

theorem SwitchesKept.of_on {k : Slot} {s t : State} (hf : SlotFrame k s t) (hb : (t.slot k).board = (s.slot k).board)
    (hi : ∀ i, (t.socket k i).power = .on → (s.socket k i).power = .on) : SwitchesKept k s t :=
  ⟨hf, hb, fun i h => Or.inl (hi i h)⟩

theorem Reporting.switchesKept {k : Slot} {s t : State} (h : Reporting k s t) : SwitchesKept k s t :=
  .of_on h.slotFrame h.slotFields.1 h.socket_on

theorem SwitchesKept.on_checked {k : Slot} {s t : State} (h : SwitchesKept k s t) (hs : SwitchesSafe s) (i : Socket)
    (hi : (t.socket k i).power = .on) : (t.slot k).board.checked = true := by
  obtain ⟨_, hb, ho⟩ := h
  rw [hb]
  exact (ho i hi).elim (hs k i) id

theorem SwitchesKept.socketsSafe {k : Slot} {s t : State} (h : SwitchesKept k s t) (hs : SocketsSafe s) :
    SocketsSafe t :=
  socketsSafe_of_slotFrame hs h.1 (fun hl => Or.inl (h.2.1 ▸ hl))
    (h.on_checked ((socketsSafe_iff s).mp hs).2)

theorem forSockets_switchesKept {k : Slot} (f : Socket → State → State) (h : ∀ i u, SwitchesKept k u (f i u))
    (l : List Socket) (s : State) : SwitchesKept k s (forSockets l f s) :=
  forSockets_invariant (SwitchesKept k s) f (fun i u hu => hu.trans (h i u)) l s (.refl k s)

/-- A slot controller replaced with its board state and sockets kept. -/
theorem setSlot_switchesKept (k : Slot) (s : State) (c : SlotCtl) (hb : c.board = (s.slot k).board)
    (hs : c.sockets = (s.slot k).sockets) : SwitchesKept k s (s.setSlot k c) :=
  .of_on (State.setSlot_slotFrame s k c) (by simpa using hb) (fun i h => by simpa [hs] using h)

/-- A socket takes a power state other than ON. -/
theorem setPower_switchesKept (k : Slot) (i : Socket) (p : PowerState) (t : Timer) (s : State) (hp : p ≠ .on) :
    SwitchesKept k s (setPower k i p t s) := by
  refine .of_on (setPower_slotFrame k i p t s) (by simp) (fun n h => ?_)
  rw [setPower_socket] at h
  split at h
  · exact absurd h hp
  · exact h

/-- A socket's record changes with its power state kept. -/
theorem setSocket_switchesKept (k : Slot) (i : Socket) (p : SocketPower) (s : State)
    (hp : p.power = (s.socket k i).power) : SwitchesKept k s (s.setSocket k i p) := by
  refine .of_on (State.setSocket_slotFrame s k i p) (by simp) (fun n h => ?_)
  rw [State.setSocket_socket] at h
  split at h
  · next e => rw [e.2]; exact hp ▸ h
  · exact h

theorem setRecord_switchesKept (k : Slot) (i : Socket) (r : AcctRecord) (s : State) :
    SwitchesKept k s (s.setRecord k i r) :=
  .of_on (State.setRecord_slotFrame s k i r) (by simp) (fun n h => by simpa using h)

theorem appendEntry_switchesKept (k : Slot) (a : Option Slot) (i : Option Socket) (c : LogCause) (d : List Byte)
    (s : State) : SwitchesKept k s (appendEntry a i c d s) :=
  .of_on (appendEntry_slotFrame k a i c d s) (by simp) (fun n h => by simpa using h)

theorem dropNotice_switchesKept (k : Slot) (i : Socket) (s : State) : SwitchesKept k s (dropNotice k i s) := by
  unfold dropNotice
  split
  · exact setPower_switchesKept _ _ _ _ _ (by simp)
  · exact setPower_switchesKept _ _ _ _ _ (by simp)
  all_goals exact .refl k s

theorem reportFailure_switchesKept (k : Slot) (i : Socket) (c : FailCause) (d : List Byte) (s : State) :
    SwitchesKept k s (reportFailure k i c d s) :=
  (Reporting.report i c d .refl).switchesKept

/-- R33: a trip closes no switch. -/
theorem tripSocket_switchesKept (k : Slot) (i : Socket) (c : LogCause) (d : List Byte) (s : State) :
    SwitchesKept k s (tripSocket k i c d s) := by
  by_cases h : (s.socket k i).power = .on
  · obtain ⟨q, s2, s4, _, h2, h4, h5⟩ := tripSocket_of_on k i c d s h
    have k2 : SwitchesKept k s s2 := by
      rw [h2]
      exact (setSocket_switchesKept _ _ _ _ (by simp)).trans (setPower_switchesKept _ _ _ _ _ (by cases q <;> simp))
    have k4 : SwitchesKept k s s4 := by
      rw [h4]
      exact k2.trans ((setRecord_switchesKept _ _ _ _).trans (appendEntry_switchesKept _ _ _ _ _ _))
    have k5 : SwitchesKept k s (s4.setSlot k { s4.slot k with socketTrip := true }) :=
      k4.trans (setSlot_switchesKept _ _ _ (by rfl) (by rfl))
    rw [h5]
    cases q
    · exact k5
    · exact k5.trans (reportFailure_switchesKept _ _ _ _ _)
  · rw [tripSocket_of_not_on k i c d s h]
    exact .refl k s

theorem races_switchesKept (k : Slot) (n : Nat) (s : State) : SwitchesKept k s { s with races := n } :=
  .of_on (races_slotFrame k n s) rfl (fun _ h => h)

theorem tripEither_switchesKept (k : Slot) (i : Socket) (a b : Option (LogCause × List Byte)) (s : State) :
    SwitchesKept k s (tripEither k i a b s) := by
  obtain ⟨_, _, e⟩ | ⟨c, d, n, _, _, e⟩ := tripEither_cases k i a b s <;> rw [e]
  · exact .refl k s
  · exact (races_switchesKept _ _ _).trans (tripSocket_switchesKept _ _ _ _ _)

/-- R31: a socket of a RAMPING or POWERED board may go ON. -/
theorem switchOn_switchesKept (k : Slot) (i : Socket) (s : State) (hb : (s.slot k).board.checked = true) :
    SwitchesKept k s (switchOn k i s) :=
  .of_checked (switchOn_slotFrame k i s) (by simp) hb

/-! ## Applies -/

theorem lowerLimit_switchesKept (k : Slot) (n : Nat) (i : Socket) (s : State) :
    SwitchesKept k s (lowerLimit k n i s) := by
  obtain ⟨_, e⟩ | ⟨_, s1, h1, ⟨_, e⟩ | ⟨_, e⟩⟩ := lowerLimit_cases k n i s <;> rw [e]
  · exact .refl k s
  · rw [h1]; exact setSocket_switchesKept _ _ _ _ (by rfl)
  · rw [h1]
    exact (setSocket_switchesKept _ _ _ _ (by rfl)).trans
      ((setPower_switchesKept _ _ _ _ _ (by simp)).trans (reportFailure_switchesKept _ _ _ _ _))

theorem dropFailed_switchesKept (k : Slot) (i : Socket) (s : State) : SwitchesKept k s (dropFailed k i s) := by
  obtain e | e := dropFailed_cases k i s <;> rw [e]
  · exact .refl k s
  · exact dropNotice_switchesKept k i s

theorem copyStaged_switchesKept (k : Slot) (s : State) : SwitchesKept k s (copyStaged k s) :=
  setSlot_switchesKept _ _ _ (by rfl) (by rfl)

theorem applyLimit_switchesKept (k : Slot) (n : Nat) (s : State) : SwitchesKept k s (applyLimit k n s) := by
  unfold applyLimit
  dsimp only
  split
  · exact forSockets_switchesKept _ (lowerLimit_switchesKept k _) _ s
  · exact .refl k s

/-- R41: an apply switches sockets on only where the board is POWERED. -/
theorem applyPolicy_switchesKept (k : Slot) (p : FailPolicy) (s : State) : SwitchesKept k s (applyPolicy k p s) := by
  unfold applyPolicy
  split
  · split
    · next hb =>
      refine .of_checked (forSockets_slotFrame _ (switchOn_slotFrame k) _ s) (by simp) ?_
      rw [hb]; rfl
    · exact .refl k s
  · exact forSockets_switchesKept _ (dropFailed_switchesKept k) _ s
  · exact .refl k s

theorem takeApply_switchesKept (k : Slot) (s : State) : SwitchesKept k s (takeApply k s) :=
  (copyStaged_switchesKept k s).trans ((applyLimit_switchesKept _ _ _).trans (applyPolicy_switchesKept _ _ _))

/-! ## Bursts and channels -/

theorem discardBurst_switchesKept (k : Slot) (s : State) : SwitchesKept k s (discardBurst k s) :=
  .of_on (discardBurst_slotFrame k s) (by simp) (fun i h => by simpa using h)

theorem endDeferred_switchesKept (k : Slot) (cancel : Bool) (s : State) :
    SwitchesKept k s (endDeferred k cancel s) := by
  obtain ⟨_, e⟩ | ⟨_, _, e⟩ | ⟨_, _, e⟩ := endDeferred_cases k cancel s <;> rw [e]
  · exact .refl k s
  · exact setSlot_switchesKept _ _ _ (by rfl) (by rfl)
  · exact takeApply_switchesKept k s

theorem abandonBurst_switchesKept (k : Slot) (cancel : Bool) (s : State) :
    SwitchesKept k s (abandonBurst k cancel s) := by
  obtain ⟨_, e⟩ | ⟨_, e⟩ := abandonBurst_cases k cancel s <;> rw [e]
  · exact .refl k s
  · exact (discardBurst_switchesKept k s).trans (endDeferred_switchesKept _ _ _)

theorem stopChannel_switchesKept (k : Slot) (cancel : Bool) (s : State) :
    SwitchesKept k s (stopChannel k cancel s) :=
  (abandonBurst_switchesKept k cancel s).trans (Reporting.channel _ .refl).switchesKept

theorem afterBurst_switchesKept (k : Slot) (b : BurstConfig) (s : State) : SwitchesKept k s (afterBurst k b s) := by
  unfold afterBurst
  dsimp only
  split
  · exact ((Reporting.channel _ .refl).trans (burstPoint_reporting _ _)).switchesKept
  · exact (Reporting.channel _ .refl).switchesKept
  · exact (Reporting.channel _ .refl).switchesKept.trans
      ((setSlot_switchesKept _ _ _ (by rfl) (by rfl)).trans (Reporting.raise _ .refl).switchesKept)
  · exact (Reporting.channel _ .refl).switchesKept

theorem burstEnd_switchesKept (k : Slot) (s : State) : SwitchesKept k s (burstEnd k s) := by
  obtain e | ⟨p, b, _, _, _, e⟩ := burstEnd_cases k s <;> rw [e]
  · exact .refl k s
  · exact (burstVerdicts_reporting _ _ _ _).switchesKept.trans
      ((endDeferred_switchesKept _ _ _).trans (afterBurst_switchesKept _ _ _))

end Sys2Proof.Machine
end


section
/-!
PROOFS. That the steps of one slot which change its board state keep `SocketsSafe` (R17, R20, R28, R29, R123, R124).
-/

namespace Sys2Proof.Safety

open Machine

theorem HardOff.not_on {c : SlotCtl} (h : HardOff c) (i : Socket) : (c.sockets.get i).power ≠ .on := by
  obtain ⟨_, _, _, _, _, _, hi⟩ := h
  exact (hi i).1

end Sys2Proof.Safety

namespace Sys2Proof.Machine

open Safety

/-! ## Boards taken down -/

theorem takeDown_switchesSafe (k : Slot) (b : BoardState) (cancel : Bool) (s : State) (hs : SwitchesSafe s)
    (hc : b.checked = false) : SwitchesSafe (takeDown k b cancel s) := by
  obtain ⟨_, ho, _⟩ := takeDown_spec k b cancel s hc
  exact hs.of_slotFrame (takeDown_slotFrame k b cancel s) (fun i h => absurd h (ho.not_on i))

theorem takeDown_socketsSafe (k : Slot) (b : BoardState) (cancel : Bool) (s : State) (hs : SocketsSafe s)
    (hc : b.checked = false) (hb : b.live = true → (s.slot k).board.live = true) :
    SocketsSafe (takeDown k b cancel s) := by
  obtain ⟨he, ho, _⟩ := takeDown_spec k b cancel s hc
  exact socketsSafe_of_slotFrame hs (takeDown_slotFrame k b cancel s) (fun h => Or.inl (hb (he ▸ h)))
    (fun i h => absurd h (ho.not_on i))

theorem tripBoard_socketsSafe (k : Slot) (r : Rail) (c : TripCause) (s : State) (hs : SocketsSafe s) :
    SocketsSafe (tripBoard k r c s) := by
  cases hb : (s.slot k).board.checked with
  | false => rw [tripBoard_of_not k r c s hb]; exact hs
  | true =>
    obtain ⟨_, ho, _, _, _, _, _, _, hf⟩ := tripBoard_spec k r c s hb
    exact socketsSafe_of_slotFrame hs hf (fun _ => Or.inl (BoardState.live_of_checked hb))
      (fun i h => absurd h (ho.not_on i))

theorem lockOut_switchesSafe (cancel : Bool) (k : Slot) (s : State) (hs : SwitchesSafe s) :
    SwitchesSafe (lockOut cancel k s) := by
  obtain ⟨_, e⟩ | ⟨_, e⟩ := lockOut_cases cancel k s <;> rw [e]
  · exact takeDown_switchesSafe k .present cancel s hs rfl
  · exact hs

/-- R16, R17, R124: no board may be powered once its slot is locked out. -/
theorem lockOut_down (cancel : Bool) (k : Slot) (s : State) : ((lockOut cancel k s).slot k).board.live = false := by
  obtain ⟨_, e⟩ | ⟨h, e⟩ := lockOut_cases cancel k s <;> rw [e]
  · rw [(takeDown_spec k .present cancel s rfl).1]; rfl
  · exact h

/-! ## Ramps -/

theorem startRamp_socketsSafe (k : Slot) (s : State) (hs : SocketsSafe s) (hm : MayPower s) :
    SocketsSafe (startRamp k s) := by
  have hb : ((startRamp k s).slot k).board = .ramping := by simp [startRamp, startRail]
  exact socketsSafe_of_slotFrame hs (startRamp_slotFrame k s) (fun _ => Or.inr hm) (fun _ _ => by rw [hb]; rfl)

theorem startStep_switchesKept (k : Slot) (n : Nat) (s : State) (hb : (s.slot k).board.checked = true) :
    SwitchesKept k s (startStep k n s) :=
  .of_checked (startStep_slotFrame k n s) (by simp [startStep]) hb

theorem startRail_switchesKept (k : Slot) (r : Rail) (s : State) : SwitchesKept k s (startRail k r s) :=
  setSlot_switchesKept _ _ _ (by simp) (by simp)

theorem rampAdvance_switchesKept (k : Slot) (s : State) (hb : (s.slot k).board.checked = true) :
    SwitchesKept k s (rampAdvance k s) := by
  obtain e | ⟨m, _, _, _, e⟩ | ⟨m, _, _, _, _, e⟩ := rampAdvance_cases k s <;> rw [e]
  · exact .refl k s
  · exact (setSlot_switchesKept _ _ _ (by rfl) (by rfl)).trans (startRail_switchesKept _ _ _)
  · exact startStep_switchesKept k 0 s hb

theorem settleCheck_switchesKept (k : Slot) (r : Rail) (inside : Bool) (s : State)
    (hb : (s.slot k).board.checked = true) : SwitchesKept k s (settleCheck k r inside s) := by
  obtain ⟨_, e⟩ | ⟨_, e⟩ := settleCheck_cases k r inside s <;> rw [e]
  · exact .refl k s
  · exact (setSlot_switchesKept k s _ (by simp) (by simp)).trans (rampAdvance_switchesKept _ _ (by simpa using hb))

theorem checkRail_socketsSafe (k : Slot) (r : Rail) (v c : Nat) (s : State) (hs : SocketsSafe s)
    (hb : (s.slot k).board.checked = true) : SocketsSafe (checkRail k r v c s) := by
  unfold checkRail
  dsimp only
  have h1 := setSlot_switchesKept k s ((s.slot k).setRail r ((r.of (s.slot k)).count
    (decide ((s.slot k).railLimit r < c)) (insideWindow ((s.slot k).active.setpoint r) (s.slot k).active.window v)))
    (by simp) (by simp)
  split
  · obtain ⟨_, _, e⟩ | ⟨d, n, _, e⟩ := tripByCounts_cases k r _ _ _ <;> rw [e]
    · exact h1.socketsSafe hs
    · exact tripBoard_socketsSafe _ _ _ _ ((races_switchesKept k n _).socketsSafe (h1.socketsSafe hs))
  · exact (h1.trans (settleCheck_switchesKept _ _ _ _ (by simpa using hb))).socketsSafe hs

theorem dwellExpired_socketsSafe (k : Slot) (s : State) (hs : SocketsSafe s) : SocketsSafe (dwellExpired k s) := by
  unfold dwellExpired
  dsimp only
  split
  · next step hb _ =>
    have hc : (s.slot k).board.checked = true := by rw [hb]; rfl
    split
    · split
      · exact (startStep_switchesKept k _ s hc).socketsSafe hs
      · have hp : ((enterPowered k s).slot k).board = .powered := by simp [enterPowered]
        exact socketsSafe_of_slotFrame hs (enterPowered_slotFrame k s)
          (fun _ => Or.inl (BoardState.live_of_checked hc)) (fun _ _ => by rw [hp]; rfl)
    · exact hs
  · exact hs

/-! ## Drains -/

/-- R25: a drain opens every switch. -/
theorem startDrain_board (k : Slot) (s : State) :
    ((startDrain k s).slot k).board = .draining ∧ ∀ i, ((startDrain k s).socket k i).power ≠ .on := by
  unfold startDrain
  dsimp only
  generalize hu : s.setSlot k { s.slot k with
    board := .draining, sockets := (s.slot k).sockets.map SocketPower.release, ramp := none, dwell := none
    vcore := (s.slot k).vcore.quiet, vio := (s.slot k).vio.quiet } = u
  have hb : (u.slot k).board = .draining := by rw [← hu]; simp
  have hr : Released k u := by
    obtain ⟨_, _, _, _, _, _, h⟩ := hardOff_released (s.slot k)
    intro i
    rw [← hu, State.setSlot_socket_same]
    exact h i
  have hr' := stopChannel_released k false u (by rw [hb]; decide) hr
  refine ⟨by simp [beginLowering, hb], fun i => ?_⟩
  have e : (beginLowering k (s.slot k).active.order.first.other false
      (resetThrottle k (stopChannel k false u))).socket k i = (stopChannel k false u).socket k i := by
    simp [beginLowering]
  rw [e]
  exact (hr' i).1

theorem startDrain_socketsSafe (k : Slot) (s : State) (hs : SocketsSafe s) (hl : (s.slot k).board.live = true) :
    SocketsSafe (startDrain k s) :=
  socketsSafe_of_slotFrame hs (startDrain_slotFrame k s) (fun _ => Or.inl hl)
    (fun i h => absurd h ((startDrain_board k s).2 i))

theorem railDone_socket (k : Slot) (d : Drain) (s : State) (i : Socket) :
    (railDone k d s).socket k i = s.socket k i := by
  unfold railDone
  dsimp only
  split <;> simp [beginLowering]

theorem railDone_socketsSafe (k : Slot) (d : Drain) (s : State) (hs : SocketsSafe s)
    (hb : (s.slot k).board = .draining) : SocketsSafe (railDone k d s) := by
  refine socketsSafe_of_slotFrame hs (railDone_slotFrame k d s) (fun _ => Or.inl (by rw [hb]; rfl)) (fun i h => ?_)
  rw [railDone_socket] at h
  exact absurd h (((socketsSafe_iff s).mp hs).2.not_on (by rw [hb]; rfl) i)

theorem drainSample_socketsSafe (k : Slot) (r : Rail) (v : Nat) (s : State) (hs : SocketsSafe s)
    (hb : (s.slot k).board = .draining) : SocketsSafe (drainSample k r v s) := by
  unfold drainSample
  split
  · split
    · exact railDone_socketsSafe k _ s hs hb
    · exact hs
  · exact hs

theorem drainExpired_socketsSafe (k : Slot) (s : State) (hs : SocketsSafe s) : SocketsSafe (drainExpired k s) := by
  unfold drainExpired
  dsimp only
  split
  · next d hb _ =>
    split
    · exact railDone_socketsSafe k d s hs hb
    · exact hs
  · exact hs

theorem railSample_socketsSafe (k : Slot) (r : Rail) (v c : Nat) (s : State) (hs : SocketsSafe s) :
    SocketsSafe (railSample k r v c s) := by
  obtain ⟨hb | hb, e⟩ | ⟨hb, e⟩ | e := railSample_cases k r v c s <;> rw [e]
  · exact checkRail_socketsSafe k r v c s hs (by rw [hb]; rfl)
  · exact checkRail_socketsSafe k r v c s hs (by rw [hb]; rfl)
  · exact drainSample_socketsSafe k r v s hs hb
  · exact hs

theorem settleExpired_socketsSafe (k : Slot) (r : Rail) (s : State) (hs : SocketsSafe s) :
    SocketsSafe (settleExpired k r s) := by
  unfold settleExpired
  dsimp only
  split
  · exact tripBoard_socketsSafe k r _ s hs
  · exact hs

/-! ## Conversions -/

theorem sampleOn_switchesKept (k : Slot) (i : Socket) (r : SampleRecord) (s : State) :
    SwitchesKept k s (sampleOn k i r s) := by
  unfold sampleOn
  dsimp only
  refine SwitchesKept.trans ?_
    ((setSocket_switchesKept k i _ _ (by rfl)).trans (tripEither_switchesKept _ _ _ _ _))
  split
  · exact setRecord_switchesKept _ _ _ _
  · exact .refl k s

theorem socketSample_switchesKept (k : Slot) (i : Socket) (n : Nat) (t : Int) (s : State) :
    SwitchesKept k s (socketSample k i n t s) := by
  unfold socketSample
  dsimp only
  have h1 := (Reporting.scanner ((s.scanner k).arrive i (arrivalRecord n t)) (Reporting.refl (k := k) (s := s))).switchesKept
  split
  · exact h1.trans (sampleOn_switchesKept _ _ _ _)
  · exact h1

theorem socketArrival_switchesKept (k : Slot) (i : Socket) (v : Option Int) (s : State) :
    SwitchesKept k s (socketArrival k i v s) := by
  unfold socketArrival
  split
  · exact socketSample_switchesKept _ _ _ _ _
  · exact .refl k s

theorem railArrival_socketsSafe (k : Slot) (r : Rail) (v : Option Int) (s : State) (hs : SocketsSafe s) :
    SocketsSafe (railArrival k r v s) := by
  unfold railArrival
  split
  · exact railSample_socketsSafe _ _ _ _ _ ((Reporting.scanner _ .refl).switchesKept.socketsSafe hs)
  · exact hs

theorem keepPartial_socketsSafe (k : Slot) (v : Option Nat) (s : State) (hs : SocketsSafe s) :
    SocketsSafe (keepPartial k v s) :=
  (Reporting.scanner _ .refl).switchesKept.socketsSafe hs

theorem routineResult_socketsSafe (k : Slot) (p n : Nat) (v : Option Int) (s : State) (hs : SocketsSafe s) :
    SocketsSafe (routineResult k p n v s) := by
  unfold routineResult
  split
  · exact keepPartial_socketsSafe _ _ _ hs
  · exact keepPartial_socketsSafe _ _ _ hs
  · exact keepPartial_socketsSafe _ _ _ (railArrival_socketsSafe _ _ _ _ hs)
  · exact keepPartial_socketsSafe _ _ _ (railArrival_socketsSafe _ _ _ _ hs)
  · split
    · exact keepPartial_socketsSafe _ _ _ hs
    · exact keepPartial_socketsSafe _ _ _ ((socketArrival_switchesKept _ _ _ _).socketsSafe hs)

theorem routineEnd_socketsSafe (k : Slot) (c : Conversion) (v : Option Int) (s : State) (hs : SocketsSafe s) :
    SocketsSafe (routineEnd k c v s) := by
  unfold routineEnd
  split
  · exact (Reporting.scanner _ .refl).switchesKept.socketsSafe hs
  · exact (advanceRound_reporting _ _).switchesKept.socketsSafe (routineResult_socketsSafe _ _ _ _ _ hs)

theorem conversionEnd_socketsSafe (k : Slot) (v : Option Int) (s : State) (hs : SocketsSafe s) :
    SocketsSafe (conversionEnd k v s) := by
  obtain e | ⟨c, _, ⟨t, _, e⟩ | ⟨_, e⟩⟩ := conversionEnd_cases k v s <;> rw [e]
  · exact hs
  · exact ((captureResult_reporting _ _ _ _ _).trans
      ((advanceSet_reporting _ _ _).trans (chooseNext_reporting _ _))).switchesKept.socketsSafe hs
  · exact (chooseNext_reporting _ _).switchesKept.socketsSafe (routineEnd_socketsSafe _ _ _ _ hs)

/-! ## Presence and identity -/

/-- R2: a slot that enters IDENT keeps its sockets. -/
theorem enterIdent_slot (k : Slot) (s : State) :
    ((enterIdent k s).slot k).board = .ident
      ∧ ∀ i, ((enterIdent k s).socket k i).power = .on → (s.socket k i).power = .on := by
  have h := startScanner_reporting k
    (s.setSlot k { (s.slot k).clearEvents with board := .ident, identLimit := some Config.identLimit })
  refine ⟨by rw [enterIdent, h.slotFields.1]; simp, fun i hi => ?_⟩
  simpa [SlotCtl.clearEvents] using h.socket_on i hi

theorem enterIdent_down (k : Slot) (s : State) (hd : AllDown s) (hw : SwitchesSafe s) :
    AllDown (enterIdent k s) ∧ SwitchesSafe (enterIdent k s) := by
  obtain ⟨hb, ho⟩ := enterIdent_slot k s
  refine ⟨fun j => ?_, hw.of_slotFrame (enterIdent_slotFrame k s) (fun i h => ?_)⟩
  · by_cases hj : j = k
    · rw [hj, hb]; rfl
    · rw [(enterIdent_slotFrame k s).slot_ne hj]; exact hd j
  · exact absurd (ho i h) (hw.not_on (BoardState.not_checked_of_not_live (hd k)) i)

theorem boardInserted_socketsSafe (k : Slot) (s : State) (hs : SocketsSafe s) : SocketsSafe (boardInserted k s) := by
  unfold boardInserted
  split
  · next he =>
    obtain ⟨hb, ho⟩ := enterIdent_slot k s
    refine socketsSafe_of_slotFrame hs (enterIdent_slotFrame k s) (fun h => ?_) (fun i h => ?_)
    · rw [hb] at h; exact absurd h (by decide)
    · exact absurd (ho i h) (((socketsSafe_iff s).mp hs).2.not_on (by rw [he]; rfl) i)
  · exact hs

theorem removeBoard_socketsSafe (k : Slot) (s : State) (hs : SocketsSafe s) : SocketsSafe (removeBoard k s) := by
  unfold removeBoard
  dsimp only
  have h1 := takeDown_socketsSafe k .empty false s hs rfl (by simp [BoardState.live])
  have h2 : SwitchesKept k (takeDown k .empty false s) (stopScanner k ((dropClosing k (takeDown k .empty false s)).setSlot k
      ((dropClosing k (takeDown k .empty false s)).slot k).forgetBoard)) :=
    (Reporting.compare _ .refl).switchesKept.trans
      ((setSlot_switchesKept _ _ _ (by rfl) (by rfl)).trans (Reporting.scanner _ .refl).switchesKept)
  split
  · exact (h2.trans (appendEntry_switchesKept _ _ _ _ _ _)).socketsSafe h1
  · exact h2.socketsSafe h1

theorem boardRemoved_socketsSafe (k : Slot) (s : State) (hs : SocketsSafe s) : SocketsSafe (boardRemoved k s) := by
  unfold boardRemoved
  split
  · exact hs
  · exact removeBoard_socketsSafe k s hs

/-- A slot controller replaced outside RAMPING and POWERED by one in PRESENT, with its sockets kept. -/
theorem setSlot_present_socketsSafe (k : Slot) (s : State) (c : SlotCtl) (hs : SocketsSafe s)
    (hb : (s.slot k).board.checked = false) (hc : c.board = .present) (hk : c.sockets = (s.slot k).sockets) :
    SocketsSafe (s.setSlot k c) := by
  refine socketsSafe_of_slotFrame hs (State.setSlot_slotFrame s k c) (fun h => ?_) (fun i h => ?_)
  · rw [State.setSlot_slot_same, hc] at h; exact absurd h (by decide)
  · rw [State.setSlot_socket_same, hk] at h
    exact absurd h (((socketsSafe_iff s).mp hs).2.not_on hb i)

theorem tagBoard_switchesKept (k : Slot) (i : Identity) (s : State) : SwitchesKept k s (tagBoard k i s) := by
  have tag (u : State) : SwitchesKept k u (setTag k i u) :=
    .of_on ⟨rfl, rfl, rfl, rfl, rfl, rfl, rfl, rfl, rfl, rfl,
      fun j h => ⟨rfl, rfl, rfl, rfl, rfl, PerSlot.get_set_ne _ _ h⟩⟩ rfl (fun _ h => h)
  have zero (u : State) : SwitchesKept k u (zeroRecords k u) :=
    .of_on ⟨rfl, rfl, rfl, rfl, rfl, rfl, rfl, rfl, rfl, rfl,
      fun j h => ⟨rfl, rfl, rfl, rfl, rfl, PerSlot.get_set_ne _ _ h⟩⟩ rfl (fun _ h => h)
  have prep (u : State) : SwitchesKept k u (prepareSlot k u) :=
    .of_on (State.setSlot_slotFrame _ _ _) (by simp [prepareSlot]) (fun n h => by
      simp [prepareSlot, Config.socketOff] at h)
  unfold tagBoard
  split
  · exact tag s
  · split
    · exact .refl k s
    · exact (((zero s).trans (tag _)).trans (Reporting.compare _ .refl).switchesKept).trans
        ((appendEntry_switchesKept k _ _ _ _ _).trans ((prep _).trans (Reporting.channel _ .refl).switchesKept))

theorem applyDescriptor_switchesKept (k : Slot) (d : Descriptor) (s : State) :
    SwitchesKept k s (applyDescriptor k d s) := by
  refine .of_on (State.setSlot_slotFrame _ _ _) (by simp [applyDescriptor]) (fun i h => ?_)
  simp only [applyDescriptor, State.setSlot_socket_same, Table.get_mapIdx, maskUnpopulated, State.get_sockets] at h
  split at h
  · exact absurd h (by simp)
  · exact h

theorem identityAnswer_socketsSafe (k : Slot) (i : Identity) (d : Descriptor) (s : State) (hs : SocketsSafe s) :
    SocketsSafe (identityAnswer k i d s) := by
  unfold identityAnswer
  split
  · next hb =>
    have h1 : SocketsSafe (recordAnswer k i d s) :=
      setSlot_present_socketsSafe k s _ hs (by rw [hb]; rfl) rfl rfl
    dsimp only
    split
    · exact ((tagBoard_switchesKept k i _).trans (applyDescriptor_switchesKept k d _)).socketsSafe h1
    · exact h1
  · exact hs

theorem identityTimeout_socketsSafe (k : Slot) (s : State) (hs : SocketsSafe s) :
    SocketsSafe (identityTimeout k s) := by
  unfold identityTimeout
  dsimp only
  split
  · next h => exact setSlot_present_socketsSafe k s _ hs (by rw [h.1]; rfl) rfl rfl
  · exact hs

/-! ## Sockets -/

theorem maskSocket_switchesKept (k : Slot) (i : Socket) (s : State) : SwitchesKept k s (maskSocket k i s) := by
  unfold maskSocket
  split
  iterate 3 exact setPower_switchesKept _ _ _ _ _ (by simp)
  iterate 2 exact .refl k s

/-- R31: a socket is switched on after a command where its board is POWERED. -/
theorem switchOn_powered_switchesKept (k : Slot) (i : Socket) (s : State) :
    SwitchesKept k s (if (s.slot k).board = .powered then switchOn k i s else s) := by
  split
  · next hb => exact switchOn_switchesKept k i s (by rw [hb]; rfl)
  · exact .refl k s

theorem unmaskSocket_switchesKept (k : Slot) (i : Socket) (s : State) : SwitchesKept k s (unmaskSocket k i s) := by
  unfold unmaskSocket
  dsimp only
  split
  · exact (setPower_switchesKept _ _ _ _ _ (by simp)).trans (switchOn_powered_switchesKept _ _ _)
  · exact .refl k s

theorem retryExpired_switchesKept (k : Slot) (i : Socket) (s : State) : SwitchesKept k s (retryExpired k i s) := by
  unfold retryExpired
  dsimp only
  split
  · exact (setPower_switchesKept _ _ _ _ _ (by simp)).trans (switchOn_powered_switchesKept _ _ _)
  · exact .refl k s

theorem reinstateSocket_switchesKept (k : Slot) (i : Socket) (s : State) :
    SwitchesKept k s (reinstateSocket k i s) := by
  unfold reinstateSocket
  dsimp only
  refine SwitchesKept.trans ?_ (switchOn_powered_switchesKept _ _ _)
  split
  iterate 2
    exact ((setRecord_switchesKept k i _ _).trans ((appendEntry_switchesKept k _ _ _ _ _).trans
      ((Reporting.compare _ .refl).switchesKept.trans (setSocket_switchesKept k i _ _ (by rfl))))).trans
        (setPower_switchesKept _ _ _ _ _ (by simp))
  iterate 3
    exact (setRecord_switchesKept k i _ _).trans ((appendEntry_switchesKept k _ _ _ _ _).trans
      ((Reporting.compare _ .refl).switchesKept.trans (setSocket_switchesKept k i _ _ (by rfl))))

end Sys2Proof.Machine
end


section
/-!
PROOFS. That the work on all four slots, the requests and the events keep `SocketsSafe`, and with them every step
(R17, R20, R28, R29, R123, R124).
-/

namespace Sys2Proof.Machine

open Safety

/-! ## All four slots -/

/-- Where no board is powered and no switch is closed wrongly, the phase and the zone state may be any. -/
theorem socketsSafe_of_down {s t : State} (h : t.slots = s.slots) (hd : AllDown s) (hw : SwitchesSafe s) :
    SocketsSafe t := by
  have hs : SocketsSafe s := (socketsSafe_iff s).mpr ⟨fun _ => hd, hw⟩
  have e : ∀ k, t.slot k = s.slot k := fun k => by unfold State.slot; rw [h]
  refine (socketsSafe_iff t).mpr ⟨fun _ k => by rw [e k]; exact hd k, fun k i hi => ?_⟩
  unfold State.socket at hi
  rw [e k] at hi ⊢
  exact hw k i hi

/-- R124: SAFE entry locks every slot out. -/
theorem safeEntry_socketsSafe (cause : SafeCause) (detail : List Byte) (s : State) (hs : SocketsSafe s) :
    SocketsSafe (safeEntry cause detail s) := by
  unfold safeEntry
  dsimp only
  refine socketsSafe_of_down (s := forSlots (lockOut false) { s with zone := s.zone.enterSafe cause })
    (by simp [appendZone]) (fun k => ?_) ?_
  · exact forSlots_all (fun k u => (u.slot k).board.live = false) _ (fun k u => lockOut_down false k u)
      (fun j k u hj h => by rw [(lockOut_slotFrame false j u).slot_ne hj.symm]; exact h) _ k
  · exact forSlots_invariant SwitchesSafe _ (fun k u h => lockOut_switchesSafe false k u h) _
      ((socketsSafe_iff s).mp hs).2

theorem commitSlot_slotFrame (k : Slot) (s : State) : SlotFrame k s (commitSlot k s) := by
  unfold commitSlot
  dsimp only
  split
  · exact (lockOut_slotFrame true k s).trans (State.setSlot_slotFrame _ _ _)
  · exact lockOut_slotFrame true k s

theorem commitBlocks_slotFrame (k : Slot) (s : State) : SlotFrame k s (commitBlocks k s) :=
  (commitSlot_slotFrame k s).trans ((stopChannel_slotFrame _ _ _).trans (State.setCompare_slotFrame _ _ _))

theorem commitBlocks_down (k : Slot) (s : State) : ((commitBlocks k s).slot k).board.live = false := by
  have h : ((commitSlot k s).slot k).board.live = false := by
    unfold commitSlot
    dsimp only
    split
    · simp [BoardState.live]
    · exact lockOut_down true k s
  simpa [commitBlocks] using h

theorem commitBlocks_switchesSafe (k : Slot) (s : State) (hs : SwitchesSafe s) : SwitchesSafe (commitBlocks k s) := by
  have h : SwitchesSafe (commitSlot k s) := by
    have hl := lockOut_switchesSafe true k s hs
    unfold commitSlot
    dsimp only
    split
    · next hb =>
      refine hl.of_slotFrame (State.setSlot_slotFrame _ _ _) (fun i hi => ?_)
      rw [State.setSlot_socket_same] at hi
      exact absurd hi (hl.not_on (by rw [hb]; rfl) i)
    · exact hl
  exact h.of_slotFrame (((stopChannel_slotFrame k true _).trans (State.setCompare_slotFrame _ _ _)))
    (((stopChannel_switchesKept k true _).trans (Reporting.compare _ .refl).switchesKept).on_checked h)

/-- R17: the start of a commit takes every board down. -/
theorem commitStart_socketsSafe (kept : Bool) (s : State) (hs : SwitchesSafe s) :
    SocketsSafe (commitStart kept s) := by
  unfold commitStart
  refine socketsSafe_of_down (s := forSlots commitBlocks s) (by simp) (fun k => ?_) ?_
  · exact forSlots_all (fun k u => (u.slot k).board.live = false) _ commitBlocks_down
      (fun j k u hj h => by rw [(commitBlocks_slotFrame j u).slot_ne hj.symm]; exact h) _ k
  · exact forSlots_invariant SwitchesSafe _ commitBlocks_switchesSafe _ hs

/-- The slots of a start: all EMPTY with every switch open. -/
theorem socketsSafe_of_resetSlots {t : State} (h : t.slots = PerSlot.fill slotReset) : SocketsSafe t := by
  refine socketsSafe_of_down (s := State.reset) h (fun k => ?_) (fun k i hi => absurd hi ?_)
  · simp [State.reset, slotReset, BoardState.live]
  · simp [State.reset, slotReset, Config.socketOff]

theorem start_socketsSafe (s : State) : SocketsSafe (start s) := socketsSafe_of_resetSlots rfl

theorem zoneResetSlot_slotFrame (k : Slot) (s : State) : SlotFrame k s (zoneResetSlot k s) :=
  (lockOut_slotFrame true k s).trans ((stopChannel_slotFrame _ _ _).trans ((State.setThrottle_slotFrame _ _ _).trans
    ((State.setCompare_slotFrame _ _ _).trans ((State.setSlot_slotFrame _ _ _).trans
      (State.setScanner_slotFrame _ _ _)))))

/-- R16: at ZONE-RESET every socket is MASKED or OFF. -/
theorem zoneResetSlot_switchesSafe (k : Slot) (s : State) (hs : SwitchesSafe s) : SwitchesSafe (zoneResetSlot k s) := by
  refine hs.of_slotFrame (zoneResetSlot_slotFrame k s) (fun i hi => absurd hi ?_)
  simp only [zoneResetSlot, State.setScanner_frame, State.setSlot_socket_same, SlotCtl.zoneReset, Table.get_map,
    SocketPower.zoneReset]
  split <;> simp

theorem serveZoneReset_socketsSafe (s : State) (hr : s.part.phase = .running) (hs : SocketsSafe s) :
    SocketsSafe (serveZoneReset s).state := by
  unfold serveZoneReset
  split
  · exact hs
  · have hw := forSlots_invariant SwitchesSafe _ zoneResetSlot_switchesSafe s ((socketsSafe_iff s).mp hs).2
    have hp : (forSlots zoneResetSlot s).part = s.part :=
      forSlots_keeps State.part _ (fun k u => (zoneResetSlot_slotFrame k u).1) s
    refine (socketsSafe_iff _).mpr ⟨fun h => absurd ?_ h, fun k i => ?_⟩
    · exact ⟨by simp [answer, reply, hp, hr], by simp [answer, reply, Zone.zoneReset, zoneReset]⟩
    · simpa [answer, reply] using hw k i

/-! ## Requests -/

theorem withSlot_socketsSafe {s : State} {n : Nat} {f : Slot → Served} (hs : SocketsSafe s)
    (h : ∀ k, SocketsSafe (f k).state) : SocketsSafe (withSlot s n f).state := by
  unfold withSlot
  split
  · exact h _
  · exact hs

theorem serveBoardPowerUp_socketsSafe (n : Nat) (s : State) (hr : s.part.phase = .running) (hs : SocketsSafe s) :
    SocketsSafe (serveBoardPowerUp n s).state := by
  refine withSlot_socketsSafe hs fun k => ?_
  dsimp only
  split
  · exact hs
  · split
    · exact hs
    · next hz =>
      split
      · split
        · exact startRamp_socketsSafe k s hs ⟨hr, hz⟩
        · exact hs
      all_goals exact hs

theorem serveBoardPowerDown_socketsSafe (n : Nat) (s : State) (hs : SocketsSafe s) :
    SocketsSafe (serveBoardPowerDown n s).state := by
  refine withSlot_socketsSafe hs fun k => ?_
  split
  iterate 4 exact hs
  all_goals
    next hb => exact startDrain_socketsSafe k s hs (by rw [hb]; rfl)

theorem stageItems_socketsSafe (k : Slot) (l : List StageItem) (s : State) (hs : SocketsSafe s) :
    SocketsSafe (stageItems k l s).state := by
  unfold stageItems
  dsimp only
  split
  · exact hs
  · split
    · exact hs
    · exact (setSlot_switchesKept k s _ (by rfl) (by rfl)).socketsSafe hs

theorem serveBoardStage_socketsSafe (n : Nat) (l : List StageItem) (s : State) (hs : SocketsSafe s) :
    SocketsSafe (serveBoardStage n l s).state := by
  unfold serveBoardStage
  dsimp only
  split
  · exact hs
  · split
    · exact hs
    · refine withSlot_socketsSafe hs fun k => ?_
      split
      iterate 2 exact hs
      all_goals exact stageItems_socketsSafe k l s hs

theorem applyBoard_socketsSafe (k : Slot) (s : State) (hs : SocketsSafe s) : SocketsSafe (applyBoard k s).state := by
  unfold applyBoard
  dsimp only
  split
  · exact hs
  · split
    · exact hs
    · split
      · exact (setSlot_switchesKept k s _ (by rfl) (by rfl)).socketsSafe hs
      · exact (takeApply_switchesKept k s).socketsSafe hs

theorem serveBoardApply_socketsSafe (n : Nat) (s : State) (hs : SocketsSafe s) :
    SocketsSafe (serveBoardApply n s).state := by
  refine withSlot_socketsSafe hs fun k => ?_
  split
  iterate 2 exact hs
  all_goals exact applyBoard_socketsSafe k s hs

theorem serveBoardStatus_socketsSafe (n : Nat) (s : State) (hs : SocketsSafe s) :
    SocketsSafe (serveBoardStatus n s).state := by
  refine withSlot_socketsSafe hs fun k => ?_
  split
  · exact hs
  · exact (setSlot_switchesKept k s _ (by rfl) (by rfl)).socketsSafe hs

theorem socketSetChecks_socketsSafe {n : Nat} {l : List Nat} {s : State} {f : Slot → Served} (hs : SocketsSafe s)
    (h : ∀ k, SocketsSafe (f k).state) : SocketsSafe (socketSetChecks n l s f).state := by
  unfold socketSetChecks
  split
  · exact hs
  · refine withSlot_socketsSafe hs fun k => ?_
    split
    iterate 2 exact hs
    all_goals exact h k

theorem serveSocketSet_socketsSafe (act : Slot → Socket → State → State)
    (ha : ∀ k i u, SwitchesKept k u (act k i u)) (n : Nat) (l : List Nat) (s : State) (hs : SocketsSafe s) :
    SocketsSafe (serveSocketSet act n l s).state := by
  refine socketSetChecks_socketsSafe hs fun k => ?_
  split
  · exact hs
  · exact (forSockets_switchesKept (act k) (ha k) _ s).socketsSafe hs

theorem serveSocketStatus_socketsSafe (n : Nat) (l : List Nat) (s : State) (hs : SocketsSafe s) :
    SocketsSafe (serveSocketStatus n l s).state := by
  unfold serveSocketStatus
  split
  · exact hs
  · refine withSlot_socketsSafe hs fun k => ?_
    split
    · exact hs
    · split <;> exact hs

theorem setBurstConfig_reporting (k : Slot) (b : BurstConfig) (s : State) :
    Reporting k s (setBurstConfig k b s).state := by
  unfold setBurstConfig
  dsimp only
  split
  · exact .channel _ .refl
  · exact .channel _ .refl
  · split
    · exact .refl
    · unfold reply
      dsimp only
      split
      · exact .channel _ .refl
      · exact (Reporting.channel _ .refl).trans (startBurst_reporting _ _)
  iterate 2
    split
    · exact .refl
    · exact .channel _ .refl

theorem serveBurstConfigSet_socketsSafe (n p m c g : Nat) (s : State) (hs : SocketsSafe s) :
    SocketsSafe (serveBurstConfigSet n p m c g s).state := by
  refine withSlot_socketsSafe hs fun k => ?_
  split
  · exact hs
  · split
    · exact hs
    · exact (setBurstConfig_reporting _ _ _).switchesKept.socketsSafe hs

theorem serveExerciseStart_socketsSafe (n : Nat) (s : State) (hs : SocketsSafe s) :
    SocketsSafe (serveExerciseStart n s).state := by
  refine withSlot_socketsSafe hs fun k => ?_
  dsimp only
  split
  · exact hs
  · split
    · exact hs
    · split
      · exact hs
      · split
        iterate 3 exact hs
        iterate 2
          split
          · exact hs
          · exact (burstPoint_reporting k s).switchesKept.socketsSafe hs

theorem serveExerciseStop_socketsSafe (n : Nat) (s : State) (hs : SocketsSafe s) :
    SocketsSafe (serveExerciseStop n s).state := by
  refine withSlot_socketsSafe hs fun k => ?_
  split
  · exact hs
  · exact (stopChannel_switchesKept k false s).socketsSafe hs

theorem dropUndefined_reporting (k : Slot) (s : State) : Reporting k s (dropUndefined k s) := by
  unfold dropUndefined
  split
  · exact .channel _ .refl
  · exact .refl

theorem serveBurstTrigger_socketsSafe (n : Nat) (s : State) (hs : SocketsSafe s) :
    SocketsSafe (serveBurstTrigger n s).state := by
  refine withSlot_socketsSafe hs fun k => ?_
  dsimp only
  split
  · exact hs
  · split
    · exact hs
    · split
      · exact ((dropUndefined_reporting k s).trans (startBurst_reporting _ _)).switchesKept.socketsSafe hs
      · split
        · split
          · exact ((abandonBurst_switchesKept k false s).trans (startBurst_reporting _ _).switchesKept).socketsSafe hs
          · exact hs
        · exact hs
      all_goals exact hs

theorem serveZoneSetpoint_socketsSafe (x : Int) (r : Nat) (s : State) (hs : SocketsSafe s) :
    SocketsSafe (serveZoneSetpoint x r s).state := by
  unfold serveZoneSetpoint
  dsimp only
  split
  · exact hs
  · split
    · exact hs
    · split
      · exact hs
      · refine socketsSafe_of_slots hs rfl fun h => ⟨h.1, ?_⟩
        simp [reply, Zone.enterRamp, Zone.drive]

theorem serveZoneCool_socketsSafe (s : State) (hs : SocketsSafe s) : SocketsSafe (serveZoneCool s).state := by
  unfold serveZoneCool
  split
  iterate 3 exact hs
  all_goals exact socketsSafe_of_slots hs rfl fun h => ⟨h.1, by simp [answer, reply, Zone.drive]⟩

theorem serveAccountClear_socketsSafe (n : Nat) (s : State) (hs : SocketsSafe s) :
    SocketsSafe (serveAccountClear n s).state := by
  refine withSlot_socketsSafe hs fun k => ?_
  split
  · exact hs
  · exact socketsSafe_of_slots hs rfl id

theorem withRecord_socketsSafe {s : State} {n : Nat} {f : Fin 32 → Served} (hs : SocketsSafe s)
    (h : ∀ r, SocketsSafe (f r).state) : SocketsSafe (withRecord s n f).state := by
  unfold withRecord
  split
  · exact hs
  · exact h _

/-- Every request of the catalogue keeps the property in a part that runs. -/
theorem Request.socketsSafe {f : State → Served} (h : Request f) (s : State) (hr : s.part.phase = .running)
    (hs : SocketsSafe s) : SocketsSafe (f s).state := by
  have same {t : State} (h1 : t.slots = s.slots) (h2 : t.part = s.part) (h3 : t.zone.state = s.zone.state) :
      SocketsSafe t := socketsSafe_of_slots hs h1 (by rw [MayPower, MayPower, h2, h3]; exact id)
  cases h with
  | identify | logStatus | clockStatus | refused => exact hs
  | zoneReset => exact serveZoneReset_socketsSafe s hr hs
  | zoneSetpoint => exact serveZoneSetpoint_socketsSafe _ _ s hs
  | zoneTune =>
    unfold serveZoneTune
    split
    · exact hs
    · split
      · exact hs
      · split
        · exact hs
        · exact same rfl rfl rfl
  | zoneCool => exact serveZoneCool_socketsSafe s hs
  | zoneAbort =>
    unfold serveZoneAbort
    split
    · exact hs
    · exact safeEntry_socketsSafe _ _ s hs
  | zoneStatus | weightsSet | snapshotRelease | clockClear => exact same rfl rfl rfl
  | boardPowerUp => exact serveBoardPowerUp_socketsSafe _ s hr hs
  | boardPowerDown => exact serveBoardPowerDown_socketsSafe _ s hs
  | boardStage => exact serveBoardStage_socketsSafe _ _ s hs
  | boardApply => exact serveBoardApply_socketsSafe _ s hs
  | boardStatus => exact serveBoardStatus_socketsSafe _ s hs
  | socketSetMask => exact serveSocketSet_socketsSafe _ maskSocket_switchesKept _ _ s hs
  | socketSetUnmask => exact serveSocketSet_socketsSafe _ unmaskSocket_switchesKept _ _ s hs
  | socketSetReinstate => exact serveSocketSet_socketsSafe _ reinstateSocket_switchesKept _ _ s hs
  | socketSetOther => exact socketSetChecks_socketsSafe hs fun _ => hs
  | socketStatus => exact serveSocketStatus_socketsSafe _ _ s hs
  | patternLoad =>
    unfold servePatternLoad
    dsimp only
    split
    · exact hs
    · split
      · exact hs
      · split
        · exact hs
        · exact same rfl rfl rfl
  | patternDefineWrite =>
    refine withRecord_socketsSafe hs fun r => ?_
    split
    · exact hs
    · split
      · exact hs
      · exact same rfl rfl rfl
  | patternDefineClear =>
    refine withRecord_socketsSafe hs fun r => ?_
    split
    · exact hs
    · exact same rfl rfl rfl
  | patternDefineQuery => exact withRecord_socketsSafe hs fun _ => hs
  | burstConfigSet => exact serveBurstConfigSet_socketsSafe _ _ _ _ _ s hs
  | burstConfigQuery | burstConfigOther => exact withSlot_socketsSafe hs fun k => by split <;> exact hs
  | exerciseStart => exact serveExerciseStart_socketsSafe _ s hs
  | exerciseStop => exact serveExerciseStop_socketsSafe _ s hs
  | burstTrigger => exact serveBurstTrigger_socketsSafe _ s hs
  | accelTableLoad =>
    unfold serveAccelTableLoad
    split
    · exact hs
    · split
      · exact hs
      · exact same rfl rfl rfl
  | accountSnapshot =>
    unfold serveAccountSnapshot
    split
    · exact same rfl rfl rfl
    all_goals exact hs
  | accountRead =>
    unfold serveAccountRead
    split
    · exact hs
    · split
      iterate 2 exact hs
      exact same rfl rfl rfl
  | accountClear => exact serveAccountClear_socketsSafe _ s hs
  | logRead =>
    unfold serveLogRead
    split <;> exact hs
  | logRetire =>
    unfold serveLogRetire
    split
    · exact hs
    · exact same rfl rfl rfl
  | alertMask =>
    unfold serveAlertMask
    split
    · exact hs
    · exact same rfl rfl rfl
  | alertConfig =>
    unfold serveAlertConfig
    split
    · exact same rfl rfl rfl
    · exact hs
  | alertPoll =>
    unfold serveAlertPoll
    split
    · exact same rfl rfl rfl
    · exact hs
  | alertDone =>
    unfold serveAlertDone
    split
    · exact hs
    · split
      · exact same rfl rfl rfl
      · exact hs

theorem received_socketsSafe (s : State) (hs : SocketsSafe s) : SocketsSafe (received s) :=
  socketsSafe_of_slots hs rfl id

theorem takeRequest_socketsSafe (kind : Byte) {serve : State → Served} (h : Request serve) (s : State)
    (hs : SocketsSafe s) : SocketsSafe (takeRequest kind serve s) := by
  obtain ⟨_, e⟩ | ⟨_, _, e⟩ | ⟨hr, l, e⟩ := takeRequest_cases kind serve s <;> rw [e]
  · exact hs
  · exact received_socketsSafe s hs
  · exact socketsSafe_of_slots (h.socketsSafe (received s) hr.1 (received_socketsSafe s hs)) rfl id

/-! ## Events -/

theorem whenRunning_socketsSafe {f : State → State} {s : State} (hs : SocketsSafe s)
    (h : s.part.phase = .running → SocketsSafe (f s)) : SocketsSafe (whenRunning f s) := by
  unfold whenRunning
  split
  · next hr => exact h (by simpa [State.running] using hr)
  · exact hs

theorem discardFrame_socketsSafe (s : State) (hs : SocketsSafe s) : SocketsSafe (discardFrame s) :=
  socketsSafe_of_slots hs rfl id

theorem takeFrame_socketsSafe (kind : Byte) (p : List Byte) (s : State) (hs : SocketsSafe s) :
    SocketsSafe (takeFrame kind p s) := by
  obtain ⟨serve, hr, e⟩ := takeFrame_request kind p s
  rw [e]
  exact takeRequest_socketsSafe kind hr s hs

theorem receiveByte_socketsSafe (b : List Byte) (s : State) (hs : SocketsSafe s) : SocketsSafe (receiveByte b s) := by
  have h1 : SocketsSafe { s with link.buffer := b } := socketsSafe_of_slots hs rfl id
  unfold receiveByte
  dsimp only
  split
  · exact discardFrame_socketsSafe _ h1
  · split
    · exact discardFrame_socketsSafe _ h1
    · split
      · unfold frameArrived
        dsimp only
        split
        · exact takeFrame_socketsSafe _ _ _ h1
        · exact discardFrame_socketsSafe _ h1
      · exact h1

theorem byteArrived_socketsSafe (b : Byte) (stop : Bool) (s : State) (hs : SocketsSafe s) :
    SocketsSafe (byteArrived b stop s) := by
  unfold byteArrived
  split
  · split
    · exact socketsSafe_of_slots hs rfl id
    · exact hs
  · split
    · exact receiveByte_socketsSafe _ s hs
    · exact discardFrame_socketsSafe s hs

theorem beginAlert_socketsSafe (s : State) (hs : SocketsSafe s) : SocketsSafe (beginAlert s) := by
  unfold beginAlert
  split
  · exact socketsSafe_of_slots hs rfl id
  · exact hs

theorem frameSent_socketsSafe (s : State) (hs : SocketsSafe s) : SocketsSafe (frameSent s) := by
  unfold frameSent
  split
  · exact hs
  · have h1 {f : TxFrame} : SocketsSafe { s with link.sending := none, link.owed := s.link.owed && !f.isReply } :=
      socketsSafe_of_slots hs rfl id
    refine whenRunning_socketsSafe h1 fun _ => ?_
    unfold sendNext
    split
    · exact socketsSafe_of_slots hs rfl id
    · exact beginAlert_socketsSafe _ h1

/-- R112 to R114: the work of an interval enters no SAFE. -/
theorem zoneWork_state (z : Zone) (h : (z.compareSensors.1.rampStep.loop.afterLoop.1).state = .safe) :
    z.state = .safe := by
  have compared : z.compareSensors.1.state = z.state := by
    unfold Zone.compareSensors
    split
    · split <;> rfl
    · rfl
  have ramped (y : Zone) (hy : y.rampStep.state = .safe) : y.state = .safe := by
    unfold Zone.rampStep at hy
    split at hy
    · dsimp only at hy
      split at hy
      · exact absurd hy (by simp)
      · exact hy
    · split at hy <;> exact hy
    · exact hy
  have driven (y : Zone) : y.drive.state = y.state := by
    unfold Zone.drive
    dsimp only
    split <;> rfl
  have looped (y : Zone) : y.loop.state = y.state := by
    unfold Zone.loop
    split
    iterate 2 exact driven y
    all_goals split <;> rw [driven]
  have after (y : Zone) (hy : y.afterLoop.1.state = .safe) : y.state = .safe := by
    unfold Zone.afterLoop at hy
    split at hy
    · next e =>
      unfold Zone.settle at hy
      dsimp only at hy
      split at hy
      · split at hy
        · exact absurd hy (by simp)
        · exact absurd (e.symm.trans hy) (by simp)
      · exact absurd (e.symm.trans hy) (by simp)
    · next e =>
      unfold Zone.soak at hy
      dsimp only at hy
      split at hy
      · exact absurd (e.symm.trans hy) (by simp)
      · split at hy
        · exact absurd (e.symm.trans hy) (by simp)
        · split at hy
          · exact absurd hy (by simp)
          · exact absurd (e.symm.trans hy) (by simp)
    · next e =>
      unfold Zone.coolEnd at hy
      dsimp only at hy
      split at hy
      · split at hy
        · rw [driven] at hy; exact absurd hy (by simp)
        · exact absurd (e.symm.trans hy) (by simp)
      · exact absurd (e.symm.trans hy) (by simp)
    all_goals exact hy
  have h1 := after _ h
  rw [looped] at h1
  exact compared ▸ ramped _ h1

theorem zoneWork_socketsSafe (s : State) (hs : SocketsSafe s) : SocketsSafe (zoneWork s) := by
  have h1 : SocketsSafe { s with zone := s.zone.compareSensors.1.rampStep.loop.afterLoop.1 } :=
    socketsSafe_of_slots hs rfl fun h => ⟨h.1, fun hz => h.2 (zoneWork_state s.zone hz)⟩
  unfold zoneWork raiseIf
  dsimp only
  split
  · exact socketsSafe_of_slots h1 rfl id
  · exact h1

theorem controlInterval_socketsSafe (p q : Option Int) (s : State) (hs : SocketsSafe s) :
    SocketsSafe (controlInterval p q s) := by
  unfold controlInterval
  split
  · have h1 : SocketsSafe { s with zone := { s.zone.readSensors p q with interval := some 1 } } :=
      socketsSafe_of_slots hs rfl id
    dsimp only
    split
    · exact zoneWork_socketsSafe _ h1
    · exact safeEntry_socketsSafe _ _ _ h1
    · exact zoneWork_socketsSafe _ h1
  · exact hs

theorem captureSnapshot_frame (s : State) : captureSnapshot s = { s with acct := (captureSnapshot s).acct } := by
  unfold captureSnapshot
  split <;> rfl

theorem accountInterval_socketsSafe (s : State) (hs : SocketsSafe s) : SocketsSafe (accountInterval s) := by
  unfold accountInterval
  split
  · dsimp only
    rw [captureSnapshot_frame]
    exact socketsSafe_of_slots hs rfl id
  · exact hs

theorem tickMs_socketsSafe (s : State) (hs : SocketsSafe s) : SocketsSafe (tickMs s) := by
  refine socketsSafe_of_same hs id (fun k => ?_) (fun k i h => ?_)
  · simp [tickMs, SlotCtl.tickMs]
  · simpa [tickMs, SlotCtl.tickMs] using h

theorem tickSec_socketsSafe (s : State) (hs : SocketsSafe s) : SocketsSafe (tickSec s) := by
  unfold tickSec
  split
  · refine socketsSafe_of_same hs id (fun k => ?_) (fun k i h => ?_)
    · simp [SlotCtl.tickSec]
    · simpa [SlotCtl.tickSec] using h
  · exact hs

theorem raiseClock_socketsSafe (s : State) (hs : SocketsSafe s) : SocketsSafe (raiseClock s) := by
  unfold raiseClock
  split
  · exact socketsSafe_of_slots hs rfl id
  · exact hs

theorem whileHoldover_socketsSafe {f : State → State} {s : State} (hs : SocketsSafe s) (h : SocketsSafe (f s)) :
    SocketsSafe (whileHoldover f s) := by
  unfold whileHoldover
  split
  · exact h
  · exact hs

theorem holdoverDetected_socketsSafe (s : State) (hs : SocketsSafe s) : SocketsSafe (holdoverDetected s) := by
  unfold holdoverDetected
  split
  · exact raiseClock_socketsSafe _ (socketsSafe_of_slots hs rfl id)
  · exact hs

theorem qualified_socketsSafe (s : State) (hs : SocketsSafe s) : SocketsSafe (qualified s) := by
  unfold qualified
  split
  · exact raiseClock_socketsSafe _ (socketsSafe_of_slots hs rfl id)
  · exact hs

/-! ## Power -/

/-- A change of the phase of a part that is not running, into a phase that is not running. -/
theorem socketsSafe_of_notRunning {s t : State} (hs : SocketsSafe s) (h : t.slots = s.slots)
    (hp : s.part.phase ≠ .running) : SocketsSafe t :=
  socketsSafe_of_slots hs h fun hm => absurd hm.1 hp

theorem powerFail_socketsSafe (s : State) (hs : SocketsSafe s) : SocketsSafe (powerFail s) := by
  unfold powerFail
  split
  · exact commitStart_socketsSafe false s ((socketsSafe_iff s).mp hs).2
  · exact socketsSafe_of_slots hs rfl id
  all_goals exact hs

theorem resetAsserted_socketsSafe (s : State) (hs : SocketsSafe s) : SocketsSafe (resetAsserted s) := by
  unfold resetAsserted
  split
  · exact commitStart_socketsSafe true s ((socketsSafe_iff s).mp hs).2
  · next h => exact socketsSafe_of_notRunning hs rfl (by rw [h]; decide)
  · exact socketsSafe_of_slots hs rfl id
  all_goals exact hs

theorem resetReleased_socketsSafe (s : State) (hs : SocketsSafe s) : SocketsSafe (resetReleased s) := by
  unfold resetReleased
  split
  iterate 2 exact start_socketsSafe s
  all_goals exact hs

theorem commitComplete_socketsSafe (s : State) (hs : SocketsSafe s) : SocketsSafe (commitComplete s) := by
  unfold commitComplete
  split
  · next h =>
    dsimp only
    split
    · exact start_socketsSafe _
    · exact socketsSafe_of_notRunning hs rfl (by rw [h]; decide)
  · exact hs

@[simp] theorem checkOutcome_slots (s : State) : (checkOutcome s).slots = s.slots := by
  unfold checkOutcome
  dsimp only
  split <;> simp [appendZone, restoreImage, loseImage]

/-- R15, R184: the part begins to run with no board powered. -/
theorem retentionCheckEnd_socketsSafe (s : State) (hs : SocketsSafe s) : SocketsSafe (retentionCheckEnd s) := by
  unfold retentionCheckEnd
  split
  · next h =>
    obtain ⟨hd, hw⟩ := (socketsSafe_iff s).mp hs
    have hd' : AllDown s := hd fun hm => by rw [hm.1] at h; exact absurd h (by decide)
    have found : AllDown (runningStart (checkOutcome s)) ∧ SwitchesSafe (runningStart (checkOutcome s)) := by
      refine forSlots_invariant (fun u => AllDown u ∧ SwitchesSafe u) findBoard (fun k u hu => ?_) _ ?_
      · unfold findBoard
        split
        · exact enterIdent_down k u hu.1 hu.2
        · exact hu
      · constructor
        · intro k; simpa using hd' k
        · intro k i; simpa using hw k i
    dsimp only
    split
    · exact commitStart_socketsSafe false _ found.2
    · exact socketsSafe_of_down rfl found.1 found.2
  · exact hs

/-! ## Every step -/

/-- Every command keeps the property. -/
theorem exec_socketsSafe (i : Instr) (s t : State) (hs : SocketsSafe s) (h : exec i s = .next t) : SocketsSafe t := by
  cases hf : requestFrame i with
  | some f =>
    obtain e | ⟨kind, serve, hr, e⟩ := exec_request i f hf s
    · rw [e] at h
      injection h with h
      exact h ▸ whenRunning_socketsSafe hs fun _ => discardFrame_socketsSafe s hs
    · rw [e] at h
      injection h with h
      exact h ▸ takeRequest_socketsSafe kind hr s hs
  | none =>
    have running {f : State → State} (hk : SocketsSafe (f s)) : SocketsSafe (whenRunning f s) :=
      whenRunning_socketsSafe hs fun _ => hk
    cases i
    all_goals simp only [requestFrame, reduceCtorEq] at hf
    all_goals
      injection h with h
      subst h
    case frameDiscarded => exact running (discardFrame_socketsSafe s hs)
    case receiveTimeout =>
      refine running ?_
      split
      · exact discardFrame_socketsSafe s hs
      · exact hs
    case frameSent => exact frameSent_socketsSafe s hs
    case alertFrame => exact running (beginAlert_socketsSafe s hs)
    case boardInserted k =>
      have h1 : SocketsSafe (setPresent k true s) := socketsSafe_of_slots hs rfl id
      exact whenRunning_socketsSafe h1 fun _ => boardInserted_socketsSafe k _ h1
    case boardRemoved k =>
      have h1 : SocketsSafe (setPresent k false s) := socketsSafe_of_slots hs rfl id
      exact whenRunning_socketsSafe h1 fun _ => boardRemoved_socketsSafe k _ h1
    case identityAnswer k a d => exact running (identityAnswer_socketsSafe k a d s hs)
    case identityTimeout k => exact running (identityTimeout_socketsSafe k s hs)
    case settleLimitExpiry k r => exact running (settleExpired_socketsSafe k r s hs)
    case inrushDwellExpiry k => exact running (dwellExpired_socketsSafe k s hs)
    case drainLimitExpiry k => exact running (drainExpired_socketsSafe k s hs)
    case switchFault k n a =>
      have h1 : SocketsSafe (setSwitchFault k n a s) := socketsSafe_of_slots hs rfl id
      split
      · exact whenRunning_socketsSafe h1 fun _ => (tripSocket_switchesKept k n _ _ _).socketsSafe h1
      · exact h1
    case retryExpiry k n => exact running ((retryExpired_switchesKept k n s).socketsSafe hs)
    case conversionEnd k v => exact running (conversionEnd_socketsSafe k v s hs)
    case riseHoldExpiry k => exact running ((riseHoldExpired_reporting k s).switchesKept.socketsSafe hs)
    case throttleFallExpiry k => exact running ((fallExpired_reporting k s).switchesKept.socketsSafe hs)
    case vectorBoundary k => exact running ((vectorBoundary_reporting k s).switchesKept.socketsSafe hs)
    case burstEnd k => exact running ((burstEnd_switchesKept k s).socketsSafe hs)
    case gapExpiry k => exact running ((gapExpired_reporting k s).switchesKept.socketsSafe hs)
    case controlInterval p q => exact running (controlInterval_socketsSafe p q s hs)
    case accountIntervalExpiry => exact running (accountInterval_socketsSafe s hs)
    case reference1ms => exact running (tickMs_socketsSafe s hs)
    case reference1s => exact running (tickSec_socketsSafe s hs)
    case holdoverDetection => exact holdoverDetected_socketsSafe s hs
    case qualificationStart => exact whileHoldover_socketsSafe hs (socketsSafe_of_slots hs rfl id)
    case qualificationFail => exact whileHoldover_socketsSafe hs (socketsSafe_of_slots hs rfl id)
    case qualificationSuccess => exact whileHoldover_socketsSafe hs (qualified_socketsSafe s hs)
    case powerFailAssert level =>
      have h1 : SocketsSafe { s with lines.powerFail := level } := socketsSafe_of_slots hs rfl id
      dsimp only
      split
      · exact powerFail_socketsSafe _ h1
      · exact h1
    case resetAssert => exact resetAsserted_socketsSafe _ (socketsSafe_of_slots hs rfl id)
    case commitComplete => exact commitComplete_socketsSafe s hs
    case resetRelease =>
      split
      · exact resetReleased_socketsSafe _ (socketsSafe_of_slots hs rfl id)
      · exact hs
    case powerOnReset => exact start_socketsSafe _
    case backupSupplyLoss => exact socketsSafe_of_slots hs rfl id
    case retentionCheckEnd => exact retentionCheckEnd_socketsSafe s hs
    case sampleInstant k g b => exact running ((sampleInstant_reporting k g b s).switchesKept.socketsSafe hs)
    case byteArrival b stop => exact running (byteArrived_socketsSafe b stop s hs)
    case powerLoss => exact socketsSafe_of_resetSlots rfl

/-- Settles O56: a step is the front command on the state with the queue's rest, and every command keeps the property;
each family of commands by the board states it can leave and the switches it can close. -/
theorem everyStepKeepsSocketsSafe : Obligations.EveryStepKeepsSocketsSafe := by
  intro s t hs h
  unfold step at h
  split at h
  · injection h with h
    exact h ▸ hs
  · refine exec_socketsSafe _ _ t ?_ h
    exact socketsSafe_of_slots hs rfl id

end Sys2Proof.Machine
end


section
/-!
PROOFS. The reset state (R15, R42, R56, R57, R65, R68, R71, R72, R93, R104, R115, R127, R130, R131, R146, R173, R175) and
BOARD-STATUS (R14).
-/

namespace Sys2Proof.Machine

open Safety

/-! ## The reset state -/

/-- The value of slot `k` in each family of values of the reset state. -/
theorem State.reset_slot (k : Slot) :
    State.reset.slot k = slotReset ∧ State.reset.scanner k = scannerStopped ∧ State.reset.channel k = channelReset
      ∧ State.reset.compare k = compareReset ∧ State.reset.throttle k = ⟨0, none, none⟩ := by
  cases k <;> exact ⟨rfl, rfl, rfl, rfl, rfl⟩

/-- Settles O53, block by block: the tables of the reset state hold one value at every index. -/
theorem resetTakesTheManualsValues : Obligations.ResetTakesTheManualsValues := by
  refine ⟨fun k => ?_, fun r => ?_, storeReset_read, ?_⟩
  · obtain ⟨hslot, hscan, hchan, hcmp, hthr⟩ := State.reset_slot k
    simp [State.socket, hslot, hscan, hchan, hcmp, hthr, slotReset, scannerStopped, channelReset, compareReset,
      Config.settings, Config.railOff, Config.invalidRail, Config.socketOff, Config.invalidSample]
  · simp [State.reset, storeReset]
  · simp [State.reset, zoneReset, accountReset, alertReset, clockReset, Config.tuning, Config.accel]

/-- Settles O54: each property is read off the value that every slot and socket has at a start. -/
theorem resetMeetsEveryInvariant : Obligations.ResetMeetsEveryInvariant := by
  refine ⟨⟨storeReset_wf, by decide, by decide⟩, socketsSafe_of_resetSlots rfl, by decide, fun k _ i => ?_,
    fun k _ => ?_, fun k _ => ?_⟩
  · simp [State.record, State.reset, accountReset, retentionBlank, Config.blankSet, Config.zeroRecord]
  · simp [State.socket, (State.reset_slot k).1, slotReset, Config.settings, Config.socketOff]
  · obtain ⟨_, _, hchan, hcmp, _⟩ := State.reset_slot k
    simp [ClosingWaits, hchan, hcmp, channelReset, compareReset]

/-! ## BOARD-STATUS -/

/-- Settles O10: the request reads the slot before it clears the events. -/
theorem boardStatusReportsAndClearsEvents : Obligations.BoardStatusReportsAndClearsEvents := by
  intro s k h
  refine ⟨fun hb => ?_, fun hb => ?_⟩ <;> refine congrArg Host.Outcome.next (takeRequest_replied _ _ _ _ _ h ?_)
  · simp only [serveBoardStatus, withSlot_code, received_frame, hb, if_false]
    rfl
  · simp only [serveBoardStatus, withSlot_code, received_frame, hb, if_true]
    rfl

end Sys2Proof.Machine
end


section
/-!
PROOFS. Insertion and the identity read (R2 to R7, R43, R94, R103).
-/

namespace Sys2Proof.Machine

open Safety

/-! ## Running or not -/

theorem whenRunning_of_running (f : State → State) (s : State) (h : s.part.phase = .running) : whenRunning f s = f s := by
  simp [whenRunning, State.running, h]

theorem whenRunning_of_not_running (f : State → State) (s : State) (h : s.part.phase ≠ .running) :
    whenRunning f s = s := by
  simp [whenRunning, State.running, h]

theorem Timer.due_iff (t : Timer) : Timer.due t = true ↔ t = some 0 := by
  simp [Timer.due]

/-! ## Insertion -/

/-- R43: the round a STOPPED scanner begins; it has no capture set to take first. -/
theorem startScanner_of_stopped (k : Slot) (s : State) (h : s.scanner k = scannerStopped) :
    startScanner k s = s.setScanner k
      { scannerStopped with running := true, roundCount := (s.slot k).countInForce
                            conversion := some ⟨(s.slot k).active.fullScale, false⟩ } := by
  simp [startScanner, chooseNext, beginSet, beginConversion, beginRound, h, scannerStopped]

/-- R2: an entry to IDENT with the scanner STOPPED. -/
theorem enterIdent_of_stopped (k : Slot) (s : State) (h : s.scanner k = scannerStopped) :
    enterIdent k s = (s.setSlot k { (s.slot k).clearEvents with board := .ident, identLimit := some 50 }).setScanner k
      { scannerStopped with running := true, roundCount := (s.slot k).countInForce
                            conversion := some ⟨(s.slot k).active.fullScale, false⟩ } := by
  rw [enterIdent, startScanner_of_stopped _ _ (by simpa using h)]
  simp [SlotCtl.clearEvents, SlotCtl.countInForce, Config.identLimit]

theorem boardInserted_of_empty {k : Slot} {s : State} (h : (s.slot k).board = .empty) :
    boardInserted k s = enterIdent k s := if_pos h

theorem boardInserted_of_not_empty {k : Slot} {s : State} (h : (s.slot k).board ≠ .empty) :
    boardInserted k s = s := if_neg h

/-- Settles O35: an insertion is the line's change and, in a running part, the entry to IDENT; the limit acts only
where it is due in IDENT. -/
theorem insertionStartsTheIdentityRead : Obligations.InsertionStartsTheIdentityRead := by
  intro s k
  refine ⟨fun h => congrArg Host.Outcome.next ?_, fun hr hb hc => congrArg Host.Outcome.next ?_,
    fun hr hb ht => congrArg Host.Outcome.next ?_, fun hr h => congrArg Host.Outcome.next ?_⟩
  · by_cases hr : s.part.phase = .running
    · have hb : (s.slot k).board ≠ .empty := h.resolve_left (not_not_intro hr)
      exact (whenRunning_of_running _ (setPresent k true s) hr).trans (boardInserted_of_not_empty hb)
    · exact whenRunning_of_not_running _ (setPresent k true s) hr
  · have hc' : (setPresent k true s).scanner k = scannerStopped := hc
    rw [whenRunning_of_running _ (setPresent k true s) hr, boardInserted_of_empty (s := setPresent k true s) hb,
      enterIdent_of_stopped _ _ hc']
    rfl
  · rw [whenRunning_of_running _ _ hr]
    simp [identityTimeout, hb, ht, Timer.due]
  · rw [whenRunning_of_running _ _ hr, identityTimeout, if_neg]
    rw [Timer.due_iff]
    exact not_and_or.mpr h

/-! ## The identity answer -/

theorem Descriptor.inRange_iff (d : Descriptor) :
    d.inRange = true ↔ (1 ≤ d.socketCount ∧ d.socketCount ≤ 32) ∧ (400 ≤ d.vcoreMax ∧ d.vcoreMax ≤ 2500)
      ∧ (1000 ≤ d.vioMax ∧ d.vioMax ≤ 3600) ∧ (1 ≤ d.vcoreLimit ∧ d.vcoreLimit ≤ 65535)
      ∧ (1 ≤ d.vioLimit ∧ d.vioLimit ≤ 65535) := by
  simp [Descriptor.inRange, and_assoc]

/-- R5, SET. -/
theorem tagBoard_of_untagged {k : Slot} {i : Identity} {s : State} (h : (s.acct.sets.get k).tag = none) :
    tagBoard k i s = setTag k i s := by
  simp [tagBoard, h]

/-- R5, CONTINUE. -/
theorem tagBoard_of_same {k : Slot} {i : Identity} {s : State} (h : (s.acct.sets.get k).tag = some i) :
    tagBoard k i s = s := by
  simp [tagBoard, h]

/-- R5, RETAG. -/
theorem tagBoard_of_other {k : Slot} {i old : Identity} {s : State} (h : (s.acct.sets.get k).tag = some old)
    (hne : old ≠ i) : tagBoard k i s = clearConfigs k (prepareSlot k (retagSet k i old s)) := by
  simp [tagBoard, h, hne]

theorem tagBoard_cases (k : Slot) (i : Identity) (s : State) :
    ((s.acct.sets.get k).tag = none ∧ tagBoard k i s = setTag k i s)
    ∨ ((s.acct.sets.get k).tag = some i ∧ tagBoard k i s = s)
    ∨ ∃ old, (s.acct.sets.get k).tag = some old ∧ old ≠ i
        ∧ tagBoard k i s = clearConfigs k (prepareSlot k (retagSet k i old s)) := by
  cases h : (s.acct.sets.get k).tag with
  | none => exact .inl ⟨rfl, tagBoard_of_untagged h⟩
  | some old =>
    by_cases hne : old = i
    · subst hne; exact .inr (.inl ⟨rfl, tagBoard_of_same h⟩)
    · exact .inr (.inr ⟨old, rfl, hne, tagBoard_of_other h hne⟩)

/-- Whatever the tagging outcome, the answer recorded stays and the set has the tag. -/
theorem tagBoard_frame (k : Slot) (i : Identity) (s : State) :
    (tagBoard k i s).link = s.link ∧ (tagBoard k i s).zone = s.zone ∧ (tagBoard k i s).scanner k = s.scanner k
      ∧ ((tagBoard k i s).slot k).board = (s.slot k).board
      ∧ ((tagBoard k i s).slot k).identity = (s.slot k).identity
      ∧ ((tagBoard k i s).slot k).descriptor = (s.slot k).descriptor
      ∧ ((tagBoard k i s).slot k).status = (s.slot k).status
      ∧ ((tagBoard k i s).slot k).identLimit = (s.slot k).identLimit
      ∧ ((tagBoard k i s).acct.sets.get k).tag = some i := by
  obtain ⟨_, e⟩ | ⟨ht, e⟩ | ⟨old, _, _, e⟩ := tagBoard_cases k i s <;> rw [e]
  · simp [setTag]
  · simp [ht]
  · simp [prepareSlot, retagSet, appendBoard, setTag, clearDevStrikes]

/-- R5: SET and CONTINUE change nothing but the tag. -/
theorem tagBoard_of_kept {k : Slot} {i : Identity} {s : State}
    (h : (s.acct.sets.get k).tag = none ∨ (s.acct.sets.get k).tag = some i) :
    ((tagBoard k i s).acct.sets.get k).recs = (s.acct.sets.get k).recs ∧ (tagBoard k i s).log = s.log
      ∧ (tagBoard k i s).alert = s.alert ∧ (tagBoard k i s).channel k = s.channel k
      ∧ (tagBoard k i s).compare k = s.compare k ∧ (tagBoard k i s).slot k = s.slot k := by
  obtain h | h := h
  · rw [tagBoard_of_untagged h]
    simp [setTag]
  · simp [tagBoard_of_same h]

/-- R5, R6, R94, R103: RETAG zeroes the records and the deviation strikes, prepares the slot, removes the
configurations and logs the old serial. -/
theorem tagBoard_of_retag {k : Slot} {i old : Identity} {s : State} (h : (s.acct.sets.get k).tag = some old)
    (hne : old ≠ i) :
    (∀ n, (tagBoard k i s).record k n = Config.zeroRecord)
      ∧ (∀ n, ((tagBoard k i s).compare k).devStrikes.get n = 0)
      ∧ NewestIs (tagBoard k i s) (some k) none .slotRetagged (u24 old.serial)
      ∧ ((tagBoard k i s).channel k).active = none ∧ ((tagBoard k i s).channel k).pending = none
      ∧ ((tagBoard k i s).slot k).active = Config.settings ∧ ((tagBoard k i s).slot k).staged = Config.settings
      ∧ ((tagBoard k i s).slot k).applyDeferred = false
      ∧ ∀ n, (tagBoard k i s).socket k n = ⟨.off, 0, none, none⟩ := by
  rw [tagBoard_of_other h hne]
  refine ⟨fun n => ?_, fun n => ?_, ?_, ?_, ?_, ?_, ?_, ?_, fun n => ?_⟩
  · simp [prepareSlot, retagSet, appendBoard, setTag, zeroRecords, State.record]
  · simp [prepareSlot, retagSet, appendBoard, clearDevStrikes]
  · have logged : NewestIs (retagSet k i old s) (some k) none .slotRetagged (u24 old.serial) :=
      appendEntry_newest _ _ _ _ _
    exact newestIs_of_eq logged rfl rfl rfl
  · simp [clearConfigs]
  · simp [clearConfigs]
  · simp [prepareSlot]
  · simp [prepareSlot]
  · simp [prepareSlot]
  · simp [prepareSlot, Config.socketOff]

/-- R7: the descriptor changes the sockets and the setpoints of its slot alone. -/
theorem applyDescriptor_slot (k : Slot) (d : Descriptor) (s : State) :
    (applyDescriptor k d s).slot k
      = { s.slot k with sockets := (s.slot k).sockets.mapIdx (maskUnpopulated d.socketCount)
                        active := (s.slot k).active.lowerTo d, staged := (s.slot k).staged.lowerTo d } := by
  simp [applyDescriptor]

theorem applyDescriptor_socket (k : Slot) (d : Descriptor) (s : State) (n : Socket) :
    (applyDescriptor k d s).socket k n = if d.socketCount ≤ n.val then ⟨.masked, 0, none, none⟩ else s.socket k n := by
  rw [State.socket, applyDescriptor_slot, Table.get_mapIdx]
  rfl

/-- R3, R4: an answer taken in IDENT and out of range. -/
theorem identityAnswer_of_outOfRange {k : Slot} {i : Identity} {d : Descriptor} {s : State}
    (hb : (s.slot k).board = .ident) (h : d.inRange = false) : identityAnswer k i d s = recordAnswer k i d s := by
  simp [identityAnswer, hb, h]

/-- R3 to R7: an answer taken in IDENT and in range. -/
theorem identityAnswer_of_inRange {k : Slot} {i : Identity} {d : Descriptor} {s : State}
    (hb : (s.slot k).board = .ident) (h : d.inRange = true) :
    identityAnswer k i d s = applyDescriptor k d (tagBoard k i (recordAnswer k i d s)) := by
  simp [identityAnswer, hb, h]

/-- Settles O36: the answer is recorded; in range the set is tagged, with the slot prepared where it had another
board, and the descriptor applied. -/
theorem identityAnswerTagsTheSet : Obligations.IdentityAnswerTagsTheSet := by
  intro s k i d hr hb
  refine ⟨fun h => congrArg Host.Outcome.next ?_, fun h => ?_⟩
  · have hd : d.inRange = false := by
      rw [← Descriptor.inRange_iff] at h
      exact Bool.eq_false_iff.mpr h
    rw [whenRunning_of_running _ _ hr, identityAnswer_of_outOfRange hb hd, recordAnswer, hd]
    rfl
  · have hd : d.inRange = true := d.inRange_iff.mpr h
    let s1 := recordAnswer k i d s
    let s2 := tagBoard k i s1
    obtain ⟨hlink, hzone, hscan, hboard, hident, hdesc, hstat, hlimit, htag⟩ := tagBoard_frame k i s1
    have hslot : s1.slot k = { s.slot k with identity := some i, descriptor := some d, board := .present
                                             identLimit := none, status := .valid } := by
      simp [s1, recordAnswer, hd]
    have hframe : SlotFrame k s (applyDescriptor k d s2) :=
      (State.setSlot_slotFrame _ _ _).trans
        ((tagBoard_switchesKept k i s1).1.trans (applyDescriptor_switchesKept k d s2).1)
    refine ⟨applyDescriptor k d s2, congrArg Host.Outcome.next ?_, hframe, hlink, hzone, hscan, ?_, ?_, ?_, ?_, ?_,
      htag, fun n hn => ?_, fun ht => ?_, fun old ht hne => ?_⟩
    · rw [whenRunning_of_running _ _ hr, identityAnswer_of_inRange hb hd]
    · rw [applyDescriptor_slot, hboard, hslot]
    · rw [applyDescriptor_slot, hident, hslot]
    · rw [applyDescriptor_slot, hdesc, hslot]
    · rw [applyDescriptor_slot, hstat, hslot]
    · rw [applyDescriptor_slot, hlimit, hslot]
    · rw [applyDescriptor_socket, if_pos hn]
    · obtain ⟨hrecs, hlog, halert, hchan, hcmp, hs2⟩ := tagBoard_of_kept (s := s1) ht
      refine ⟨hrecs, hlog, halert, hchan, hcmp, ?_, ?_, fun n hn => ?_⟩
      · rw [applyDescriptor_slot, hs2, hslot]
        rfl
      · rw [applyDescriptor_slot, hs2, hslot]
        rfl
      · rw [applyDescriptor_socket, if_neg (Nat.not_le_of_lt hn), State.socket, hs2, hslot]
        rfl
    · obtain ⟨hrec, hdev, hnew, hact, hpend, hactive, hstaged, hdefer, hsock⟩ := tagBoard_of_retag (s := s1) ht hne
      refine ⟨fun n => ⟨hrec n, hdev n⟩, hnew, hact, hpend, ?_, ?_, ?_, fun n hn => ?_⟩
      · rw [applyDescriptor_slot, hactive]
        simp [Settings.lowerTo, Config.settings]
      · rw [applyDescriptor_slot, hstaged]
        simp [Settings.lowerTo, Config.settings]
      · rw [applyDescriptor_slot, hdefer]
      · rw [applyDescriptor_socket, if_neg (Nat.not_le_of_lt hn), hsock]

end Sys2Proof.Machine
end


section
/-!
PROOFS. Removal of a board (R8 to R12, R40, R99, R121): what a channel's stop and a hard-off leave of a slot where no
deferred apply is taken, and what they leave in any case.
-/

namespace Sys2Proof.Machine

open Safety

/-! ## Deviation strikes -/

/-- The deviation strikes of a slot's sockets. -/
def devStrikesOf (k : Slot) (s : State) : Table 32 Nat := (s.compare k).devStrikes

theorem setPower_devStrikes (k : Slot) (i : Socket) (p : PowerState) (t : Timer) (s : State) :
    devStrikesOf k (setPower k i p t s) = devStrikesOf k s := by
  rw [devStrikesOf, setPower_compare]
  split <;> rfl

theorem dropNotice_devStrikes (k : Slot) (i : Socket) (s : State) :
    devStrikesOf k (dropNotice k i s) = devStrikesOf k s := by
  unfold dropNotice
  split
  · exact setPower_devStrikes _ _ _ _ _
  · exact setPower_devStrikes _ _ _ _ _
  all_goals rfl

theorem reportFailure_devStrikes (k : Slot) (i : Socket) (c : FailCause) (d : List Byte) (s : State) :
    devStrikesOf k (reportFailure k i c d s) = devStrikesOf k s := by
  unfold reportFailure
  obtain ⟨_, e⟩ | ⟨_, r, _, ⟨_, e⟩ | ⟨_, e⟩⟩ :=
    turnFailed_cases k i c d (logFailure k i c d (s.setRecord k i ((s.record k i).countReport c))) <;> rw [e]
  · simp [devStrikesOf]
  · rw [dropNotice_devStrikes]
    simp [devStrikesOf]
  · simp [devStrikesOf]

theorem tripSocket_devStrikes (k : Slot) (i : Socket) (c : LogCause) (d : List Byte) (s : State) :
    devStrikesOf k (tripSocket k i c d s) = devStrikesOf k s := by
  by_cases h : (s.socket k i).power = .on
  · obtain ⟨q, s2, s4, _, h2, h4, e⟩ := tripSocket_of_on k i c d s h
    have e4 : devStrikesOf k s4 = devStrikesOf k s := by
      have e2 : devStrikesOf k s2 = devStrikesOf k s := by
        rw [h2, setPower_devStrikes]
        simp [devStrikesOf]
      rw [h4, ← e2]
      simp [devStrikesOf, appendSocket]
    rw [e, ← e4]
    cases q
    · rfl
    · exact reportFailure_devStrikes _ _ _ _ _
  · rw [tripSocket_of_not_on k i c d s h]

theorem switchOn_devStrikes (k : Slot) (i : Socket) (s : State) : devStrikesOf k (switchOn k i s) = devStrikesOf k s := by
  obtain ⟨_, e⟩ | ⟨_, ⟨_, e⟩ | ⟨_, e⟩⟩ := switchOn_cases k i s <;> rw [e]
  · exact setPower_devStrikes _ _ _ _ _
  · rw [tripSocket_devStrikes, setPower_devStrikes]

theorem lowerLimit_devStrikes (k : Slot) (l : Nat) (i : Socket) (s : State) :
    devStrikesOf k (lowerLimit k l i s) = devStrikesOf k s := by
  obtain ⟨_, e⟩ | ⟨_, s1, h1, ⟨_, e⟩ | ⟨_, e⟩⟩ := lowerLimit_cases k l i s <;> rw [e]
  · rw [h1]; simp [devStrikesOf]
  · rw [reportFailure_devStrikes, setPower_devStrikes, h1]; simp [devStrikesOf]

theorem dropFailed_devStrikes (k : Slot) (i : Socket) (s : State) :
    devStrikesOf k (dropFailed k i s) = devStrikesOf k s := by
  obtain e | e := dropFailed_cases k i s <;> rw [e]
  exact dropNotice_devStrikes _ _ _

theorem applyPolicy_devStrikes (k : Slot) (p : FailPolicy) (s : State) :
    devStrikesOf k (applyPolicy k p s) = devStrikesOf k s := by
  unfold applyPolicy
  split
  · split
    · exact forSockets_keeps _ _ (switchOn_devStrikes k) _ _
    · rfl
  · exact forSockets_keeps _ _ (dropFailed_devStrikes k) _ _
  · rfl

theorem applyLimit_devStrikes (k : Slot) (n : Nat) (s : State) : devStrikesOf k (applyLimit k n s) = devStrikesOf k s := by
  unfold applyLimit
  dsimp only
  split
  · exact forSockets_keeps _ _ (lowerLimit_devStrikes k _) _ _
  · rfl

/-- R41: an apply leaves the deviation strikes. -/
theorem takeApply_devStrikes (k : Slot) (s : State) : devStrikesOf k (takeApply k s) = devStrikesOf k s := by
  unfold takeApply
  dsimp only
  rw [applyPolicy_devStrikes, applyLimit_devStrikes]
  simp [devStrikesOf, copyStaged]

theorem endDeferred_devStrikes (k : Slot) (cancel : Bool) (s : State) :
    devStrikesOf k (endDeferred k cancel s) = devStrikesOf k s := by
  obtain ⟨_, e⟩ | ⟨_, _, e⟩ | ⟨_, _, e⟩ := endDeferred_cases k cancel s <;> rw [e]
  · simp [devStrikesOf]
  · exact takeApply_devStrikes k s

/-- R12: a channel's stop leaves the deviation strikes. -/
theorem stopChannel_devStrikes (k : Slot) (cancel : Bool) (s : State) :
    devStrikesOf k (stopChannel k cancel s) = devStrikesOf k s := by
  unfold stopChannel
  obtain ⟨_, e⟩ | ⟨_, e⟩ := abandonBurst_cases k cancel s <;> rw [e]
  · simp [devStrikesOf]
  · have h := endDeferred_devStrikes k cancel (discardBurst k s)
    simpa [devStrikesOf, Compare.clearBurst] using h

/-! ## A channel that stops with no apply taken -/

/-- No deferred apply is taken when the channel of slot `k` stops (R88). -/
def NoApply (k : Slot) (cancel : Bool) (s : State) : Prop :=
  (s.channel k).state ≠ .burst ∨ (s.slot k).applyDeferred = false ∨ cancel = true

/-- The records, the log and the alert unit stay, and of the slot the count of abandoned bursts and the flag of a
deferred apply alone change. -/
theorem stopChannel_quiet {k : Slot} {cancel : Bool} {s : State} (h : NoApply k cancel s) :
    RecordsKept s (stopChannel k cancel s)
      ∧ (stopChannel k cancel s).slot k = { s.slot k with
          abandoned := ((stopChannel k cancel s).slot k).abandoned
          applyDeferred := ((stopChannel k cancel s).slot k).applyDeferred } := by
  by_cases hb : (s.channel k).state = .burst
  · have hd : (s.slot k).applyDeferred = false ∨ cancel = true := h.resolve_left (not_not_intro hb)
    simp only [stopChannel, abandonBurst, hb, if_true]
    obtain ⟨_, e⟩ | ⟨_, _, e⟩ | ⟨ha, hc, _⟩ := endDeferred_cases k cancel (discardBurst k s)
    · rw [e]; simp [RecordsKept]
    · rw [e]; simp [RecordsKept]
    · simp only [discardBurst_slot] at ha
      simp [ha, hc] at hd
  · rw [stopChannel_of_not_burst _ _ _ hb]
    simp [RecordsKept]

/-- R40: the slot after the stop of a channel whose burst had an apply deferred. -/
theorem stopChannel_deferred {k : Slot} {s : State} (hb : (s.channel k).state = .burst)
    (ha : (s.slot k).applyDeferred = true) :
    ((stopChannel k false s).slot k).active = (s.slot k).staged
      ∧ ((stopChannel k false s).slot k).applyDeferred = false ∧ ((stopChannel k false s).slot k).applyDone = true := by
  have e : endDeferred k false (discardBurst k s) = takeApply k (discardBurst k s) := by
    simp [endDeferred, ha]
  obtain ⟨hactive, _, hdefer, hdone, _⟩ := takeApply_slot k (discardBurst k s)
  simp [stopChannel, abandonBurst, hb, e, hactive, hdefer, hdone]

/-! ## Hard-off -/

/-- A board taken hard-off with no apply taken: the slot is the hard-off of what it was. -/
theorem takeDown_quiet {k : Slot} {b : BoardState} {cancel : Bool} {s : State} (h : NoApply k cancel s) :
    RecordsKept s (takeDown k b cancel s)
      ∧ (takeDown k b cancel s).slot k = { (s.slot k).hardOff with
          board := b, abandoned := ((takeDown k b cancel s).slot k).abandoned
          applyDeferred := ((takeDown k b cancel s).slot k).applyDeferred } := by
  have h' : NoApply k cancel (s.setSlot k { (s.slot k).hardOff with board := b }) := by
    simpa [NoApply, SlotCtl.hardOff] using h
  obtain ⟨hrec, hslot⟩ := stopChannel_quiet h'
  rw [State.setSlot_slot_same] at hslot
  exact ⟨hrec, hslot⟩

theorem takeDown_deferred {k : Slot} (b : BoardState) {s : State} (hb : (s.channel k).state = .burst)
    (ha : (s.slot k).applyDeferred = true) :
    ((takeDown k b false s).slot k).active = (s.slot k).staged
      ∧ ((takeDown k b false s).slot k).applyDeferred = false ∧ ((takeDown k b false s).slot k).applyDone = true := by
  have h := stopChannel_deferred (k := k) (s := s.setSlot k { (s.slot k).hardOff with board := b }) (by simpa using hb)
    (by simpa [SlotCtl.hardOff] using ha)
  simpa [takeDown, SlotCtl.hardOff] using h

theorem takeDown_devStrikes (k : Slot) (b : BoardState) (cancel : Bool) (s : State) :
    devStrikesOf k (takeDown k b cancel s) = devStrikesOf k s := by
  have h := stopChannel_devStrikes k cancel (s.setSlot k { (s.slot k).hardOff with board := b })
  simpa [devStrikesOf, takeDown] using h

theorem SocketPower.release_of_held {p : SocketPower} (h : p.power = .on ∨ p.power = .tripWait) :
    p.release = ⟨.off, p.strikes, none, none⟩ := by
  unfold SocketPower.release
  obtain h | h := h <;> rw [h]

theorem SocketPower.release_of_free {p : SocketPower} (h : p.power ≠ .on ∧ p.power ≠ .tripWait) : p.release = p := by
  obtain ⟨h1, h2⟩ := h
  unfold SocketPower.release
  cases hp : p.power <;> simp_all

/-! ## Removal -/

/-- R8 to R11: the slot emptied, before BOARD-PULLED is logged. -/
def emptied (k : Slot) (s : State) : State :=
  let s1 := dropClosing k (takeDown k .empty false s)
  stopScanner k (s1.setSlot k (s1.slot k).forgetBoard)

theorem removeBoard_eq (k : Slot) (s : State) :
    removeBoard k s = if (s.slot k).board.logsPull then
      appendBoard k .boardPulled (u8 (s.slot k).board.code) (emptied k s) else emptied k s := rfl

/-- The log entry of a removal changes the log and the alert unit alone. -/
theorem removeBoard_parts (k : Slot) (s : State) :
    (removeBoard k s).slots = (emptied k s).slots ∧ (removeBoard k s).chan = (emptied k s).chan
      ∧ (removeBoard k s).scan = (emptied k s).scan ∧ (removeBoard k s).cmp = (emptied k s).cmp
      ∧ (removeBoard k s).zone = (emptied k s).zone ∧ (removeBoard k s).acct = (emptied k s).acct := by
  rw [removeBoard_eq]
  split <;> simp [appendBoard]

theorem removeBoard_slot (k : Slot) (s : State) :
    (removeBoard k s).slot k = ((takeDown k .empty false s).slot k).forgetBoard := by
  obtain ⟨hslots, _⟩ := removeBoard_parts k s
  rw [State.slot, hslots]
  simp [emptied]

theorem removeBoard_socket (k : Slot) (s : State) (i : Socket) :
    (removeBoard k s).socket k i = (takeDown k .empty false s).socket k i := by
  rw [State.socket, removeBoard_slot]
  rfl

theorem removeBoard_record (k : Slot) (s : State) (j : Slot) (i : Socket) :
    (removeBoard k s).record j i = (takeDown k .empty false s).record j i := by
  obtain ⟨_, _, _, _, _, hacct⟩ := removeBoard_parts k s
  rw [State.record, hacct]
  simp [emptied]

/-- R10: BOARD-PULLED is the newest entry and the slot's source is raised. -/
theorem removeBoard_logged {k : Slot} {s : State} (h : (s.slot k).board.logsPull = true) :
    NewestIs (removeBoard k s) (some k) none .boardPulled [BitVec.ofNat 8 (s.slot k).board.code]
      ∧ (removeBoard k s).alert.raised.getLsbD (2 + k.code) = true := by
  rw [removeBoard_eq, if_pos h]
  exact ⟨appendEntry_newest _ _ _ _ _, appendEntry_raises _ _ _ _ _⟩

/-- From IDENT, PRESENT and TRIPPED a removal logs nothing. -/
theorem removeBoard_recordsKept {k : Slot} {s : State} (h : (s.slot k).board.logsPull = false)
    (hn : NoApply k false s) : RecordsKept s (removeBoard k s) := by
  rw [removeBoard_eq, h]
  exact (takeDown_quiet hn).1

/-- R8 to R11, R89, R99, R121: the blocks of the slot after a removal. -/
theorem removeBoard_blocks (k : Slot) (s : State) :
    ((removeBoard k s).slot k).board = .empty ∧ HardOff ((removeBoard k s).slot k)
      ∧ ((removeBoard k s).channel k).state = .idle
      ∧ ((removeBoard k s).channel k).active = (s.channel k).active
      ∧ (removeBoard k s).scanner k = scannerStopped ∧ ((removeBoard k s).compare k).closing = none
      ∧ devStrikesOf k (removeBoard k s) = devStrikesOf k s
      ∧ (removeBoard k s).throttle k = ⟨0, none, none⟩ := by
  obtain ⟨_, hchan, hscan, hcmp, hzone, _⟩ := removeBoard_parts k s
  obtain ⟨hboard, hoff, hidle, _, _, hactive, _, hthr⟩ := takeDown_spec k .empty false s rfl
  refine ⟨?_, ?_, ?_, ?_, ?_, ?_, ?_, ?_⟩
  · rw [removeBoard_slot]; exact hboard
  · rw [removeBoard_slot]; exact hoff
  · rw [State.channel, hchan]; simpa [emptied] using hidle
  · rw [State.channel, hchan]; simpa [emptied] using hactive
  · rw [State.scanner, hscan]; simp [emptied, stopScanner]
  · rw [State.compare, hcmp]; simp [emptied, dropClosing]
  · rw [devStrikesOf, State.compare, hcmp, ← takeDown_devStrikes k .empty false s]
    simp [emptied, dropClosing, devStrikesOf]
  · rw [State.throttle, hzone]; simpa [emptied] using hthr

/-- R12: the settings and the sockets after a removal that takes no apply. -/
theorem removeBoard_kept {k : Slot} {s : State} (h : NoApply k false s) :
    ((removeBoard k s).slot k).active = (s.slot k).active
      ∧ (∀ i, (removeBoard k s).record k i = s.record k i)
      ∧ ∀ i, (removeBoard k s).socket k i = (s.socket k i).release := by
  obtain ⟨⟨_, hacct, _⟩, hslot⟩ := takeDown_quiet (b := .empty) h
  refine ⟨?_, fun i => ?_, fun i => ?_⟩
  · rw [removeBoard_slot, hslot]; rfl
  · rw [removeBoard_record, State.record, hacct]; rfl
  · rw [removeBoard_socket, State.socket, hslot]
    exact Table.get_map _ _ _

/-- Settles O37: a removal is the line's change and, in a running part, the emptying of the slot. -/
theorem removalMakesTheSlotSafe : Obligations.RemovalMakesTheSlotSafe := by
  intro s k
  refine ⟨fun h => congrArg Host.Outcome.next ?_, fun hr hb => ?_⟩
  · by_cases hr : s.part.phase = .running
    · have hb : (s.slot k).board = .empty := h.resolve_left (not_not_intro hr)
      exact (whenRunning_of_running _ (setPresent k false s) hr).trans (if_pos hb)
    · exact whenRunning_of_not_running _ (setPresent k false s) hr
  · let u := setPresent k false s
    obtain ⟨hboard, hoff, hidle, hact, hscan, hclosing, hdev, hthr⟩ := removeBoard_blocks k u
    have hpulled : ∀ b : BoardState, b = .ramping ∨ b = .powered ∨ b = .draining → b.logsPull = true := by
      rintro b (rfl | rfl | rfl) <;> rfl
    have hquiet : ∀ b : BoardState, b = .ident ∨ b = .present ∨ b = .tripped → b.logsPull = false := by
      rintro b (rfl | rfl | rfl) <;> rfl
    refine ⟨removeBoard k u, congrArg Host.Outcome.next ?_, removeBoard_slotFrame k u, ?_, hboard, hoff, ?_, ?_, ?_, ?_,
      hidle, hact, hscan, hclosing, hthr, ?_, fun hl => removeBoard_logged (s := u) (hpulled _ hl),
      fun hl hc => removeBoard_recordsKept (s := u) (hquiet _ hl) (.inl hc), ?_, fun i => ?_, fun h => ?_,
      fun hc ha => ?_⟩
    · exact (whenRunning_of_running _ u hr).trans (if_neg hb)
    · simp [u]
    · rw [removeBoard_slot]; rfl
    · rw [removeBoard_slot]; rfl
    · rw [removeBoard_slot]; rfl
    · rw [removeBoard_slot]; rfl
    · simp [u]
    · rw [removeBoard_slot]; simp [SlotCtl.forgetBoard, u]
    · exact congrArg (fun d : Table 32 Nat => d.get i) hdev
    · obtain ⟨hactive, hrec, hsock⟩ := removeBoard_kept (k := k) (s := u) (h.imp_right .inl)
      refine ⟨hactive, fun i => ⟨hrec i, fun hp => ?_, fun hp => ?_⟩⟩
      · rw [hsock]; exact SocketPower.release_of_held hp
      · rw [hsock]; exact SocketPower.release_of_free hp
    · rw [removeBoard_slot]
      exact takeDown_deferred (s := u) .empty hc ha

end Sys2Proof.Machine
end


section
/-!
PROOFS. The references (R2, R20, R21, R24, R25, R54, R83, R119, R132, R174, R178).
-/

namespace Sys2Proof.Machine

open Safety

@[simp] theorem get_perSlot {α : Type} (f : Slot → α) (k : Slot) : (perSlot f).get k = f k := by
  cases k <;> rfl

/-- R20: a command within one slew step of its target lands on it, and any other moves one step toward it. -/
theorem RailState.slew_command (rate : Nat) (r : RailState) :
    (r.slew rate).command = if r.target - r.command + (r.command - r.target) ≤ rate then r.target
      else if r.command < r.target then r.command + rate else r.command - rate := by
  simp only [RailState.slew]
  split <;> split <;> omega

theorem satInc_eq_min (m n : Nat) : satInc m n = min m (n + 1) := by
  unfold satInc
  split <;> omega

/-- R54: the records of a scanner at a 1 ms reference. -/
theorem Scanner.tick_of_running {c : Scanner} (h : c.running = true) :
    c.tick = { c with records := c.records.map SampleRecord.older } := by
  simp [Scanner.tick, h]

theorem Scanner.tick_of_stopped {c : Scanner} (h : c.running = false) : c.tick = c := by
  simp [Scanner.tick, h]

theorem Scanner.tick_records (c : Scanner) : c.tick = { c with records := c.tick.records } := by
  unfold Scanner.tick
  split <;> rfl

/-- R132: the counters of the open interval, socket by socket. -/
theorem tickCounts_get (s : State) (k : Slot) (i : Socket) :
    (tickCounts s k).get i =
      ⟨if (s.socket k i).power = .on then satInc 1000 ((s.acct.counts.get k).get i).on
        else ((s.acct.counts.get k).get i).on,
       if (s.socket k i).power = .on ∧ (s.channel k).state = .burst then satInc 1000 ((s.acct.counts.get k).get i).ex
        else ((s.acct.counts.get k).get i).ex⟩ := by
  rw [tickCounts, Table.get_mapIdx, OpenCount.tick]
  by_cases hon : (s.socket k i).power = .on <;> by_cases hb : (s.channel k).state = .burst <;> simp [hon, hb]

/-- Settles O49: each reference maps one counting function over the slots. -/
theorem referencesCountEveryTimer : Obligations.ReferencesCountEveryTimer := by
  intro s hr count command
  have hcount : count = Timer.count := by
    funext t
    rcases t with _ | _ | n <;> rfl
  have hslew : ∀ (r : RailState) (rate : Nat), { r.slew rate with settle := Timer.count r.settle }
      = { r with command := command r rate, settle := Timer.count r.settle } := by
    intro r rate
    have h : command r rate = (r.slew rate).command := (RailState.slew_command rate r).symm
    rw [h]
    rfl
  clear_value count command
  subst hcount
  refine ⟨⟨tickMs s, congrArg Host.Outcome.next (whenRunning_of_running _ _ hr), rfl, fun k => ?_⟩,
    fun h => congrArg Host.Outcome.next ?_, fun h => ⟨tickSec s,
      congrArg Host.Outcome.next (whenRunning_of_running _ _ hr), ?_, fun k => ?_⟩⟩
  · refine ⟨?_, ?_, ?_, fun h => ?_, ?_, fun h i => ?_, fun i => ?_⟩
    · simp only [tickMs, State.slot_mk, PerSlot.get_map, State.get_slots, SlotCtl.tickMs, hslew]
    · simp [tickMs, Channel.tickMs]
    · simp [tickMs, Throttle.tickMs]
    · simpa [tickMs] using Scanner.tick_of_stopped h
    · simpa [tickMs] using Scanner.tick_records (s.scanner k)
    · simp [tickMs, Scanner.tick_of_running h, SampleRecord.older]
    · simpa [tickMs] using tickCounts_get s k i
  · rw [whenRunning_of_running _ _ hr, tickSec, if_neg (Nat.not_le_of_lt h)]
  · rw [tickSec, if_pos h, satInc_eq_min]
    rfl
  · rw [tickSec, if_pos h]
    simp [SlotCtl.tickSec]

end Sys2Proof.Machine
end


section
/-!
PROOFS. ZONE-RESET (R16, R56, R89, R99, R121, R127, R146, R156, R173): what its work on one slot leaves, and what it
leaves of the blocks that the slots share.
-/

namespace Sys2Proof.Machine

/-! ## The blocks of one slot -/

/-- The blocks that one slot has of its own. -/
def slotView (k : Slot) (s : State) : SlotCtl × Scanner × Channel × Compare × Throttle :=
  (s.slot k, s.scanner k, s.channel k, s.compare k, s.throttle k)

theorem slotView_eq {j k : Slot} {s t : State} : slotView j s = slotView k t ↔
    s.slot j = t.slot k ∧ s.scanner j = t.scanner k ∧ s.channel j = t.channel k ∧ s.compare j = t.compare k
      ∧ s.throttle j = t.throttle k := by
  simp [slotView]

end Sys2Proof.Machine

namespace Sys2Proof.Safety

open Machine

theorem SlotFrame.slotView_ne {j k : Slot} {s t : State} (h : SlotFrame j s t) (hj : j ≠ k) :
    slotView k t = slotView k s := by
  obtain ⟨_, _, _, _, _, _, _, _, _, _, ho⟩ := h
  obtain ⟨h1, h2, h3, h4, h5, _⟩ := ho k hj.symm
  exact slotView_eq.mpr ⟨h1, h2, h3, h4, h5⟩

theorem RecordsKept.refl (s : State) : RecordsKept s s := ⟨rfl, rfl, rfl⟩

theorem RecordsKept.trans {s t u : State} (h : RecordsKept s t) (g : RecordsKept t u) : RecordsKept s u := by
  obtain ⟨h1, h2, h3⟩ := h
  obtain ⟨g1, g2, g3⟩ := g
  exact ⟨g1.trans h1, g2.trans h2, g3.trans h3⟩

end Sys2Proof.Safety

namespace Sys2Proof.Machine

open Safety

/-- What the work on all four slots leaves of one of them: what its own turn leaves, begun with the blocks of the slot
as before and with what every turn keeps. -/
theorem forSlots_slotView (f : Slot → State → State) (hf : ∀ k s, SlotFrame k s (f k s)) (inv : State → Prop)
    (hinv : ∀ k s, inv s → inv (f k s)) (s : State) (hs : inv s) (k : Slot) :
    ∃ u, inv u ∧ slotView k u = slotView k s ∧ slotView k (forSlots f s) = slotView k (f k u) :=
  forSlots_at slotView inv f (fun j _ u hj => (hf j u).slotView_ne hj) hinv s hs k

/-- The blocks that no step of any slot changes: `SlotFrame` with nothing said of the slots. -/
def SharedKept (s t : State) : Prop :=
  t.part = s.part ∧ t.lines = s.lines ∧ t.store = s.store ∧ t.clock = s.clock ∧ t.ret = s.ret ∧ t.pending = s.pending
    ∧ t.zone = { s.zone with throttle := t.zone.throttle }

theorem SharedKept.of_slotFrame {k : Slot} {s t u : State} (h : SharedKept s t) (g : SlotFrame k t u) :
    SharedKept s u := by
  obtain ⟨h1, h2, h3, h4, h5, h6, h7⟩ := h
  obtain ⟨g1, g2, g3, g4, g5, g6, _, g7, _⟩ := g
  refine ⟨g1.trans h1, g2.trans h2, g3.trans h3, g4.trans h4, g5.trans h5, g6.trans h6, ?_⟩
  rw [g7, h7]

theorem forSlots_sharedKept (f : Slot → State → State) (hf : ∀ k s, SlotFrame k s (f k s)) (s : State) :
    SharedKept s (forSlots f s) :=
  forSlots_invariant (SharedKept s) f (fun k t h => h.of_slotFrame (hf k t)) s ⟨rfl, rfl, rfl, rfl, rfl, rfl, rfl⟩

theorem forSlots_recordsKept (f : Slot → State → State) (hf : ∀ k s, RecordsKept s (f k s)) (s : State) :
    RecordsKept s (forSlots f s) :=
  forSlots_invariant (RecordsKept s) f (fun k t h => h.trans (hf k t)) s (.refl s)

/-! ## Steps that cancel a deferred apply -/

theorem noApply_cancel (k : Slot) (s : State) : NoApply k true s := .inr (.inr rfl)

/-- R16, R17: a lock-out that cancels a deferred apply logs and accounts nothing. -/
theorem lockOut_recordsKept (k : Slot) (s : State) : RecordsKept s (lockOut true k s) := by
  obtain ⟨_, e⟩ | ⟨_, e⟩ := lockOut_cases true k s <;> rw [e]
  · exact (takeDown_quiet (noApply_cancel k s)).1
  · exact ⟨rfl, rfl, rfl⟩

/-- R43: a channel's stop neither starts nor stops the scanner. -/
theorem stopChannel_running (k : Slot) (cancel : Bool) (s : State) :
    ((stopChannel k cancel s).scanner k).running = (s.scanner k).running := by
  unfold stopChannel
  obtain ⟨_, e⟩ | ⟨_, e⟩ := abandonBurst_cases k cancel s <;> rw [e] <;> simp [Scanner.forget]

theorem lockOut_running (cancel : Bool) (k : Slot) (s : State) :
    ((lockOut cancel k s).scanner k).running = (s.scanner k).running := by
  obtain ⟨_, e⟩ | ⟨_, e⟩ := lockOut_cases cancel k s <;> rw [e]
  simpa [takeDown] using stopChannel_running k cancel (s.setSlot k { (s.slot k).hardOff with board := .present })

theorem lockOut_configs (cancel : Bool) (k : Slot) (s : State) :
    ((lockOut cancel k s).channel k).active = (s.channel k).active
      ∧ ((lockOut cancel k s).channel k).pending = (s.channel k).pending := by
  obtain ⟨_, e⟩ | ⟨_, e⟩ := lockOut_cases cancel k s <;> rw [e]
  · obtain ⟨_, _, _, _, _, hactive, hpending, _⟩ := takeDown_spec k .present cancel s rfl
    exact ⟨hactive, hpending⟩
  · exact ⟨rfl, rfl⟩

/-! ## One slot at ZONE-RESET -/

theorem SocketPower.zoneReset_release (p : SocketPower) : p.release.zoneReset = p.zoneReset := by
  by_cases h : p.power = .on ∨ p.power = .tripWait
  · rw [SocketPower.release_of_held h]
    obtain h | h := h <;> simp [SocketPower.zoneReset, h]
  · rw [SocketPower.release_of_free (not_or.mp h)]

/-- R16: the slot controller, its board taken hard-off where it may be powered. -/
theorem zoneResetSlot_slot (k : Slot) (s : State) : (zoneResetSlot k s).slot k =
    (if (s.slot k).board.live then { (s.slot k).hardOff with board := .present } else s.slot k).zoneReset := by
  have hstop : ((stopChannel k true (lockOut true k s)).slot k).zoneReset = ((lockOut true k s).slot k).zoneReset := by
    rw [(stopChannel_quiet (noApply_cancel k (lockOut true k s))).2]
    rfl
  have hlock : ((lockOut true k s).slot k).zoneReset =
      (if (s.slot k).board.live then { (s.slot k).hardOff with board := .present } else s.slot k).zoneReset := by
    obtain ⟨hl, e⟩ | ⟨hl, e⟩ := lockOut_cases true k s <;> rw [e, hl]
    · rw [(takeDown_quiet (noApply_cancel k s)).2]
      rfl
    · rfl
  rw [← hlock, ← hstop]
  simp [zoneResetSlot]

theorem zoneResetSlot_recordsKept (k : Slot) (s : State) : RecordsKept s (zoneResetSlot k s) := by
  obtain ⟨h1, h2, h3⟩ := lockOut_recordsKept k s
  obtain ⟨⟨g1, g2, g3⟩, _⟩ := stopChannel_quiet (noApply_cancel k (lockOut true k s))
  refine ⟨?_, ?_, ?_⟩
  · simp [zoneResetSlot, g1, h1]
  · simp [zoneResetSlot, g2, h2]
  · simp [zoneResetSlot, g3, h3]

/-- R56, R89, R93, R99, R121: the other blocks of the slot. -/
theorem zoneResetSlot_blocks (k : Slot) (s : State) :
    ((zoneResetSlot k s).channel k).state = .idle
      ∧ ((zoneResetSlot k s).channel k).active = (s.channel k).active
      ∧ ((zoneResetSlot k s).channel k).pending = (s.channel k).pending
      ∧ ((zoneResetSlot k s).compare k).closing = none ∧ (zoneResetSlot k s).throttle k = ⟨0, none, none⟩
      ∧ ((s.scanner k).running = true →
          ((zoneResetSlot k s).scanner k).records = Table.fill 32 Config.invalidSample) := by
  obtain ⟨hidle, _, _, hactive, hpending⟩ := stopChannel_channel k true (lockOut true k s)
  obtain ⟨hactive', hpending'⟩ := lockOut_configs true k s
  refine ⟨?_, ?_, ?_, ?_, ?_, fun hr => ?_⟩
  · simp [zoneResetSlot, hidle]
  · simp [zoneResetSlot, hactive, hactive']
  · simp [zoneResetSlot, hpending, hpending']
  · simp [zoneResetSlot, dropClosing]
  · simp [zoneResetSlot, resetThrottle]
  · have hrun : ((stopChannel k true (lockOut true k s)).scanner k).running = true := by
      rw [stopChannel_running, lockOut_running, hr]
    simp [zoneResetSlot, Scanner.zoneReset, hrun, scannerStopped]

/-! ## The request -/

/-- R155: the comparison with LOG's arming renewed and the alert unit reset. -/
theorem logCompare_of_reset {s : State} (harm : s.log.armed = true) (hal : s.alert = alertReset) :
    (logCompare s).log.armed = decide (s.log.entries.length < 192)
      ∧ (logCompare s).alert = { alertReset with raised := if s.log.entries.length < 192 then 0 else 0x40 } := by
  by_cases h : s.log.entries.length < 192
  · have e : logCompare s = s := by
      simp [logCompare, Config.logMark, Nat.not_le.mpr h]
    rw [e, harm, hal, if_pos h, decide_eq_true h]
    exact ⟨rfl, rfl⟩
  · have e : logCompare s = raiseSource .log { s with log.armed := false } := by
      simp [logCompare, harm, Config.logMark, Nat.not_lt.mp h]
    rw [e, raiseSource_alert, if_neg h, decide_eq_false h]
    refine ⟨rfl, ?_⟩
    rw [hal]
    rfl

/-- R127, R146, R156, R173: the blocks that the slots share at ZONE-RESET, before LOG's comparison. -/
def zoneResetShared (s : State) : State :=
  { s with zone := s.zone.zoneReset, acct.snapshot := .absent, alert := alertReset, log.armed := true }

theorem zoneResetShared_frame (s : State) :
    (zoneResetShared s).part = s.part ∧ (zoneResetShared s).lines = s.lines ∧ (zoneResetShared s).store = s.store
      ∧ (zoneResetShared s).clock = s.clock ∧ (zoneResetShared s).ret = s.ret ∧ (zoneResetShared s).link = s.link
      ∧ (zoneResetShared s).log = { s.log with armed := true }
      ∧ (zoneResetShared s).acct = { s.acct with snapshot := .absent }
      ∧ (zoneResetShared s).zone = s.zone.zoneReset ∧ ∀ k, slotView k (zoneResetShared s) = slotView k s :=
  ⟨rfl, rfl, rfl, rfl, rfl, rfl, rfl, rfl, rfl, fun _ => rfl⟩

theorem serveZoneReset_of_safe {s : State} (h : s.zone.state = .safe) : serveZoneReset s = answer s .refusedSafe :=
  if_pos h

theorem serveZoneReset_of_not_safe {s : State} (h : s.zone.state ≠ .safe) :
    serveZoneReset s = answer (logCompare (zoneResetShared (forSlots zoneResetSlot s))) .ok := by
  rw [serveZoneReset, if_neg h]
  rfl

/-- R16, R56, R89, R93, R99, R121: what ZONE-RESET leaves of slot `k`. -/
def SlotReset (k : Slot) (s t : State) : Prop :=
  t.slot k = (if (s.slot k).board.live then { (s.slot k).hardOff with board := .present } else s.slot k).zoneReset
    ∧ (t.channel k).state = .idle ∧ (t.channel k).active = (s.channel k).active
    ∧ (t.channel k).pending = (s.channel k).pending ∧ (t.compare k).closing = none ∧ t.throttle k = ⟨0, none, none⟩
    ∧ ((s.scanner k).running = true → (t.scanner k).records = Table.fill 32 Config.invalidSample)

theorem SlotReset.of_slotView {k : Slot} {s s' t t' : State} (h : SlotReset k s t) (hs : slotView k s = slotView k s')
    (ht : slotView k t' = slotView k t) : SlotReset k s' t' := by
  obtain ⟨hs1, hs2, hs3, hs4, hs5⟩ := slotView_eq.mp hs
  obtain ⟨ht1, ht2, ht3, ht4, ht5⟩ := slotView_eq.mp ht
  rw [SlotReset, hs1, hs2, hs3] at h
  rw [SlotReset, ht1, ht2, ht3, ht4, ht5]
  exact h

theorem forSlots_slotReset (s : State) (k : Slot) : SlotReset k s (forSlots zoneResetSlot s) := by
  obtain ⟨u, _, hu, ht⟩ := forSlots_slotView zoneResetSlot zoneResetSlot_slotFrame (fun _ => True)
    (fun _ _ _ => trivial) s trivial k
  exact SlotReset.of_slotView ⟨zoneResetSlot_slot k u, zoneResetSlot_blocks k u⟩ hu ht

/-- A slot after ZONE-RESET, field by field. -/
theorem SlotReset.fields {k : Slot} {s t : State} (h : SlotReset k s t) :
    (t.slot k).board = (if (s.slot k).board.live then .present else (s.slot k).board)
      ∧ (t.slot k).active = { (s.slot k).active with vcore := 0, vio := 0 }
      ∧ (t.slot k).staged = { (s.slot k).staged with vcore := 0, vio := 0 }
      ∧ (t.slot k).vcore = Config.railOff ∧ (t.slot k).vio = Config.railOff
      ∧ (t.slot k).railTrip = false ∧ (t.slot k).socketTrip = false ∧ (t.slot k).burstDone = false
      ∧ (t.slot k).applyDone = false ∧ (t.slot k).abandoned = 0 ∧ (t.slot k).applyDeferred = false
      ∧ ∀ i : Socket, t.socket k i = ⟨if (s.socket k i).power = .masked then .masked else .off, 0, none, none⟩ := by
  obtain ⟨hslot, _⟩ := h
  have hsock : ∀ i : Socket, t.socket k i = (s.socket k i).zoneReset := fun i => by
    rw [State.socket, hslot]
    split
    · simpa [SlotCtl.zoneReset, SlotCtl.hardOff] using SocketPower.zoneReset_release _
    · simp [SlotCtl.zoneReset]
  rw [hslot]
  refine ⟨?_, ?_, ?_, rfl, rfl, rfl, rfl, rfl, rfl, rfl, rfl, hsock⟩ <;> split <;> rfl

/-- Settles O48: ZONE-RESET's work on the slots, the shared blocks it gives their reset values, and LOG's comparison. -/
theorem zoneResetReturnsTheZoneToIdle : Obligations.ZoneResetReturnsTheZoneToIdle := by
  intro s h
  refine ⟨fun hz => congrArg Host.Outcome.next (takeRequest_replied _ _ _ _ _ h (serveZoneReset_of_safe hz)),
    fun hz => ?_⟩
  have hserve := serveZoneReset_of_not_safe (s := received s) hz
  have hslots := forSlots_slotReset (received s)
  have hlink : (forSlots zoneResetSlot (received s)).link = (received s).link :=
    forSlots_keeps State.link _ (fun k t => by simp [zoneResetSlot]) _
  obtain ⟨upart, ulines, ustore, uclock, uret, _, uzone⟩ :=
    forSlots_sharedKept zoneResetSlot zoneResetSlot_slotFrame (received s)
  obtain ⟨ulog, uacct, _⟩ := forSlots_recordsKept zoneResetSlot zoneResetSlot_recordsKept (received s)
  generalize forSlots zoneResetSlot (received s) = u at *
  obtain ⟨hpart, hlines, hstore, hclock, hret, hl, hlog, hacct, hzone, hview⟩ := zoneResetShared_frame u
  obtain ⟨harmed, halert⟩ := logCompare_of_reset (s := zoneResetShared u) rfl rfl
  rw [hlog, ulog] at harmed halert
  generalize zoneResetShared u = w at *
  have ht := takeRequest_next 0x02 serveZoneReset s h (by rw [hserve]; simpa [answer, reply, hl] using hlink)
  rw [hserve] at ht
  have hz' : (logCompare w).zone = { s.zone.zoneReset with throttle := u.zone.throttle } := by
    have e : (logCompare w).zone = w.zone := by simp
    rw [e, hzone, uzone]
    rfl
  refine ⟨logCompare w, congrArg Host.Outcome.next ht, ?_⟩
  rw [hz']
  refine ⟨rfl, rfl, rfl, rfl, rfl, rfl, rfl, rfl, rfl, rfl, rfl, rfl, rfl, rfl, rfl, rfl, rfl, rfl, rfl, rfl, rfl, rfl,
    ?_, ?_, ?_, ?_, harmed, halert, ?_, ?_, ?_, ?_, ?_, ?_, fun k => ?_⟩
  · simp [hacct, uacct]
  · simp [hlog, ulog]
  · simp [hlog, ulog]
  · simp [hlog, ulog]
  · simp [hstore, ustore]
  · simp [hclock, uclock]
  · simp [hret, uret]
  · simp [hpart, upart]
  · simp [hlines, ulines]
  · simp [hl, hlink]
  · have hv : slotView k (logCompare w) = slotView k u := (slotView_eq.mpr (by simp)).trans (hview k)
    have hk : SlotReset k s (logCompare w) := (hslots k).of_slotView (slotView_eq.mpr (by simp)) hv
    obtain ⟨h1, h2, h3, h4, h5, h6, h7, h8, h9, h10, h11, h12⟩ := hk.fields
    obtain ⟨_, hidle, hactive, hpending, hclosing, hthrottle, hrecords⟩ := hk
    exact ⟨h1, h2, h3, h4, h5, h6, h7, h8, h9, h10, h11, h12, hidle, hactive, hpending, hclosing, hthrottle,
      fun i hr => by rw [hrecords hr, Table.get_fill]⟩

end Sys2Proof.Machine
end


section
/-!
PROOFS. The start of a commit (R17, R117, R147, R179 to R181): what it leaves of one slot and of the blocks that the slots
share.
-/

namespace Sys2Proof.Machine

open Safety

/-! ## One slot at a commit -/

/-- R17: the slot controller where the board is not powered or draining. -/
def SlotCtl.commit (c : SlotCtl) : SlotCtl :=
  if c.board = .ident then { c.forgetBoard with board := .empty } else c

/-- R17, R89, R99: what a commit leaves of slot `k` but for its scanner. -/
def SlotCommitted (k : Slot) (s t : State) : Prop :=
  ((s.slot k).board.live = true → (t.slot k).board = .present ∧ HardOff (t.slot k))
    ∧ ((s.slot k).board.live = false → t.slot k = { (s.slot k).commit with
        abandoned := (t.slot k).abandoned, applyDeferred := (t.slot k).applyDeferred })
    ∧ (t.channel k).state = .idle ∧ (t.compare k).closing = none

theorem SlotCommitted.of_slotView {k : Slot} {s s' t t' : State} (h : SlotCommitted k s t)
    (hs : slotView k s = slotView k s') (ht : slotView k t' = slotView k t) : SlotCommitted k s' t' := by
  obtain ⟨hs1, _⟩ := slotView_eq.mp hs
  obtain ⟨ht1, _, ht3, ht4, _⟩ := slotView_eq.mp ht
  rw [SlotCommitted, hs1] at h
  rw [SlotCommitted, ht1, ht3, ht4]
  exact h

theorem commitSlot_of_live {k : Slot} {s : State} (h : (s.slot k).board.live = true) :
    commitSlot k s = takeDown k .present true s := by
  obtain ⟨hboard, _⟩ := takeDown_spec k .present true s rfl
  simp [commitSlot, lockOut, h, hboard]

theorem commitSlot_of_not_live {k : Slot} {s : State} (h : (s.slot k).board.live = false) :
    commitSlot k s = s.setSlot k (s.slot k).commit := by
  have e : lockOut true k s = s := by simp [lockOut, h]
  rw [commitSlot, e]
  by_cases hb : (s.slot k).board = .ident <;> simp [SlotCtl.commit, hb]

theorem commitSlot_recordsKept (k : Slot) (s : State) : RecordsKept s (commitSlot k s) := by
  cases h : (s.slot k).board.live with
  | true => rw [commitSlot_of_live h]; exact (takeDown_quiet (noApply_cancel k s)).1
  | false => rw [commitSlot_of_not_live h]; exact ⟨rfl, rfl, rfl⟩

theorem commitBlocks_recordsKept (k : Slot) (s : State) : RecordsKept s (commitBlocks k s) := by
  obtain ⟨hrec, _⟩ := stopChannel_quiet (noApply_cancel k (commitSlot k s))
  exact ((commitSlot_recordsKept k s).trans hrec).trans ⟨rfl, rfl, rfl⟩

theorem commitBlocks_slot (k : Slot) (s : State) :
    (commitBlocks k s).slot k = (stopChannel k true (commitSlot k s)).slot k := by
  simp [commitBlocks]

theorem commitBlocks_committed (k : Slot) (s : State) : SlotCommitted k s (commitBlocks k s) := by
  refine ⟨fun h => ?_, fun h => ?_, ?_, ?_⟩
  · obtain ⟨hboard, hoff, _⟩ := takeDown_spec k .present true s rfl
    rw [commitBlocks_slot, commitSlot_of_live h]
    exact ⟨by simp [hboard], stopChannel_hardOff k true _ (by rw [hboard]; rfl) hoff⟩
  · obtain ⟨_, hslot⟩ := stopChannel_quiet (noApply_cancel k (commitSlot k s))
    rw [commitBlocks_slot, hslot, commitSlot_of_not_live h, State.setSlot_slot_same]
  · obtain ⟨hidle, _⟩ := stopChannel_channel k true (commitSlot k s)
    simp [commitBlocks, hidle]
  · simp [commitBlocks, dropClosing]

theorem forSlots_committed (s : State) (k : Slot) : SlotCommitted k s (forSlots commitBlocks s) := by
  obtain ⟨u, _, hu, ht⟩ := forSlots_slotView commitBlocks commitBlocks_slotFrame (fun _ => True)
    (fun _ _ _ => trivial) s trivial k
  exact (commitBlocks_committed k u).of_slotView hu ht

/-! ## The commit -/

/-- R117, R147, R180, R181: the blocks that the slots share at the start of a commit. -/
def commitShared (kept : Bool) (s : State) : State :=
  writeImage { s with scan := PerSlot.fill scannerStopped, zone := s.zone.commit, acct := s.acct.commit
                      link := s.link.commit, part := { s.part with phase := .commit, resetKept := kept } }

theorem commitStart_eq (kept : Bool) (s : State) : commitStart kept s = commitShared kept (forSlots commitBlocks s) := by
  rw [commitStart]
  rfl

theorem commitShared_frame (kept : Bool) (s : State) :
    (commitShared kept s).part = { s.part with phase := .commit, resetKept := kept }
      ∧ (commitShared kept s).lines = s.lines ∧ (commitShared kept s).store = s.store
      ∧ (commitShared kept s).ret = ⟨s.imageNow, none, s.ret.mark⟩ ∧ (commitShared kept s).acct = s.acct.commit
      ∧ (commitShared kept s).log = s.log ∧ (commitShared kept s).alert = s.alert
      ∧ (commitShared kept s).clock = s.clock ∧ (commitShared kept s).zone = s.zone.commit
      ∧ (commitShared kept s).link = s.link.commit
      ∧ ∀ k, (commitShared kept s).slot k = s.slot k ∧ (commitShared kept s).scanner k = scannerStopped
          ∧ (commitShared kept s).channel k = s.channel k ∧ (commitShared kept s).compare k = s.compare k :=
  ⟨rfl, rfl, rfl, rfl, rfl, rfl, rfl, rfl, rfl, rfl, fun k => ⟨rfl, PerSlot.get_fill _ k, rfl, rfl⟩⟩

/-- R179 to R181: what a commit started in state `s` leaves. -/
def Committed (kept : Bool) (s t : State) : Prop :=
  t.part = { s.part with phase := .commit, resetKept := kept } ∧ t.lines = s.lines ∧ t.store = s.store
    ∧ t.ret = ⟨s.imageNow, none, s.ret.mark⟩ ∧ t.acct = s.acct.commit ∧ t.log = s.log ∧ t.alert = s.alert
    ∧ t.clock = s.clock ∧ t.zone = { s.zone.commit with throttle := t.zone.throttle } ∧ t.link = s.link.commit
    ∧ ∀ k, SlotCommitted k s t ∧ t.scanner k = scannerStopped

theorem commitStart_committed (kept : Bool) (s : State) : Committed kept s (commitStart kept s) := by
  have hlink : (forSlots commitBlocks s).link = s.link := by
    refine forSlots_keeps State.link _ (fun k t => ?_) s
    cases h : (t.slot k).board.live with
    | true => simp [commitBlocks, commitSlot_of_live h]
    | false => simp [commitBlocks, commitSlot_of_not_live h]
  have hslots := forSlots_committed s
  obtain ⟨hpart, hlines, hstore, hclock, hret, _, hzone⟩ := forSlots_sharedKept commitBlocks commitBlocks_slotFrame s
  obtain ⟨hlog, hacct, halert⟩ := forSlots_recordsKept commitBlocks commitBlocks_recordsKept s
  rw [commitStart_eq]
  generalize forSlots commitBlocks s = u at *
  obtain ⟨cpart, clines, cstore, cret, cacct, clog, calert, cclock, czone, clink, cslots⟩ := commitShared_frame kept u
  generalize commitShared kept u = t at *
  refine ⟨by rw [cpart, hpart], clines.trans hlines, cstore.trans hstore, ?_, by rw [cacct, hacct], clog.trans hlog,
    calert.trans halert, cclock.trans hclock, ?_, by rw [clink, hlink], fun k => ?_⟩
  · rw [cret, State.imageNow, hacct, hlog, hret]
    rfl
  · rw [czone, hzone]
    rfl
  · obtain ⟨t1, t2, t3, t4⟩ := cslots k
    obtain ⟨h1, h2, h3, h4⟩ := hslots k
    exact ⟨⟨by rw [t1]; exact h1, by rw [t1]; exact h2, by rw [t3]; exact h3, by rw [t4]; exact h4⟩, t2⟩

/-- R17: the board states after a commit. -/
theorem SlotCommitted.board {k : Slot} {s t : State} (h : SlotCommitted k s t) :
    ((s.slot k).board.live = true → (t.slot k).board = .present ∧ HardOff (t.slot k))
      ∧ ((s.slot k).board = .ident → (t.slot k).board = .empty)
      ∧ ((s.slot k).board = .empty ∨ (s.slot k).board = .present → (t.slot k).board = (s.slot k).board) := by
  obtain ⟨hlive, hdown, _⟩ := h
  refine ⟨hlive, fun hb => ?_, fun hb => ?_⟩
  · rw [hdown (by rw [hb]; rfl)]
    simp [SlotCtl.commit, hb]
  · have hl : (s.slot k).board.live = false := by obtain hb | hb := hb <;> rw [hb] <;> rfl
    have hi : (s.slot k).board ≠ .ident := by obtain hb | hb := hb <;> rw [hb] <;> decide
    rw [hdown hl]
    simp [SlotCtl.commit, hi]

/-! ## Power and reset events -/

/-- R180, R186: a part that does not run takes no request. -/
theorem exec_request_of_not_running {i : Instr} {f : Frame} (h : requestFrame i = some f) {s : State}
    (hr : s.part.phase ≠ .running) : exec i s = .next s := by
  obtain e | ⟨kind, serve, _, e⟩ := exec_request i f h s
  · rw [e, whenRunning_of_not_running _ _ hr]
  · rw [e, takeRequest_off _ _ _ hr]

/-- R186, R188: a part that does not run ends the frame it sends, and begins no other. -/
theorem frameSent_of_not_running {s : State} (hr : s.part.phase ≠ .running) :
    (s.link.sending = none → frameSent s = s)
      ∧ ∀ f, s.link.sending = some f →
          frameSent s = { s with link := { s.link with sending := none, owed := s.link.owed && !f.isReply } } := by
  refine ⟨fun h => by simp [frameSent, h], fun f h => ?_⟩
  simp only [frameSent, h]
  exact whenRunning_of_not_running _ _ hr

theorem commitComplete_of_commit {s : State} (h : s.part.phase = .commit) :
    (s.part.resetKept = false ∨ s.lines.reset = true → commitComplete s =
        { s with ret := ⟨s.ret.image, some s.ret.image, true⟩, part.phase := .retained })
      ∧ (s.part.resetKept = true → s.lines.reset = false → commitComplete s =
        blank .checking { s with ret := ⟨s.ret.image, some s.ret.image, true⟩ }) := by
  refine ⟨fun hk => ?_, fun hk hl => ?_⟩
  · have hn : ¬ (s.part.resetKept = true ∧ s.lines.reset = false) := by
      obtain hk | hk := hk <;> simp [hk]
    simp [commitComplete, h, hn]
  · simp [commitComplete, h, hk, hl, start, blank]

/-- Settles O51: the commits by what `commitStart` leaves, and each other event by its rule in each phase. -/
theorem commitRetainsTheAccounts : Obligations.CommitRetainsTheAccounts := by
  intro s fresh committed
  have hcommitted : ∀ kept lines, committed kept lines (commitStart kept { s with lines := lines }) := by
    intro kept lines
    obtain ⟨hpart, hlines, _, hret, hacct, hlog, halert, hclock, hzone, hlink, hslots⟩ :=
      commitStart_committed kept { s with lines := lines }
    generalize commitStart kept { s with lines := lines } = t at *
    refine ⟨hpart, hlines, hret, ?_, hlog, halert, hclock, ?_, ?_, ?_, ?_, hlink, ?_, ?_, ?_, fun k => ?_⟩
    · rw [hacct]; rfl
    · rw [hzone]; rfl
    · rw [hzone]; rfl
    · rw [hzone]; rfl
    · rw [hzone]; rfl
    · rw [hzone]; rfl
    · rw [hacct]; rfl
    · rw [hacct]; rfl
    · obtain ⟨hk, hscan⟩ := hslots k
      obtain ⟨hlive, hident, hsame⟩ := hk.board
      obtain ⟨_, _, hidle, hclosing⟩ := hk
      exact ⟨hlive, hident, hsame, hidle, hscan, hclosing⟩
  clear_value committed
  refine ⟨fun hr => ⟨⟨_, ?_, hcommitted false _⟩, ⟨_, ?_, hcommitted true _⟩⟩, rfl, fun hc => ⟨?_, ?_⟩,
    fun hc => ⟨?_, fun hk => ?_, fun hk hl => ?_⟩, fun hc => ?_, fun hl hp => ?_, fun hl => ?_, fun b => rfl, rfl, rfl,
    fun hr => ⟨fun i f h => exec_request_of_not_running h hr, fun b stop => ?_, ?_, ?_, ?_, fun h => ?_,
      fun f h => ?_⟩⟩ <;> refine congrArg Host.Outcome.next ?_
  · simp [powerFail, hr]
  · simp [resetAsserted, hr]
  · simp [powerFail, hc]
  · simp [resetAsserted, hc]
  · simp [resetAsserted, hc]
  · exact (commitComplete_of_commit hc).1 hk
  · exact (commitComplete_of_commit hc).2 hk hl
  · exact if_neg hc
  · obtain hp | hp := hp <;> simp [hl, resetReleased, hp, start, blank, fresh]
  · simp [hl]
  · exact whenRunning_of_not_running _ _ hr
  · exact whenRunning_of_not_running _ _ hr
  · exact whenRunning_of_not_running _ _ hr
  · exact whenRunning_of_not_running _ _ hr
  · exact (frameSent_of_not_running hr).1 h
  · exact (frameSent_of_not_running hr).2 f h

end Sys2Proof.Machine
end


section
/-!
PROOFS. The retention check (R15, R143, R153, R156, R159, R179 to R181, R183, R184): its outcome, the start of the running
part, and the commit that a POWER-FAIL# seen starts.
-/

namespace Sys2Proof.Machine

open Safety

/-! ## The comparison of LOG -/

/-- R155: the comparison disarms an armed log at its mark. -/
theorem logCompare_armed (s : State) :
    (logCompare s).log.armed = (s.log.armed && decide (s.log.entries.length < 192)) := by
  by_cases h : s.log.entries.length < 192
  · simp [logCompare, Config.logMark, h, Nat.not_le.mpr h]
  · cases ha : s.log.armed <;> simp [logCompare, Config.logMark, h, Nat.not_lt.mp h, ha]

theorem logCompare_raises {s : State} (ha : s.log.armed = true) (h : 192 ≤ s.log.entries.length) :
    (logCompare s).alert.raised.getLsbD 6 = true := by
  have e : logCompare s = raiseSource .log { s with log.armed := false } := by
    simp [logCompare, ha, Config.logMark, h]
  rw [e, raiseSource_alert]
  simp [sourceBit, Source.number]

/-! ## The outcome of the check -/

theorem FailLog.push_of_lt {l : FailLog} (e : LogEntry) (h : l.entries.length < 256) :
    l.push e = { l with entries := l.entries ++ [e] } :=
  if_neg (Nat.not_le.mpr h)

theorem FailLog.push_of_full {l : FailLog} (e : LogEntry) (h : ¬ l.entries.length < 256) :
    l.push e = { l with entries := l.entries.drop 1 ++ [e], discarded := satInc 65535 l.discarded } :=
  if_pos (Nat.not_lt.mp h)

/-- R183: the stored checksum is that of the image. -/
theorem Retention.valid_iff (r : Retention) :
    r.valid = true ↔ r.mark = true ∧ ∃ i, r.checksum = some i ∧ imageCrc i = imageCrc r.image := by
  rw [Retention.valid, Bool.and_eq_true, Retention.matches]
  cases h : r.checksum with
  | none => simp
  | some i =>
    have hcrc : i = r.image ∨ imageCrc i = imageCrc r.image ↔ imageCrc i = imageCrc r.image :=
      or_iff_right_of_imp (congrArg imageCrc)
    simp [hcrc]

/-- R143: INTERRUPTED is set on the records of a tagged set. -/
theorem AcctSet.interrupt_tag (a : AcctSet) : a.interrupt.tag = a.tag := by
  unfold AcctSet.interrupt
  split <;> rfl

theorem AcctSet.interrupt_recs (a : AcctSet) (i : Socket) :
    a.interrupt.recs.get i = { a.recs.get i with interrupted := (a.recs.get i).interrupted || a.tag.isSome } := by
  cases h : a.tag.isSome <;> simp [AcctSet.interrupt, h]

/-- An entry that names no slot, appended to an armed log. -/
theorem appendZone_log (c : LogCause) (d : List Byte) (s : State) :
    ∃ e, (appendZone c d s).log.entries = (s.log.push e).entries
      ∧ (appendZone c d s).log.discarded = (s.log.push e).discarded
      ∧ (appendZone c d s).log.epoch = s.log.epoch
      ∧ (appendZone c d s).log.armed = (s.log.armed && decide ((appendZone c d s).log.entries.length < 192))
      ∧ e.cause = c ∧ e.slot = none ∧ e.socket = none ∧ e.epoch = s.log.epoch ∧ e.detail = d
      ∧ (s.log.armed = true → 192 ≤ (appendZone c d s).log.entries.length →
          (appendZone c d s).alert.raised.getLsbD 6 = true) := by
  let e := entryNow s none none c d
  let u : State := { s with log := s.log.push e }
  have hu : appendZone c d s = logCompare u := rfl
  have harm : u.log.armed = s.log.armed := by
    simp only [u, FailLog.push]
    split <;> rfl
  have hepoch : u.log.epoch = s.log.epoch := by
    simp only [u, FailLog.push]
    split <;> rfl
  refine ⟨e, ?_, ?_, ?_, ?_, rfl, rfl, rfl, rfl, rfl, fun ha h => ?_⟩
  · simp [hu, u]
  · simp [hu, u]
  · simp [hu, hepoch]
  · rw [hu, logCompare_armed, harm]
    simp
  · rw [hu] at h ⊢
    exact logCompare_raises (by rw [harm, ha]) (by simpa using h)

theorem checkOutcome_frame (s : State) :
    (checkOutcome s).part = s.part ∧ (checkOutcome s).lines = s.lines ∧ (checkOutcome s).slots = s.slots
      ∧ (checkOutcome s).scan = s.scan ∧ (checkOutcome s).store = s.store
      ∧ (checkOutcome s).ret = ⟨s.ret.image, none, s.ret.mark⟩ := by
  unfold checkOutcome
  dsimp only
  split <;> simp [appendZone, restoreImage, loseImage]

/-- R156, R183: the end of the check, after its entry. -/
def closeCheck (s : State) : State := { logCompare s with ret := { (logCompare s).ret with checksum := none } }

/-- The check's entry, appended to the log that the outcome leaves, and the comparison after it. -/
theorem closeCheck_blocks (c : LogCause) (d : List Byte) (u : State) (ha : u.log.armed = true) :
    let t := closeCheck (appendZone c d u)
    t.clock = u.clock ∧ t.acct = u.acct ∧ t.log.epoch = u.log.epoch
      ∧ (∃ e, t.log.entries = (u.log.push e).entries ∧ t.log.discarded = (u.log.push e).discarded ∧ e.cause = c
          ∧ e.slot = none ∧ e.socket = none ∧ e.epoch = u.log.epoch ∧ e.detail = d)
      ∧ t.log.armed = decide (t.log.entries.length < 192)
      ∧ (192 ≤ t.log.entries.length → t.alert.raised.getLsbD 6 = true) := by
  obtain ⟨e, hentries, hdisc, hepoch, harmed, hcause, hslot, hsocket, heepoch, hdetail, hraised⟩ := appendZone_log c d u
  refine ⟨by simp [closeCheck, appendZone], by simp [closeCheck, appendZone], by simp [closeCheck, hepoch],
    ⟨e, by simp [closeCheck, hentries], by simp [closeCheck, hdisc], hcause, hslot, hsocket, heepoch, hdetail⟩, ?_,
    fun hl => ?_⟩
  · simp only [closeCheck, logCompare_armed, logCompare_entries, harmed, ha, Bool.true_and, Bool.and_self]
  · exact logCompare_raised _ _ (hraised ha (by simpa [closeCheck] using hl))

theorem checkOutcome_valid_eq {s : State} (h : s.ret.valid = true) :
    checkOutcome s = closeCheck
      (appendZone .powerRestored (u16 s.ret.image.entries.length) (restoreImage s.ret.image s)) := by
  rw [checkOutcome, if_pos h]
  rfl

theorem checkOutcome_lost_eq {s : State} (h : ¬ s.ret.valid = true) :
    checkOutcome s = closeCheck (appendZone .retentionLost [] (loseImage s)) := by
  rw [checkOutcome, if_neg h]
  rfl

/-- R143, R153, R156, R183: a VALID check. -/
theorem checkOutcome_of_valid {s : State} (h : s.ret.valid = true) :
    (checkOutcome s).clock.outcome = .valid ∧ (checkOutcome s).log.epoch = (s.ret.image.epoch + 1) % 256
      ∧ (∃ e, (checkOutcome s).log.entries
            = (if s.ret.image.entries.length < 256 then s.ret.image.entries else s.ret.image.entries.drop 1) ++ [e]
          ∧ e.cause = .powerRestored ∧ e.slot = none ∧ e.socket = none ∧ e.epoch = (checkOutcome s).log.epoch
          ∧ e.detail = u16 s.ret.image.entries.length)
      ∧ (checkOutcome s).log.discarded = (if s.ret.image.entries.length < 256 then s.ret.image.discarded
          else satInc 65535 s.ret.image.discarded)
      ∧ (checkOutcome s).log.armed = decide ((checkOutcome s).log.entries.length < 192)
      ∧ (192 ≤ (checkOutcome s).log.entries.length → (checkOutcome s).alert.raised.getLsbD 6 = true)
      ∧ (checkOutcome s).acct.sets = s.ret.image.sets.map AcctSet.interrupt := by
  rw [checkOutcome_valid_eq h]
  obtain ⟨hclock, hacct, hepoch, ⟨e, hentries, hdisc, hcause, hslot, hsocket, heepoch, hdetail⟩, harmed, hraised⟩ :=
    closeCheck_blocks .powerRestored (u16 s.ret.image.entries.length) (restoreImage s.ret.image s) rfl
  have hentries' : ((restoreImage s.ret.image s).log.push e).entries
      = (if s.ret.image.entries.length < 256 then s.ret.image.entries else s.ret.image.entries.drop 1) ++ [e] := by
    by_cases hl : s.ret.image.entries.length < 256
    · rw [FailLog.push_of_lt e hl, if_pos hl]; rfl
    · rw [FailLog.push_of_full e hl, if_neg hl]; rfl
  have hdisc' : ((restoreImage s.ret.image s).log.push e).discarded
      = (if s.ret.image.entries.length < 256 then s.ret.image.discarded
          else satInc 65535 s.ret.image.discarded) := by
    by_cases hl : s.ret.image.entries.length < 256
    · rw [FailLog.push_of_lt e hl, if_pos hl]; rfl
    · rw [FailLog.push_of_full e hl, if_neg hl]; rfl
  exact ⟨by rw [hclock]; rfl, hepoch, ⟨e, hentries.trans hentries', hcause, hslot, hsocket, heepoch.trans hepoch.symm,
    hdetail⟩, hdisc.trans hdisc', harmed, hraised, by rw [hacct]; rfl⟩

/-- R159, R183: a LOST check. -/
theorem checkOutcome_of_lost {s : State} (h : ¬ s.ret.valid = true) :
    (checkOutcome s).clock.outcome = .lost ∧ (checkOutcome s).log.epoch = 1 ∧ (checkOutcome s).log.discarded = 0
      ∧ (checkOutcome s).log.armed = true
      ∧ (∃ e, (checkOutcome s).log.entries = [e] ∧ e.cause = .retentionLost ∧ e.slot = none ∧ e.socket = none
          ∧ e.epoch = 1 ∧ e.detail = [])
      ∧ (checkOutcome s).acct.sets = PerSlot.fill Config.blankSet := by
  rw [checkOutcome_lost_eq h]
  obtain ⟨hclock, hacct, hepoch, ⟨e, hentries, hdisc, hcause, hslot, hsocket, heepoch, hdetail⟩, harmed, _⟩ :=
    closeCheck_blocks .retentionLost [] (loseImage s) rfl
  have hentries' : (closeCheck (appendZone .retentionLost [] (loseImage s))).log.entries = [e] := hentries
  exact ⟨by rw [hclock]; rfl, hepoch, hdisc, by rw [harmed, hentries']; rfl,
    ⟨e, hentries', hcause, hslot, hsocket, heepoch, hdetail⟩, by rw [hacct]; rfl⟩

/-! ## The start of the running part -/

theorem startScanner_running (k : Slot) (s : State) : ((startScanner k s).scanner k).running = true := by
  have begun (u : State) : ((beginSet k u).scanner k).running = (u.scanner k).running := by
    unfold beginSet
    dsimp only
    split
    · split <;> simp
    · rfl
  simp [startScanner, chooseNext, beginConversion, beginRound, begun]

/-- R15, R184: what the start of the running part leaves of slot `k`. -/
def SlotFound (k : Slot) (s t : State) : Prop :=
  (s.lines.present.get k = true →
      t.slot k = { (s.slot k).clearEvents with board := .ident, identLimit := some 50 }
        ∧ (t.scanner k).running = true)
    ∧ (s.lines.present.get k = false → t.slot k = s.slot k ∧ t.scanner k = s.scanner k)

theorem findBoard_of_present {k : Slot} {s : State} (h : s.lines.present.get k = true) : findBoard k s = enterIdent k s :=
  if_pos h

theorem findBoard_of_absent {k : Slot} {s : State} (h : s.lines.present.get k = false) : findBoard k s = s := by
  simp [findBoard, h]

theorem findBoard_slotFrame (k : Slot) (s : State) : SlotFrame k s (findBoard k s) := by
  unfold findBoard
  split
  · exact enterIdent_slotFrame k s
  · exact SlotFrame.refl k s

theorem findBoard_found (k : Slot) (s : State) : SlotFound k s (findBoard k s) := by
  refine ⟨fun h => ?_, fun h => ?_⟩
  · rw [findBoard_of_present h, enterIdent]
    exact ⟨by simp [Config.identLimit], startScanner_running _ _⟩
  · rw [findBoard_of_absent h]
    exact ⟨rfl, rfl⟩

theorem findBoard_recordsKept (k : Slot) (s : State) : RecordsKept s (findBoard k s) := by
  unfold findBoard
  split
  · exact ⟨by simp, by simp, by simp⟩
  · exact .refl s

theorem findBoard_frame (k : Slot) (s : State) : (findBoard k s).lines = s.lines ∧ (findBoard k s).link = s.link := by
  unfold findBoard
  split <;> simp

theorem forSlots_found (s : State) (k : Slot) : SlotFound k s (forSlots findBoard s) := by
  obtain ⟨u, hl, hu, ht⟩ := forSlots_slotView findBoard findBoard_slotFrame (fun u => u.lines = s.lines)
    (fun k u h => (findBoard_frame k u).1.trans h) s rfl k
  have h := findBoard_found k u
  obtain ⟨hu1, hu2, _⟩ := slotView_eq.mp hu
  obtain ⟨ht1, ht2, _⟩ := slotView_eq.mp ht
  rw [SlotFound, hl, hu1, hu2] at h
  rw [SlotFound, ht1, ht2]
  exact h

/-- R184: the blocks that the slots share at the start of the running part. -/
def runningShared (s : State) : State :=
  { s with part.phase := .running, clock.msCount := 0, clock.runSeconds := 0, zone.interval := some 1
           acct.interval := some 1, acct.holdover := decide (s.clock.live = .holdover), link := linkReset }

theorem runningStart_eq (s : State) : runningStart s = forSlots findBoard (runningShared s) := by
  rw [runningStart]
  rfl

/-- R15, R184: what the start of the running part leaves. -/
def Started (s t : State) : Prop :=
  t.part = { s.part with phase := .running } ∧ t.lines = s.lines ∧ t.store = s.store
    ∧ t.clock = { s.clock with msCount := 0, runSeconds := 0 } ∧ t.ret = s.ret ∧ t.log = s.log ∧ t.alert = s.alert
    ∧ t.acct.sets = s.acct.sets ∧ t.acct.interval = some 1 ∧ t.zone.interval = some 1 ∧ t.link = linkReset
    ∧ ∀ k, SlotFound k s t

theorem runningStart_started (s : State) : Started s (runningStart s) := by
  have hlink : (forSlots findBoard (runningShared s)).link = linkReset :=
    forSlots_keeps State.link findBoard (fun k t => (findBoard_frame k t).2) (runningShared s)
  have hslots := forSlots_found (runningShared s)
  obtain ⟨hpart, hlines, hstore, hclock, hret, _, hzone⟩ :=
    forSlots_sharedKept findBoard findBoard_slotFrame (runningShared s)
  obtain ⟨hlog, hacct, halert⟩ := forSlots_recordsKept findBoard findBoard_recordsKept (runningShared s)
  rw [runningStart_eq]
  generalize forSlots findBoard (runningShared s) = t at *
  exact ⟨hpart, hlines, hstore, hclock, hret, hlog, halert, by rw [hacct]; rfl, by rw [hacct]; rfl, by rw [hzone]; rfl,
    hlink, hslots⟩

/-! ## The end of the check -/

theorem retentionCheckEnd_of_seen {s : State} (h : s.part.phase = .checking)
    (hf : s.part.failSeen = true ∨ s.lines.powerFail = true) :
    retentionCheckEnd s = commitStart false (runningStart (checkOutcome s)) := by
  rw [retentionCheckEnd, if_pos h]
  exact if_pos (by simpa using hf)

theorem retentionCheckEnd_of_not_seen {s : State} (h : s.part.phase = .checking)
    (hf : ¬ (s.part.failSeen = true ∨ s.lines.powerFail = true)) :
    retentionCheckEnd s = runningStart (checkOutcome s) := by
  rw [retentionCheckEnd, if_pos h]
  exact if_neg (by simpa using hf)

/-- What the check has restored stays, whether the part runs or commits at once. -/
theorem retentionCheckEnd_restored {s : State} (h : s.part.phase = .checking) :
    (retentionCheckEnd s).clock = { (checkOutcome s).clock with msCount := 0, runSeconds := 0 }
      ∧ (retentionCheckEnd s).log = (checkOutcome s).log ∧ (retentionCheckEnd s).alert = (checkOutcome s).alert
      ∧ (retentionCheckEnd s).acct.sets = (checkOutcome s).acct.sets ∧ (retentionCheckEnd s).lines = s.lines
      ∧ (retentionCheckEnd s).store = s.store ∧ (retentionCheckEnd s).link = linkReset
      ∧ (retentionCheckEnd s).part.failSeen = s.part.failSeen := by
  obtain ⟨cpart, clines, _, _, cstore, _⟩ := checkOutcome_frame s
  obtain ⟨rpart, rlines, rstore, rclock, _, rlog, ralert, rsets, _, _, rlink, _⟩ := runningStart_started (checkOutcome s)
  by_cases hf : s.part.failSeen = true ∨ s.lines.powerFail = true
  · rw [retentionCheckEnd_of_seen h hf]
    obtain ⟨tpart, tlines, tstore, _, tacct, tlog, talert, tclock, _, tlink, _⟩ :=
      commitStart_committed false (runningStart (checkOutcome s))
    refine ⟨tclock.trans rclock, tlog.trans rlog, talert.trans ralert, ?_, (tlines.trans rlines).trans clines,
      (tstore.trans rstore).trans cstore, ?_, ?_⟩
    · rw [tacct]; exact rsets
    · rw [tlink, rlink]; rfl
    · rw [tpart, rpart, cpart]
  · rw [retentionCheckEnd_of_not_seen h hf]
    exact ⟨rclock, rlog, ralert, rsets, rlines.trans clines, rstore.trans cstore, rlink, by rw [rpart, cpart]⟩

/-- R15, R17: a slot whose board is found by the check and lost to the commit of the same step. -/
theorem SlotCommitted.of_found {k : Slot} {s r t : State} (ht : SlotCommitted k r t) (hr : SlotFound k s r) :
    (s.lines.present.get k = true ∨ (s.slot k).board = .empty → (t.slot k).board = .empty)
      ∧ (s.lines.present.get k = true → (t.slot k).railTrip = false ∧ (t.slot k).socketTrip = false
          ∧ (t.slot k).burstDone = false ∧ (t.slot k).applyDone = false) := by
  obtain ⟨hfound, habsent⟩ := hr
  obtain ⟨_, hident, hsame⟩ := ht.board
  obtain ⟨_, hdown, _⟩ := ht
  have present (hp : s.lines.present.get k = true) : (r.slot k).board = .ident := by rw [(hfound hp).1]
  refine ⟨fun h => ?_, fun hp => ?_⟩
  · by_cases hp : s.lines.present.get k = true
    · exact hident (present hp)
    · have hb : (r.slot k).board = .empty := by
        rw [(habsent (Bool.eq_false_iff.mpr hp)).1]
        exact h.resolve_left hp
      rw [hsame (.inl hb), hb]
  · have hb := present hp
    rw [hdown (by rw [hb]; rfl), SlotCtl.commit, if_pos hb, (hfound hp).1]
    exact ⟨rfl, rfl, rfl, rfl⟩

/-- Settles O52: the outcome of the check, the start of the running part and, for a POWER-FAIL# seen, the commit. -/
theorem retentionCheckRestoresOrLoses : Obligations.RetentionCheckRestoresOrLoses := by
  intro s h m valid commits
  have hvalid : s.ret.valid = true ↔ valid := s.ret.valid_iff
  obtain ⟨hclock, hlog, halert, hsets, hlines, hstore, hlink, hseen⟩ := retentionCheckEnd_restored h
  obtain ⟨cpart, clines, cslots, cscan, _, cret⟩ := checkOutcome_frame s
  obtain ⟨rpart, rlines, _, _, rret, _, _, _, rinterval, rzone, _, rslots⟩ := runningStart_started (checkOutcome s)
  have hfound : ∀ k, SlotFound k s (runningStart (checkOutcome s)) := fun k => by
    have hslot : (checkOutcome s).slot k = s.slot k := by rw [State.slot, cslots]; rfl
    have hscan : (checkOutcome s).scanner k = s.scanner k := by rw [State.scanner, cscan]; rfl
    have hk := rslots k
    rw [SlotFound, clines, hslot, hscan] at hk
    exact hk
  refine ⟨retentionCheckEnd s, congrArg Host.Outcome.next rfl, hlines, hstore, by rw [hclock], by rw [hclock], hlink,
    hseen, fun hc => ?_, fun hc => ?_, fun hv => ?_, fun hv => ?_⟩
  · rw [retentionCheckEnd_of_not_seen h hc]
    refine ⟨by rw [rpart, cpart], rret.trans cret, rzone, rinterval, fun k => ?_⟩
    obtain ⟨hpresent, habsent⟩ := hfound k
    refine ⟨fun hp => ?_, habsent⟩
    obtain ⟨hslot, hrun⟩ := hpresent hp
    rw [hslot]
    exact ⟨rfl, rfl, hrun⟩
  · rw [retentionCheckEnd_of_seen h hc]
    obtain ⟨tpart, _, _, tret, tacct, tlog, _, _, tzone, _, tslots⟩ :=
      commitStart_committed false (runningStart (checkOutcome s))
    refine ⟨by rw [tpart], by rw [tpart], ?_, by rw [tzone]; rfl, by rw [tzone]; rfl, by rw [tzone]; rfl,
      by rw [tzone]; rfl, by rw [tacct]; rfl, by rw [tacct]; rfl, fun k => ?_⟩
    · rw [tret, tacct, tlog, rret, cret]
      rfl
    · obtain ⟨hk, hscan⟩ := tslots k
      obtain ⟨hempty, hflags⟩ := hk.of_found (hfound k)
      obtain ⟨_, _, hidle, hclosing⟩ := hk
      exact ⟨hscan, hidle, hclosing, hempty, hflags⟩
  · obtain ⟨houtcome, hepoch, hentries, hdisc, harmed, hraised, hrestored⟩ := checkOutcome_of_valid (hvalid.mpr hv)
    rw [hclock, hlog, halert]
    refine ⟨houtcome, hepoch, hentries, hdisc, harmed, hraised, fun k => ?_⟩
    have hset : (retentionCheckEnd s).acct.sets.get k = (m.sets.get k).interrupt := by
      rw [hsets, hrestored, PerSlot.get_map]
    refine ⟨by rw [hset, AcctSet.interrupt_tag], fun i => ?_⟩
    rw [State.record, hset, AcctSet.interrupt_recs]
  · obtain ⟨houtcome, hepoch, hdisc, harmed, hentries, hblank⟩ :=
      checkOutcome_of_lost (fun hval => hv (hvalid.mp hval))
    rw [hclock, hlog]
    refine ⟨houtcome, hepoch, hdisc, harmed, hentries, fun k i => ?_⟩
    have hset : (retentionCheckEnd s).acct.sets.get k = Config.blankSet := by
      rw [hsets, hblank, PerSlot.get_fill]
    refine ⟨by rw [hset]; rfl, ?_⟩
    rw [State.record, hset]
    exact Table.get_fill _ i

end Sys2Proof.Machine
end


section
/-!
PROOFS. `StrikesLegal` (R18, R29, R33, R37, R41), said of one slot controller at a time, and that the operations of the slots keep
it.
-/

namespace Sys2Proof.Machine

open Safety

/-! ## The property of one slot -/

/-- R29: a strike count within a limit; as many strikes as the limit are those of a QUARANTINED socket. -/
def SocketPower.WithinLimit (limit : Nat) (p : SocketPower) : Prop :=
  p.strikes ≤ limit ∧ (p.strikes = limit → p.power = .quarantined)

/-- R18, R29: the strike limits and the strike counts of a slot. -/
def SlotCtl.StrikesWithin (c : SlotCtl) : Prop :=
  1 ≤ c.active.strikeLimit ∧ 1 ≤ c.staged.strikeLimit
    ∧ ∀ i : Socket, (c.sockets.get i).WithinLimit c.active.strikeLimit

/-- R18, R29: every slot within its strike limits. -/
def StrikesBounded (s : State) : Prop := ∀ k, (s.slot k).StrikesWithin

theorem strikesLegal_iff (s : State) : StrikesLegal s ↔ StrikesBounded s := by
  simp only [StrikesLegal, StrikesBounded, SlotCtl.StrikesWithin, SocketPower.WithinLimit, Slot.mem_all, true_imp_iff,
    State.get_sockets]

/-- A socket that keeps its strikes, and is not released from QUARANTINED. -/
theorem SocketPower.WithinLimit.repower {n : Nat} {p q : SocketPower} (h : p.WithinLimit n)
    (hs : q.strikes = p.strikes) (hp : p.power = .quarantined → q.power = .quarantined) : q.WithinLimit n := by
  obtain ⟨hle, hq⟩ := h
  exact ⟨hs ▸ hle, fun e => hp (hq (hs ▸ e))⟩

/-- R18: the limit is at least 1, so a socket with no strike is within it. -/
theorem SocketPower.withinLimit_of_none {n : Nat} {p : SocketPower} (hn : 1 ≤ n) (h : p.strikes = 0) :
    p.WithinLimit n :=
  ⟨by omega, fun e => by omega⟩

theorem SocketPower.WithinLimit.release {n : Nat} {p : SocketPower} (h : p.WithinLimit n) :
    p.release.WithinLimit n := by
  unfold SocketPower.release
  split
  · next hp => exact h.repower rfl (by simp [hp])
  · next hp => exact h.repower rfl (by simp [hp])
  all_goals exact h

/-- Limits and sockets as before. -/
theorem SlotCtl.StrikesWithin.of_same {c d : SlotCtl} (h : c.StrikesWithin)
    (ha : d.active.strikeLimit = c.active.strikeLimit) (hg : d.staged.strikeLimit = c.staged.strikeLimit)
    (hk : d.sockets = c.sockets) : d.StrikesWithin := by
  obtain ⟨h1, h2, h3⟩ := h
  exact ⟨by omega, by omega, fun i => by rw [ha, hk]; exact h3 i⟩

/-- Limits as before, and every socket within them. -/
theorem SlotCtl.StrikesWithin.of_sockets {c d : SlotCtl} (h : c.StrikesWithin)
    (ha : d.active.strikeLimit = c.active.strikeLimit) (hg : d.staged.strikeLimit = c.staged.strikeLimit)
    (hk : ∀ i : Socket, (c.sockets.get i).WithinLimit c.active.strikeLimit →
      (d.sockets.get i).WithinLimit c.active.strikeLimit) : d.StrikesWithin := by
  obtain ⟨h1, h2, h3⟩ := h
  exact ⟨by omega, by omega, fun i => by rw [ha]; exact hk i (h3 i)⟩

/-! ## Updates of the state -/

/-- A change that leaves the slot controllers. -/
theorem strikesBounded_of_slots {s t : State} (hs : StrikesBounded s) (h : t.slots = s.slots) : StrikesBounded t := by
  intro k
  unfold State.slot
  rw [h]
  exact hs k

theorem setSlot_strikesBounded {k : Slot} {s : State} {c : SlotCtl} (hs : StrikesBounded s) (hc : c.StrikesWithin) :
    StrikesBounded (s.setSlot k c) := by
  intro j
  rw [State.setSlot_slot]
  split
  · exact hc
  · exact hs j

theorem setSocket_strikesBounded {k : Slot} {i : Socket} {s : State} {p : SocketPower} (hs : StrikesBounded s)
    (hp : p.WithinLimit (s.slot k).active.strikeLimit) : StrikesBounded (s.setSocket k i p) := by
  refine setSlot_strikesBounded hs ((hs k).of_sockets rfl rfl fun n hn => ?_)
  rw [Table.get_set]
  split
  · exact hp
  · exact hn

/-- A socket that is not QUARANTINED, or stays so, takes a power state. -/
theorem setPower_strikesBounded {k : Slot} {i : Socket} {p : PowerState} {t : Timer} {s : State} (hs : StrikesBounded s)
    (hp : (s.socket k i).power = .quarantined → p = .quarantined) : StrikesBounded (setPower k i p t s) := by
  obtain ⟨_, _, h3⟩ := hs k
  have h1 (o : Option Nat) : StrikesBounded (s.setSocket k i ⟨p, (s.socket k i).strikes, o, t⟩) :=
    setSocket_strikesBounded hs ((h3 i).repower rfl hp)
  unfold setPower
  dsimp only
  split
  · exact h1 _
  · exact strikesBounded_of_slots (h1 _) rfl

theorem appendEntry_strikesBounded {a : Option Slot} {i : Option Socket} {c : LogCause} {d : List Byte} {s : State}
    (hs : StrikesBounded s) : StrikesBounded (appendEntry a i c d s) :=
  strikesBounded_of_slots hs (by simp)

theorem forSockets_strikesBounded {f : Socket → State → State} (h : ∀ i u, StrikesBounded u → StrikesBounded (f i u))
    (l : List Socket) {s : State} (hs : StrikesBounded s) : StrikesBounded (forSockets l f s) :=
  forSockets_invariant _ f h l s hs

/-! ## Reports and trips -/

theorem dropNotice_strikesBounded {k : Slot} {i : Socket} {s : State} (hs : StrikesBounded s) :
    StrikesBounded (dropNotice k i s) := by
  unfold dropNotice
  split
  · next hp => exact setPower_strikesBounded hs (by simp [hp])
  · next hp => exact setPower_strikesBounded hs (by simp [hp])
  all_goals exact hs

theorem reportFailure_strikesBounded {k : Slot} {i : Socket} {c : FailCause} {d : List Byte} {s : State}
    (hs : StrikesBounded s) : StrikesBounded (reportFailure k i c d s) := by
  have h1 : StrikesBounded (logFailure k i c d (s.setRecord k i ((s.record k i).countReport c))) :=
    strikesBounded_of_slots hs (by simp)
  unfold reportFailure
  obtain ⟨_, e⟩ | ⟨_, r, _, ⟨_, e⟩ | ⟨_, e⟩⟩ :=
    turnFailed_cases k i c d (logFailure k i c d (s.setRecord k i ((s.record k i).countReport c))) <;> rw [e]
  · exact h1
  · exact dropNotice_strikesBounded (strikesBounded_of_slots h1 rfl)
  · exact strikesBounded_of_slots h1 rfl

/-- R139: bursts and the scanner reach the slot controller by reports alone. -/
theorem Reporting.strikesBounded {k : Slot} {s t : State} (h : Reporting k s t) (hs : StrikesBounded s) :
    StrikesBounded t := by
  induction h with
  | refl => exact hs
  | report i c d _ ih => exact reportFailure_strikesBounded ih
  | scanner _ _ ih | channel _ _ ih | compare _ _ ih | throttle _ _ ih | raise _ _ ih =>
    exact strikesBounded_of_slots ih rfl

/-- R33: a trip gives an ON socket, which has fewer strikes than the limit, one more, and quarantines it where they then
reach the limit. -/
theorem tripSocket_strikesBounded {k : Slot} {i : Socket} {c : LogCause} {d : List Byte} {s : State}
    (hs : StrikesBounded s) : StrikesBounded (tripSocket k i c d s) := by
  by_cases hp : (s.socket k i).power = .on
  · obtain ⟨q, s2, s4, hq, h2, h4, h5⟩ := tripSocket_of_on k i c d s hp
    obtain ⟨_, _, h3⟩ := hs k
    have hlt : (s.socket k i).strikes < (s.slot k).active.strikeLimit := by
      obtain ⟨hle, heq⟩ := h3 i
      refine lt_of_le_of_ne hle fun e => ?_
      rw [State.get_sockets] at heq
      exact absurd (heq e) (by simp [hp])
    have hw (t : Timer) : SocketPower.WithinLimit (s.slot k).active.strikeLimit
        ⟨if q then .quarantined else .tripWait, (s.socket k i).strikes + 1, none, t⟩ :=
      ⟨hlt, fun e => by rw [hq, decide_eq_true e]; rfl⟩
    have l2 : StrikesBounded s2 := by
      refine strikesBounded_of_slots (setSocket_strikesBounded (i := i) hs (hw (if q then none else
        some (s.slot k).active.retryDelay))) ?_
      rw [h2]
      cases q <;> simp [setPower, State.setSocket, State.setCompare, State.setSlot]
    have l4 : StrikesBounded s4 := by
      rw [h4]
      exact appendEntry_strikesBounded (strikesBounded_of_slots l2 rfl)
    have l5 : StrikesBounded (s4.setSlot k { s4.slot k with socketTrip := true }) :=
      setSlot_strikesBounded l4 ((l4 k).of_same rfl rfl rfl)
    rw [h5]
    cases q
    · exact l5
    · exact reportFailure_strikesBounded l5
  · rw [tripSocket_of_not_on k i c d s hp]
    exact hs

theorem switchOn_strikesBounded {k : Slot} {i : Socket} {s : State} (hs : StrikesBounded s) :
    StrikesBounded (switchOn k i s) := by
  obtain ⟨_, e⟩ | ⟨hp, ⟨_, e⟩ | ⟨_, e⟩⟩ := switchOn_cases k i s <;> rw [e]
  · exact hs
  · exact setPower_strikesBounded hs (by simp [hp.1])
  · exact tripSocket_strikesBounded (setPower_strikesBounded hs (by simp [hp.1]))

theorem tripEither_strikesBounded {k : Slot} {i : Socket} {a b : Option (LogCause × List Byte)} {s : State}
    (hs : StrikesBounded s) : StrikesBounded (tripEither k i a b s) := by
  obtain ⟨_, _, e⟩ | ⟨c, d, n, _, _, e⟩ := tripEither_cases k i a b s <;> rw [e]
  · exact hs
  · exact tripSocket_strikesBounded (strikesBounded_of_slots hs rfl)

/-! ## Applies -/

/-- R41: the socket that a lowered strike limit finds QUARANTINED or with as many strikes. -/
theorem lowerLimit_socket (k : Slot) (l : Nat) (i : Socket) (s : State) :
    (¬ ((s.socket k i).power = .quarantined ∨ l ≤ (s.socket k i).strikes) → lowerLimit k l i s = s)
      ∧ ((s.socket k i).power = .quarantined ∨ l ≤ (s.socket k i).strikes →
        ((lowerLimit k l i s).socket k i).power = .quarantined ∧ ((lowerLimit k l i s).socket k i).strikes = l) := by
  obtain ⟨hn, e⟩ | ⟨hr, s1, h1, ⟨hq, e⟩ | ⟨_, e⟩⟩ := lowerLimit_cases k l i s
  · exact ⟨fun _ => e, fun h => absurd h hn⟩
  · refine ⟨fun h => absurd hr h, fun _ => ?_⟩
    rw [e, h1, State.setSocket_socket_same]
    exact ⟨hq, rfl⟩
  · refine ⟨fun h => absurd hr h, fun _ => ?_⟩
    rw [e, reportFailure_socket, if_neg (by simp), setPower_socket_same, h1, State.setSocket_socket_same]
    exact ⟨rfl, rfl⟩

/-- R41: every socket is within a lowered strike limit once the limit has acted on all of them. -/
theorem forSockets_lowerLimit_within (k : Slot) (l : Nat) (s : State) (i : Socket) :
    ((forSockets Socket.all (lowerLimit k l) s).socket k i).WithinLimit l := by
  obtain ⟨_, hin⟩ := forSockets_at (socketView k) (fun _ => True) (lowerLimit k l)
    (fun i n u h => lowerLimit_view k l i n u h) (fun _ _ _ => trivial) Socket.all Socket.all_nodup s trivial i
  obtain ⟨u, _, _, hv, _⟩ := hin (Socket.mem_all i)
  simp only [socketView, Prod.mk.injEq] at hv
  rw [hv.1]
  obtain ⟨hfree, hreached⟩ := lowerLimit_socket k l i u
  by_cases hr : (u.socket k i).power = .quarantined ∨ l ≤ (u.socket k i).strikes
  · obtain ⟨hp, hn⟩ := hreached hr
    exact ⟨hn.le, fun _ => hp⟩
  · rw [hfree hr]
    rw [not_or] at hr
    exact ⟨by omega, fun e => absurd e (by omega)⟩

/-- R40, R41: the staged copy becomes active, with every socket brought within its limit where that is lower. -/
theorem applyLimit_strikesBounded {k : Slot} {s : State} (hs : StrikesBounded s) :
    StrikesBounded (applyLimit k (s.slot k).active.strikeLimit (copyStaged k s)) := by
  obtain ⟨_, hg, hk⟩ := hs k
  intro j
  by_cases hj : j = k
  · subst hj
    refine ⟨by simpa using hg, by simpa using hg, fun i => ?_⟩
    rw [State.get_sockets]
    simp only [applyLimit_slotFields, copyStaged_slot_same]
    unfold applyLimit
    simp only [copyStaged_slot_same]
    split
    · exact forSockets_lowerLimit_within j _ _ i
    · next hl =>
      have e : (copyStaged j s).socket j i = s.socket j i := by simp [copyStaged]
      obtain ⟨hle, heq⟩ := hk i
      rw [State.get_sockets] at hle heq
      rw [e]
      exact ⟨by omega, fun h => heq (by omega)⟩
  · rw [((copyStaged_slotFrame k s).trans (applyLimit_slotFrame _ _ _)).slot_ne hj]
    exact hs j

theorem takeApply_strikesBounded {k : Slot} {s : State} (hs : StrikesBounded s) : StrikesBounded (takeApply k s) := by
  have h1 := applyLimit_strikesBounded (k := k) hs
  unfold takeApply applyPolicy
  dsimp only
  split
  · split
    · exact forSockets_strikesBounded (fun _ _ => switchOn_strikesBounded) _ h1
    · exact h1
  · refine forSockets_strikesBounded (fun i u hu => ?_) _ h1
    obtain e | e := dropFailed_cases k i u <;> rw [e]
    · exact hu
    · exact dropNotice_strikesBounded hu
  · exact h1

/-! ## Bursts, channels and boards taken down -/

theorem endDeferred_strikesBounded {k : Slot} {cancel : Bool} {s : State} (hs : StrikesBounded s) :
    StrikesBounded (endDeferred k cancel s) := by
  obtain ⟨_, e⟩ | ⟨_, _, e⟩ | ⟨_, _, e⟩ := endDeferred_cases k cancel s <;> rw [e]
  · exact hs
  · exact setSlot_strikesBounded hs ((hs k).of_same rfl rfl rfl)
  · exact takeApply_strikesBounded hs

theorem discardBurst_strikesBounded {k : Slot} {s : State} (hs : StrikesBounded s) : StrikesBounded (discardBurst k s) :=
  setSlot_strikesBounded (strikesBounded_of_slots hs rfl) ((hs k).of_same rfl rfl rfl)

theorem abandonBurst_strikesBounded {k : Slot} {cancel : Bool} {s : State} (hs : StrikesBounded s) :
    StrikesBounded (abandonBurst k cancel s) := by
  obtain ⟨_, e⟩ | ⟨_, e⟩ := abandonBurst_cases k cancel s <;> rw [e]
  · exact hs
  · exact endDeferred_strikesBounded (discardBurst_strikesBounded hs)

theorem stopChannel_strikesBounded {k : Slot} {cancel : Bool} {s : State} (hs : StrikesBounded s) :
    StrikesBounded (stopChannel k cancel s) :=
  strikesBounded_of_slots (abandonBurst_strikesBounded (k := k) (cancel := cancel) hs) rfl

theorem afterBurst_strikesBounded {k : Slot} {b : BurstConfig} {s : State} (hs : StrikesBounded s) :
    StrikesBounded (afterBurst k b s) := by
  unfold afterBurst
  dsimp only
  split
  · exact ((Reporting.channel _ .refl).trans (burstPoint_reporting k _)).strikesBounded hs
  · exact strikesBounded_of_slots hs rfl
  · exact setSlot_strikesBounded (s := s.setChannel k _) (strikesBounded_of_slots hs rfl) ((hs k).of_same rfl rfl rfl)
  · exact strikesBounded_of_slots hs rfl

theorem burstEnd_strikesBounded {k : Slot} {s : State} (hs : StrikesBounded s) : StrikesBounded (burstEnd k s) := by
  obtain e | ⟨p, b, _, _, _, e⟩ := burstEnd_cases k s <;> rw [e]
  · exact hs
  · exact afterBurst_strikesBounded (endDeferred_strikesBounded ((burstVerdicts_reporting k _ _ s).strikesBounded hs))

theorem resetThrottle_strikesBounded {k : Slot} {s : State} (hs : StrikesBounded s) :
    StrikesBounded (resetThrottle k s) := strikesBounded_of_slots hs rfl

theorem takeDown_strikesBounded {k : Slot} {b : BoardState} {cancel : Bool} {s : State} (hs : StrikesBounded s) :
    StrikesBounded (takeDown k b cancel s) := by
  refine resetThrottle_strikesBounded (stopChannel_strikesBounded (setSlot_strikesBounded hs
    (SlotCtl.StrikesWithin.of_sockets (hs k) ?_ ?_ fun i hi => ?_)))
  iterate 2 rfl
  simpa [SlotCtl.hardOff] using hi.release

theorem lockOut_strikesBounded {cancel : Bool} {k : Slot} {s : State} (hs : StrikesBounded s) :
    StrikesBounded (lockOut cancel k s) := by
  obtain ⟨_, e⟩ | ⟨_, e⟩ := lockOut_cases cancel k s <;> rw [e]
  · exact takeDown_strikesBounded hs
  · exact hs

theorem tripBoard_strikesBounded {k : Slot} {r : Rail} {c : TripCause} {s : State} (hs : StrikesBounded s) :
    StrikesBounded (tripBoard k r c s) := by
  cases hb : (s.slot k).board.checked with
  | false => rw [tripBoard_of_not k r c s hb]; exact hs
  | true =>
    obtain ⟨u, hu, e⟩ := tripBoard_of k r c s hb
    have h1 : StrikesBounded u := hu ▸ appendEntry_strikesBounded (takeDown_strikesBounded hs)
    rw [e]
    exact setSlot_strikesBounded h1 ((h1 k).of_same rfl rfl rfl)

/-! ## Ramps and drains -/

theorem startRail_strikesBounded {k : Slot} {r : Rail} {s : State} (hs : StrikesBounded s) :
    StrikesBounded (startRail k r s) :=
  setSlot_strikesBounded hs ((hs k).of_same (by simp) (by simp) (by simp))

theorem startRamp_strikesBounded {k : Slot} {s : State} (hs : StrikesBounded s) : StrikesBounded (startRamp k s) :=
  startRail_strikesBounded (setSlot_strikesBounded hs ((hs k).of_same rfl rfl rfl))

theorem startStep_strikesBounded {k : Slot} {n : Nat} {s : State} (hs : StrikesBounded s) :
    StrikesBounded (startStep k n s) :=
  forSockets_strikesBounded (fun _ _ => switchOn_strikesBounded) _
    (setSlot_strikesBounded hs ((hs k).of_same rfl rfl rfl))

theorem enterPowered_strikesBounded {k : Slot} {s : State} (hs : StrikesBounded s) : StrikesBounded (enterPowered k s) :=
  forSockets_strikesBounded (fun _ _ => switchOn_strikesBounded) _
    (setSlot_strikesBounded hs ((hs k).of_same rfl rfl rfl))

theorem settleCheck_strikesBounded {k : Slot} {r : Rail} {inside : Bool} {s : State} (hs : StrikesBounded s) :
    StrikesBounded (settleCheck k r inside s) := by
  obtain ⟨_, e⟩ | ⟨_, e⟩ := settleCheck_cases k r inside s <;> rw [e]
  · exact hs
  · have h1 : StrikesBounded (s.setSlot k ((s.slot k).setRail r
        { r.of (s.slot k) with cond := .held, settle := none, windowMiss := 0 })) :=
      setSlot_strikesBounded hs ((hs k).of_same (by simp) (by simp) (by simp))
    obtain e | ⟨m, _, _, _, e⟩ | ⟨m, _, _, _, _, e⟩ := rampAdvance_cases k (s.setSlot k ((s.slot k).setRail r
        { r.of (s.slot k) with cond := .held, settle := none, windowMiss := 0 })) <;> rw [e]
    · exact h1
    · exact startRail_strikesBounded (setSlot_strikesBounded h1 ((h1 k).of_same rfl rfl rfl))
    · exact startStep_strikesBounded h1

theorem checkRail_strikesBounded {k : Slot} {r : Rail} {v c : Nat} {s : State} (hs : StrikesBounded s) :
    StrikesBounded (checkRail k r v c s) := by
  unfold checkRail
  dsimp only
  have h1 : StrikesBounded (s.setSlot k ((s.slot k).setRail r ((r.of (s.slot k)).count
      (decide ((s.slot k).railLimit r < c)) (insideWindow ((s.slot k).active.setpoint r) (s.slot k).active.window v)))) :=
    setSlot_strikesBounded hs ((hs k).of_same (by simp) (by simp) (by simp))
  split
  · obtain ⟨_, _, e⟩ | ⟨d, n, _, e⟩ := tripByCounts_cases k r _ _ _ <;> rw [e]
    · exact h1
    · exact tripBoard_strikesBounded (strikesBounded_of_slots h1 rfl)
  · exact settleCheck_strikesBounded h1

theorem beginLowering_strikesBounded {k : Slot} {r : Rail} {b : Bool} {s : State} (hs : StrikesBounded s) :
    StrikesBounded (beginLowering k r b s) :=
  setSlot_strikesBounded hs ((hs k).of_same (by simp) (by simp) (by simp))

theorem railDone_strikesBounded {k : Slot} {d : Drain} {s : State} (hs : StrikesBounded s) :
    StrikesBounded (railDone k d s) := by
  have h1 : StrikesBounded (s.setSlot k ((s.slot k).setRail d.rail Config.railOff)) :=
    setSlot_strikesBounded hs ((hs k).of_same (by simp) (by simp) (by simp))
  unfold railDone
  dsimp only
  split
  · exact setSlot_strikesBounded h1 ((h1 k).of_same rfl rfl rfl)
  · exact beginLowering_strikesBounded h1

theorem startDrain_strikesBounded {k : Slot} {s : State} (hs : StrikesBounded s) : StrikesBounded (startDrain k s) := by
  refine beginLowering_strikesBounded (resetThrottle_strikesBounded (stopChannel_strikesBounded
    (setSlot_strikesBounded hs (SlotCtl.StrikesWithin.of_sockets (hs k) ?_ ?_ fun i hi => ?_))))
  iterate 2 rfl
  simpa using hi.release

theorem railSample_strikesBounded {k : Slot} {r : Rail} {v c : Nat} {s : State} (hs : StrikesBounded s) :
    StrikesBounded (railSample k r v c s) := by
  obtain ⟨_, e⟩ | ⟨_, e⟩ | e := railSample_cases k r v c s <;> rw [e]
  · exact checkRail_strikesBounded hs
  · unfold drainSample
    split
    · split
      · exact railDone_strikesBounded hs
      · exact hs
    · exact hs
  · exact hs

theorem settleExpired_strikesBounded {k : Slot} {r : Rail} {s : State} (hs : StrikesBounded s) :
    StrikesBounded (settleExpired k r s) := by
  unfold settleExpired
  dsimp only
  split
  · exact tripBoard_strikesBounded hs
  · exact hs

theorem dwellExpired_strikesBounded {k : Slot} {s : State} (hs : StrikesBounded s) : StrikesBounded (dwellExpired k s) := by
  unfold dwellExpired
  dsimp only
  split
  · split
    · split
      · exact startStep_strikesBounded hs
      · exact enterPowered_strikesBounded hs
    · exact hs
  · exact hs

theorem drainExpired_strikesBounded {k : Slot} {s : State} (hs : StrikesBounded s) : StrikesBounded (drainExpired k s) := by
  unfold drainExpired
  dsimp only
  split
  · split
    · exact railDone_strikesBounded hs
    · exact hs
  · exact hs

/-! ## Conversions -/

theorem socketSample_strikesBounded {k : Slot} {i : Socket} {n : Nat} {t : Int} {s : State} (hs : StrikesBounded s) :
    StrikesBounded (socketSample k i n t s) := by
  unfold socketSample
  dsimp only
  split
  · unfold sampleOn
    dsimp only
    refine tripEither_strikesBounded ?_
    generalize hu : (if (arrivalRecord n t).tempValid = true then _ else _ : State) = u
    have h1 : StrikesBounded u := by
      subst hu
      split
      · exact strikesBounded_of_slots hs rfl
      · exact strikesBounded_of_slots hs rfl
    obtain ⟨_, _, h3⟩ := h1 k
    exact setSocket_strikesBounded h1 ((h3 i).repower rfl id)
  · exact strikesBounded_of_slots hs rfl

theorem routineResult_strikesBounded {k : Slot} {p n : Nat} {v : Option Int} {s : State} (hs : StrikesBounded s) :
    StrikesBounded (routineResult k p n v s) := by
  have rail (r : Rail) : StrikesBounded (keepPartial k none (railArrival k r v s)) := by
    refine strikesBounded_of_slots (s := railArrival k r v s) ?_ rfl
    unfold railArrival
    split
    · exact railSample_strikesBounded (strikesBounded_of_slots hs rfl)
    · exact hs
  unfold routineResult
  split
  iterate 2 exact strikesBounded_of_slots hs rfl
  iterate 2 exact rail _
  split
  · exact strikesBounded_of_slots hs rfl
  · refine strikesBounded_of_slots (s := socketArrival k _ v s) ?_ rfl
    unfold socketArrival
    split
    · exact socketSample_strikesBounded hs
    · exact hs

theorem conversionEnd_strikesBounded {k : Slot} {v : Option Int} {s : State} (hs : StrikesBounded s) :
    StrikesBounded (conversionEnd k v s) := by
  obtain e | ⟨c, _, ⟨t, _, e⟩ | ⟨_, e⟩⟩ := conversionEnd_cases k v s <;> rw [e]
  · exact hs
  · exact ((captureResult_reporting _ _ _ _ _).trans
      ((advanceSet_reporting _ _ _).trans (chooseNext_reporting k _))).strikesBounded hs
  · refine (chooseNext_reporting k _).strikesBounded ?_
    unfold routineEnd
    split
    · exact strikesBounded_of_slots hs rfl
    · exact (advanceRound_reporting k _).strikesBounded (routineResult_strikesBounded hs)

/-! ## Presence and identity -/

theorem enterIdent_strikesBounded {k : Slot} {s : State} (hs : StrikesBounded s) : StrikesBounded (enterIdent k s) :=
  (startScanner_reporting k _).strikesBounded (setSlot_strikesBounded hs ((hs k).of_same rfl rfl rfl))

theorem removeBoard_strikesBounded {k : Slot} {s : State} (hs : StrikesBounded s) : StrikesBounded (removeBoard k s) := by
  have h1 := takeDown_strikesBounded (k := k) (b := .empty) (cancel := false) hs
  have h2 : StrikesBounded (emptied k s) := by
    refine strikesBounded_of_slots (setSlot_strikesBounded (k := k) (s := dropClosing k (takeDown k .empty false s))
      (strikesBounded_of_slots h1 rfl) ((h1 k).of_same ?_ ?_ ?_)) rfl <;> rfl
  rw [removeBoard_eq]
  split
  · exact appendEntry_strikesBounded h2
  · exact h2

/-- R6: the slot prepared for a board it has not held has default settings and no strike. -/
theorem prepareSlot_strikesBounded {k : Slot} {s : State} (hs : StrikesBounded s) : StrikesBounded (prepareSlot k s) := by
  have h : 1 ≤ Config.settings.strikeLimit := by decide
  exact setSlot_strikesBounded hs ⟨h, h, fun i => SocketPower.withinLimit_of_none h (by simp [Config.socketOff])⟩

theorem tagBoard_strikesBounded {k : Slot} {i : Identity} {s : State} (hs : StrikesBounded s) :
    StrikesBounded (tagBoard k i s) := by
  obtain ⟨_, e⟩ | ⟨_, e⟩ | ⟨old, _, _, e⟩ := tagBoard_cases k i s <;> rw [e]
  · exact strikesBounded_of_slots hs rfl
  · exact hs
  · exact strikesBounded_of_slots (s := prepareSlot k (retagSet k i old s))
      (prepareSlot_strikesBounded (appendEntry_strikesBounded (strikesBounded_of_slots hs rfl))) rfl

/-- R7: an unpopulated socket has no strike. -/
theorem applyDescriptor_strikesBounded {k : Slot} {d : Descriptor} {s : State} (hs : StrikesBounded s) :
    StrikesBounded (applyDescriptor k d s) := by
  refine setSlot_strikesBounded hs ((hs k).of_sockets rfl rfl fun i hi => ?_)
  simp only [Table.get_mapIdx, maskUnpopulated]
  split
  · exact SocketPower.withinLimit_of_none (hs k).1 rfl
  · exact hi

theorem identityAnswer_strikesBounded {k : Slot} {i : Identity} {d : Descriptor} {s : State} (hs : StrikesBounded s) :
    StrikesBounded (identityAnswer k i d s) := by
  have h1 : StrikesBounded (recordAnswer k i d s) := setSlot_strikesBounded hs ((hs k).of_same rfl rfl rfl)
  unfold identityAnswer
  dsimp only
  split
  · split
    · exact applyDescriptor_strikesBounded (tagBoard_strikesBounded h1)
    · exact h1
  · exact hs

theorem identityTimeout_strikesBounded {k : Slot} {s : State} (hs : StrikesBounded s) :
    StrikesBounded (identityTimeout k s) := by
  unfold identityTimeout
  dsimp only
  split
  · exact setSlot_strikesBounded hs ((hs k).of_same rfl rfl rfl)
  · exact hs

/-! ## Sockets -/

theorem maskSocket_strikesBounded {k : Slot} {i : Socket} {s : State} (hs : StrikesBounded s) :
    StrikesBounded (maskSocket k i s) := by
  unfold maskSocket
  split
  iterate 3 next hp => exact setPower_strikesBounded hs (by simp [hp])
  iterate 2 exact hs

/-- R31: a socket made OFF from a state other than QUARANTINED, and then ON where its board is POWERED. -/
theorem switchOn_powered_strikesBounded {k : Slot} {i : Socket} {s : State} (hs : StrikesBounded s) :
    StrikesBounded (if (s.slot k).board = .powered then switchOn k i s else s) := by
  split
  · exact switchOn_strikesBounded hs
  · exact hs

theorem unmaskSocket_strikesBounded {k : Slot} {i : Socket} {s : State} (hs : StrikesBounded s) :
    StrikesBounded (unmaskSocket k i s) := by
  unfold unmaskSocket
  split
  · next hp => exact switchOn_powered_strikesBounded (setPower_strikesBounded hs (by simp [hp.1]))
  · exact hs

theorem retryExpired_strikesBounded {k : Slot} {i : Socket} {s : State} (hs : StrikesBounded s) :
    StrikesBounded (retryExpired k i s) := by
  unfold retryExpired
  split
  · next hp => exact switchOn_powered_strikesBounded (setPower_strikesBounded hs (by simp [hp.1]))
  · exact hs

/-- R37: a socket with no strikes is within the limit in whatever power state it takes. -/
theorem reinstateSocket_strikesBounded {k : Slot} {i : Socket} {s : State} (hs : StrikesBounded s) :
    StrikesBounded (reinstateSocket k i s) := by
  unfold reinstateSocket
  dsimp only
  generalize hu : State.setCompare _ k _ = u
  have h1 : StrikesBounded u := by
    subst hu
    exact strikesBounded_of_slots (appendEntry_strikesBounded (i := some i) (a := some k) (c := .reinstated)
      (strikesBounded_of_slots (t := s.setRecord k i (s.record k i).reinstate) hs rfl)) rfl
  have none (p : PowerState) (o : Option Nat) (t : Timer) : SocketPower.WithinLimit (u.slot k).active.strikeLimit
      ⟨p, 0, o, t⟩ := SocketPower.withinLimit_of_none (h1 k).1 rfl
  have h2 : StrikesBounded (u.setSocket k i { u.socket k i with strikes := 0 }) := setSocket_strikesBounded h1 (none _ _ _)
  have off : StrikesBounded (setPower k i .off Option.none (u.setSocket k i { u.socket k i with strikes := 0 })) := by
    refine strikesBounded_of_slots (setSocket_strikesBounded (i := i) h1 (none .off Option.none Option.none)) ?_
    simp [setPower, State.setSocket, State.setCompare, State.setSlot]
  refine switchOn_powered_strikesBounded ?_
  split
  iterate 2 exact off
  iterate 3 exact h2

end Sys2Proof.Machine
end


section
/-!
PROOFS. Every step keeps `StrikesLegal` (R18, R29, R33, R37, R41).
-/

namespace Sys2Proof.Machine

open Safety

/-! ## All four slots -/

theorem safeEntry_strikesBounded {c : SafeCause} {d : List Byte} {s : State} (hs : StrikesBounded s) :
    StrikesBounded (safeEntry c d s) := by
  have h1 : StrikesBounded (forSlots (lockOut false) { s with zone := s.zone.enterSafe c }) :=
    forSlots_invariant StrikesBounded _ (fun _ _ => lockOut_strikesBounded) _ (strikesBounded_of_slots hs rfl)
  refine strikesBounded_of_slots h1 ?_
  simp [safeEntry, appendZone]

theorem commitBlocks_strikesBounded (k : Slot) (s : State) (hs : StrikesBounded s) :
    StrikesBounded (commitBlocks k s) := by
  have h1 : StrikesBounded (commitSlot k s) := by
    have hl : StrikesBounded (lockOut true k s) := lockOut_strikesBounded hs
    unfold commitSlot
    dsimp only
    split
    · exact setSlot_strikesBounded hl ((hl k).of_same rfl rfl rfl)
    · exact hl
  exact strikesBounded_of_slots (stopChannel_strikesBounded (k := k) (cancel := true) h1) rfl

theorem commitStart_strikesBounded {kept : Bool} {s : State} (hs : StrikesBounded s) :
    StrikesBounded (commitStart kept s) := by
  unfold commitStart
  exact strikesBounded_of_slots (forSlots_invariant StrikesBounded _ commitBlocks_strikesBounded s hs) (by simp)

/-- R42, R29: the slots of a start have default settings and no strike. -/
theorem strikesBounded_of_resetSlots {t : State} (h : t.slots = PerSlot.fill slotReset) : StrikesBounded t := by
  have hr : StrikesBounded State.reset := fun k => by
    refine ⟨?_, ?_, fun i => SocketPower.withinLimit_of_none ?_ ?_⟩ <;>
      simp [State.reset, slotReset, Config.settings, Config.socketOff]
  exact strikesBounded_of_slots hr (h.trans rfl)

/-- R16: at ZONE-RESET no socket has a strike. -/
theorem zoneResetSlot_strikesBounded (k : Slot) (s : State) (hs : StrikesBounded s) :
    StrikesBounded (zoneResetSlot k s) := by
  have h1 : StrikesBounded (dropClosing k (resetThrottle k (stopChannel k true (lockOut true k s)))) :=
    strikesBounded_of_slots (stopChannel_strikesBounded (k := k) (cancel := true) (lockOut_strikesBounded hs)) rfl
  obtain ⟨ha, hg, _⟩ := h1 k
  refine strikesBounded_of_slots (setSlot_strikesBounded (k := k) h1 ⟨?_, ?_, fun i => ?_⟩) rfl
  · exact ha
  · exact hg
  · exact SocketPower.withinLimit_of_none ha (by simp [SlotCtl.zoneReset, SocketPower.zoneReset])

theorem serveZoneReset_strikesBounded {s : State} (hs : StrikesBounded s) :
    StrikesBounded (serveZoneReset s).state := by
  unfold serveZoneReset
  split
  · exact hs
  · refine strikesBounded_of_slots (forSlots_invariant StrikesBounded _ zoneResetSlot_strikesBounded s hs) ?_
    simp [answer, reply]

/-! ## Requests -/

theorem withSlot_strikesBounded {s : State} {n : Nat} {f : Slot → Served} (hs : StrikesBounded s)
    (h : ∀ k, StrikesBounded (f k).state) : StrikesBounded (withSlot s n f).state := by
  unfold withSlot
  split
  · exact h _
  · exact hs

theorem withRecord_strikesBounded {s : State} {n : Nat} {f : Fin 32 → Served} (hs : StrikesBounded s)
    (h : ∀ r, StrikesBounded (f r).state) : StrikesBounded (withRecord s n f).state := by
  unfold withRecord
  split
  · exact hs
  · exact h _

theorem serveBoardPowerUp_strikesBounded {n : Nat} {s : State} (hs : StrikesBounded s) :
    StrikesBounded (serveBoardPowerUp n s).state := by
  refine withSlot_strikesBounded hs fun k => ?_
  dsimp only
  split
  · exact hs
  · split
    · exact hs
    · split
      · split
        · exact startRamp_strikesBounded hs
        · exact hs
      all_goals exact hs

theorem serveBoardPowerDown_strikesBounded {n : Nat} {s : State} (hs : StrikesBounded s) :
    StrikesBounded (serveBoardPowerDown n s).state := by
  refine withSlot_strikesBounded hs fun k => ?_
  split
  iterate 4 exact hs
  all_goals exact startDrain_strikesBounded hs

/-- R18: an item in range leaves the strike limit of a copy at 1 or more. -/
theorem stageItem_strikeLimit {c : SlotCtl} {t : Settings} {i : StageItem} (hi : stageInRange i = true)
    (ht : 1 ≤ t.strikeLimit) : 1 ≤ (stageItem c t i).strikeLimit := by
  cases i with
  | strikeLimit n =>
    have ⟨h1, _⟩ : 1 ≤ n ∧ n ≤ 15 := (stageInRange_iff _).mp hi
    exact h1
  | _ => exact ht

theorem stageList_strikeLimit {c : SlotCtl} {l : List StageItem} (hl : ∀ i ∈ l, stageInRange i = true) {t : Settings}
    (ht : 1 ≤ t.strikeLimit) : 1 ≤ (l.foldl (stageItem c) t).strikeLimit := by
  induction l generalizing t with
  | nil => exact ht
  | cons i l ih =>
    exact ih (fun j hj => hl j (.tail _ hj)) (stageItem_strikeLimit (hl i (.head _)) ht)

theorem stageItems_strikesBounded {k : Slot} {l : List StageItem} {s : State} (hs : StrikesBounded s) :
    StrikesBounded (stageItems k l s).state := by
  obtain ⟨ha, hg, hk⟩ := hs k
  unfold stageItems
  dsimp only
  split
  · exact hs
  · next hr =>
    have hin : ∀ i ∈ l, stageInRange i = true := List.all_eq_true.mp (by simpa using hr)
    split
    · exact hs
    · exact setSlot_strikesBounded hs ⟨ha, stageList_strikeLimit hin hg, hk⟩

theorem serveBoardStage_strikesBounded {n : Nat} {l : List StageItem} {s : State} (hs : StrikesBounded s) :
    StrikesBounded (serveBoardStage n l s).state := by
  unfold serveBoardStage
  dsimp only
  split
  · exact hs
  · split
    · exact hs
    · refine withSlot_strikesBounded hs fun k => ?_
      split
      iterate 2 exact hs
      all_goals exact stageItems_strikesBounded hs

theorem applyBoard_strikesBounded {k : Slot} {s : State} (hs : StrikesBounded s) :
    StrikesBounded (applyBoard k s).state := by
  unfold applyBoard
  dsimp only
  split
  · exact hs
  · split
    · exact hs
    · split
      · exact setSlot_strikesBounded hs ((hs k).of_same rfl rfl rfl)
      · exact takeApply_strikesBounded hs

theorem serveBoardApply_strikesBounded {n : Nat} {s : State} (hs : StrikesBounded s) :
    StrikesBounded (serveBoardApply n s).state := by
  refine withSlot_strikesBounded hs fun k => ?_
  split
  iterate 2 exact hs
  all_goals exact applyBoard_strikesBounded hs

theorem serveBoardStatus_strikesBounded {n : Nat} {s : State} (hs : StrikesBounded s) :
    StrikesBounded (serveBoardStatus n s).state := by
  refine withSlot_strikesBounded hs fun k => ?_
  split
  · exact hs
  · exact setSlot_strikesBounded hs ((hs k).of_same rfl rfl rfl)

theorem socketSetChecks_strikesBounded {n : Nat} {l : List Nat} {s : State} {f : Slot → Served}
    (hs : StrikesBounded s) (h : ∀ k, StrikesBounded (f k).state) :
    StrikesBounded (socketSetChecks n l s f).state := by
  unfold socketSetChecks
  split
  · exact hs
  · refine withSlot_strikesBounded hs fun k => ?_
    split
    iterate 2 exact hs
    all_goals exact h k

theorem serveSocketSet_strikesBounded {act : Slot → Socket → State → State}
    (ha : ∀ k i u, StrikesBounded u → StrikesBounded (act k i u)) {n : Nat} {l : List Nat} {s : State}
    (hs : StrikesBounded s) : StrikesBounded (serveSocketSet act n l s).state := by
  refine socketSetChecks_strikesBounded hs fun k => ?_
  split
  · exact hs
  · exact forSockets_strikesBounded (ha k) _ hs

theorem serveSocketStatus_strikesBounded {n : Nat} {l : List Nat} {s : State} (hs : StrikesBounded s) :
    StrikesBounded (serveSocketStatus n l s).state := by
  unfold serveSocketStatus
  split
  · exact hs
  · refine withSlot_strikesBounded hs fun k => ?_
    split
    · exact hs
    · split <;> exact hs

theorem serveBurstConfigSet_strikesBounded {n p m c g : Nat} {s : State} (hs : StrikesBounded s) :
    StrikesBounded (serveBurstConfigSet n p m c g s).state := by
  refine withSlot_strikesBounded hs fun k => ?_
  split
  · exact hs
  · split
    · exact hs
    · exact (setBurstConfig_reporting _ _ _).strikesBounded hs

theorem serveExerciseStart_strikesBounded {n : Nat} {s : State} (hs : StrikesBounded s) :
    StrikesBounded (serveExerciseStart n s).state := by
  refine withSlot_strikesBounded hs fun k => ?_
  dsimp only
  split
  · exact hs
  · split
    · exact hs
    · split
      · exact hs
      · split
        iterate 3 exact hs
        iterate 2
          split
          · exact hs
          · exact (burstPoint_reporting k s).strikesBounded hs

theorem serveExerciseStop_strikesBounded {n : Nat} {s : State} (hs : StrikesBounded s) :
    StrikesBounded (serveExerciseStop n s).state := by
  refine withSlot_strikesBounded hs fun k => ?_
  split
  · exact hs
  · exact stopChannel_strikesBounded hs

theorem serveBurstTrigger_strikesBounded {n : Nat} {s : State} (hs : StrikesBounded s) :
    StrikesBounded (serveBurstTrigger n s).state := by
  refine withSlot_strikesBounded hs fun k => ?_
  dsimp only
  split
  · exact hs
  · split
    · exact hs
    · split
      · exact ((dropUndefined_reporting k s).trans (startBurst_reporting _ _)).strikesBounded hs
      · split
        · split
          · exact (startBurst_reporting _ _).strikesBounded (abandonBurst_strikesBounded hs)
          · exact hs
        · exact hs
      all_goals exact hs

/-- Every request of the catalogue keeps the property; those that are not of boards, sockets or channels leave the slot
controllers. -/
theorem Request.strikesBounded {f : State → Served} (h : Request f) (s : State) (hs : StrikesBounded s) :
    StrikesBounded (f s).state := by
  have same {t : State} (h1 : t.slots = s.slots) : StrikesBounded t := strikesBounded_of_slots hs h1
  cases h with
  | identify | logStatus | clockStatus | refused => exact hs
  | zoneReset => exact serveZoneReset_strikesBounded hs
  | zoneSetpoint =>
    unfold serveZoneSetpoint
    dsimp only
    split
    · exact hs
    · split
      · exact hs
      · split
        · exact hs
        · exact same rfl
  | zoneTune =>
    unfold serveZoneTune
    split
    · exact hs
    · split
      · exact hs
      · split
        · exact hs
        · exact same rfl
  | zoneCool =>
    unfold serveZoneCool
    split
    iterate 3 exact hs
    all_goals exact same rfl
  | zoneAbort =>
    unfold serveZoneAbort
    split
    · exact hs
    · exact safeEntry_strikesBounded hs
  | zoneStatus | weightsSet | snapshotRelease | clockClear => exact same rfl
  | boardPowerUp => exact serveBoardPowerUp_strikesBounded hs
  | boardPowerDown => exact serveBoardPowerDown_strikesBounded hs
  | boardStage => exact serveBoardStage_strikesBounded hs
  | boardApply => exact serveBoardApply_strikesBounded hs
  | boardStatus => exact serveBoardStatus_strikesBounded hs
  | socketSetMask => exact serveSocketSet_strikesBounded (fun _ _ _ => maskSocket_strikesBounded) hs
  | socketSetUnmask => exact serveSocketSet_strikesBounded (fun _ _ _ => unmaskSocket_strikesBounded) hs
  | socketSetReinstate => exact serveSocketSet_strikesBounded (fun _ _ _ => reinstateSocket_strikesBounded) hs
  | socketSetOther => exact socketSetChecks_strikesBounded hs fun _ => hs
  | socketStatus => exact serveSocketStatus_strikesBounded hs
  | patternLoad =>
    unfold servePatternLoad
    dsimp only
    split
    · exact hs
    · split
      · exact hs
      · split
        · exact hs
        · exact same rfl
  | patternDefineWrite =>
    refine withRecord_strikesBounded hs fun r => ?_
    split
    · exact hs
    · split
      · exact hs
      · exact same rfl
  | patternDefineClear =>
    refine withRecord_strikesBounded hs fun r => ?_
    split
    · exact hs
    · exact same rfl
  | patternDefineQuery => exact withRecord_strikesBounded hs fun _ => hs
  | burstConfigSet => exact serveBurstConfigSet_strikesBounded hs
  | burstConfigQuery | burstConfigOther => exact withSlot_strikesBounded hs fun k => by split <;> exact hs
  | exerciseStart => exact serveExerciseStart_strikesBounded hs
  | exerciseStop => exact serveExerciseStop_strikesBounded hs
  | burstTrigger => exact serveBurstTrigger_strikesBounded hs
  | accelTableLoad =>
    unfold serveAccelTableLoad
    split
    · exact hs
    · split
      · exact hs
      · exact same rfl
  | accountSnapshot =>
    unfold serveAccountSnapshot
    split
    · exact same rfl
    all_goals exact hs
  | accountRead =>
    unfold serveAccountRead
    split
    · exact hs
    · split
      iterate 2 exact hs
      exact same rfl
  | accountClear =>
    refine withSlot_strikesBounded hs fun k => ?_
    split
    · exact hs
    · exact same rfl
  | logRead =>
    unfold serveLogRead
    split <;> exact hs
  | logRetire =>
    unfold serveLogRetire
    split
    · exact hs
    · exact same rfl
  | alertMask =>
    unfold serveAlertMask
    split
    · exact hs
    · exact same rfl
  | alertConfig =>
    unfold serveAlertConfig
    split
    · exact same rfl
    · exact hs
  | alertPoll =>
    unfold serveAlertPoll
    split
    · exact same rfl
    · exact hs
  | alertDone =>
    unfold serveAlertDone
    split
    · exact hs
    · split
      · exact same rfl
      · exact hs

theorem takeRequest_strikesBounded {kind : Byte} {serve : State → Served} (h : Request serve) {s : State}
    (hs : StrikesBounded s) : StrikesBounded (takeRequest kind serve s) := by
  have hr : StrikesBounded (received s) := strikesBounded_of_slots hs rfl
  obtain ⟨_, e⟩ | ⟨_, _, e⟩ | ⟨_, l, e⟩ := takeRequest_cases kind serve s <;> rw [e]
  · exact hs
  · exact hr
  · exact strikesBounded_of_slots (h.strikesBounded (received s) hr) rfl

/-! ## Events -/

theorem whenRunning_strikesBounded {f : State → State} {s : State} (hs : StrikesBounded s)
    (h : StrikesBounded (f s)) : StrikesBounded (whenRunning f s) := by
  unfold whenRunning
  split
  · exact h
  · exact hs

theorem discardFrame_strikesBounded {s : State} (hs : StrikesBounded s) : StrikesBounded (discardFrame s) :=
  strikesBounded_of_slots hs rfl

theorem takeFrame_strikesBounded {kind : Byte} {p : List Byte} {s : State} (hs : StrikesBounded s) :
    StrikesBounded (takeFrame kind p s) := by
  obtain ⟨serve, hr, e⟩ := takeFrame_request kind p s
  rw [e]
  exact takeRequest_strikesBounded hr hs

theorem receiveByte_strikesBounded {b : List Byte} {s : State} (hs : StrikesBounded s) :
    StrikesBounded (receiveByte b s) := by
  have h1 : StrikesBounded { s with link.buffer := b } := strikesBounded_of_slots hs rfl
  unfold receiveByte
  dsimp only
  split
  · exact discardFrame_strikesBounded h1
  · split
    · exact discardFrame_strikesBounded h1
    · split
      · unfold frameArrived
        dsimp only
        split
        · exact takeFrame_strikesBounded h1
        · exact discardFrame_strikesBounded h1
      · exact h1

theorem byteArrived_strikesBounded {b : Byte} {stop : Bool} {s : State} (hs : StrikesBounded s) :
    StrikesBounded (byteArrived b stop s) := by
  unfold byteArrived
  split
  · split
    · exact strikesBounded_of_slots hs rfl
    · exact hs
  · split
    · exact receiveByte_strikesBounded hs
    · exact discardFrame_strikesBounded hs

theorem beginAlert_slots (s : State) : (beginAlert s).slots = s.slots := by
  unfold beginAlert
  split <;> rfl

theorem frameSent_strikesBounded {s : State} (hs : StrikesBounded s) : StrikesBounded (frameSent s) := by
  unfold frameSent
  split
  · exact hs
  · have h1 {f : TxFrame} : StrikesBounded { s with link.sending := none, link.owed := s.link.owed && !f.isReply } :=
      strikesBounded_of_slots hs rfl
    refine whenRunning_strikesBounded h1 ?_
    unfold sendNext
    split
    · exact strikesBounded_of_slots hs rfl
    · exact strikesBounded_of_slots h1 (beginAlert_slots _)

theorem zoneWork_strikesBounded {s : State} (hs : StrikesBounded s) : StrikesBounded (zoneWork s) := by
  unfold zoneWork raiseIf
  dsimp only
  split <;> exact strikesBounded_of_slots hs rfl

theorem controlInterval_strikesBounded {p q : Option Int} {s : State} (hs : StrikesBounded s) :
    StrikesBounded (controlInterval p q s) := by
  unfold controlInterval
  split
  · have h1 : StrikesBounded { s with zone := { s.zone.readSensors p q with interval := some 1 } } :=
      strikesBounded_of_slots hs rfl
    dsimp only
    split
    · exact zoneWork_strikesBounded h1
    · exact safeEntry_strikesBounded h1
    · exact zoneWork_strikesBounded h1
  · exact hs

theorem accountInterval_strikesBounded {s : State} (hs : StrikesBounded s) : StrikesBounded (accountInterval s) := by
  unfold accountInterval
  split
  · dsimp only
    rw [captureSnapshot_frame]
    exact strikesBounded_of_slots hs rfl
  · exact hs

/-- The references count in a slot controller, and leave the limits, strikes and power states. -/
theorem strikesBounded_of_map {s t : State} {f : SlotCtl → SlotCtl} (hs : StrikesBounded s)
    (h : t.slots = s.slots.map f) (hf : ∀ c, c.StrikesWithin → (f c).StrikesWithin) : StrikesBounded t := by
  intro k
  have e : t.slot k = f (s.slot k) := by rw [← State.get_slots, h, PerSlot.get_map, State.get_slots]
  rw [e]
  exact hf _ (hs k)

theorem tickMs_strikesBounded {s : State} (hs : StrikesBounded s) : StrikesBounded (tickMs s) :=
  strikesBounded_of_map hs rfl fun _ hc => hc.of_same rfl rfl rfl

theorem tickSec_strikesBounded {s : State} (hs : StrikesBounded s) : StrikesBounded (tickSec s) := by
  unfold tickSec
  split
  · refine strikesBounded_of_map hs rfl fun _ hc => hc.of_sockets rfl rfl fun i hi => ?_
    simp only [SlotCtl.tickSec, Table.get_map]
    exact hi.repower rfl id
  · exact hs

theorem raiseClock_strikesBounded {s : State} (hs : StrikesBounded s) : StrikesBounded (raiseClock s) := by
  unfold raiseClock
  split
  · exact strikesBounded_of_slots hs rfl
  · exact hs

theorem whileHoldover_strikesBounded {f : State → State} {s : State} (hs : StrikesBounded s)
    (h : StrikesBounded (f s)) : StrikesBounded (whileHoldover f s) := by
  unfold whileHoldover
  split
  · exact h
  · exact hs

theorem holdoverDetected_strikesBounded {s : State} (hs : StrikesBounded s) : StrikesBounded (holdoverDetected s) := by
  unfold holdoverDetected
  split
  · exact raiseClock_strikesBounded (strikesBounded_of_slots hs rfl)
  · exact hs

theorem qualified_strikesBounded {s : State} (hs : StrikesBounded s) : StrikesBounded (qualified s) := by
  unfold qualified
  split
  · exact raiseClock_strikesBounded (strikesBounded_of_slots hs rfl)
  · exact hs

/-! ## Power -/

theorem powerFail_strikesBounded {s : State} (hs : StrikesBounded s) : StrikesBounded (powerFail s) := by
  unfold powerFail
  split
  · exact commitStart_strikesBounded hs
  · exact strikesBounded_of_slots hs rfl
  all_goals exact hs

theorem resetAsserted_strikesBounded {s : State} (hs : StrikesBounded s) : StrikesBounded (resetAsserted s) := by
  unfold resetAsserted
  split
  · exact commitStart_strikesBounded hs
  iterate 2 exact strikesBounded_of_slots hs rfl
  all_goals exact hs

theorem resetReleased_strikesBounded {s : State} (hs : StrikesBounded s) : StrikesBounded (resetReleased s) := by
  unfold resetReleased
  split
  iterate 2 exact strikesBounded_of_resetSlots rfl
  all_goals exact hs

theorem commitComplete_strikesBounded {s : State} (hs : StrikesBounded s) : StrikesBounded (commitComplete s) := by
  unfold commitComplete
  split
  · dsimp only
    split
    · exact strikesBounded_of_resetSlots rfl
    · exact strikesBounded_of_slots hs rfl
  · exact hs

theorem retentionCheckEnd_strikesBounded {s : State} (hs : StrikesBounded s) :
    StrikesBounded (retentionCheckEnd s) := by
  have h1 : StrikesBounded (runningStart (checkOutcome s)) := by
    refine forSlots_invariant StrikesBounded _ (fun k u hu => ?_) _ (strikesBounded_of_slots hs (checkOutcome_slots s))
    unfold findBoard
    split
    · exact enterIdent_strikesBounded hu
    · exact hu
  unfold retentionCheckEnd
  split
  · dsimp only
    split
    · exact commitStart_strikesBounded h1
    · exact h1
  · exact hs

/-! ## Every step -/

/-- Every command keeps the property. -/
theorem exec_strikesBounded {i : Instr} {s t : State} (hs : StrikesBounded s) (h : exec i s = .next t) :
    StrikesBounded t := by
  cases hf : requestFrame i with
  | some f =>
    obtain e | ⟨kind, serve, hr, e⟩ := exec_request i f hf s
    · rw [e] at h
      injection h with h
      exact h ▸ whenRunning_strikesBounded hs (discardFrame_strikesBounded hs)
    · rw [e] at h
      injection h with h
      exact h ▸ takeRequest_strikesBounded hr hs
  | none =>
    have running {f : State → State} (hk : StrikesBounded (f s)) : StrikesBounded (whenRunning f s) :=
      whenRunning_strikesBounded hs hk
    cases i
    all_goals simp only [requestFrame, reduceCtorEq] at hf
    all_goals
      injection h with h
      subst h
    case frameDiscarded => exact running (discardFrame_strikesBounded hs)
    case receiveTimeout =>
      refine running ?_
      split
      · exact discardFrame_strikesBounded hs
      · exact hs
    case frameSent => exact frameSent_strikesBounded hs
    case alertFrame => exact running (strikesBounded_of_slots hs (beginAlert_slots s))
    case boardInserted k =>
      have h1 : StrikesBounded (setPresent k true s) := strikesBounded_of_slots hs rfl
      refine whenRunning_strikesBounded h1 ?_
      unfold boardInserted
      split
      · exact enterIdent_strikesBounded h1
      · exact h1
    case boardRemoved k =>
      have h1 : StrikesBounded (setPresent k false s) := strikesBounded_of_slots hs rfl
      refine whenRunning_strikesBounded h1 ?_
      unfold boardRemoved
      split
      · exact h1
      · exact removeBoard_strikesBounded h1
    case identityAnswer k a d => exact running (identityAnswer_strikesBounded hs)
    case identityTimeout k => exact running (identityTimeout_strikesBounded hs)
    case settleLimitExpiry k r => exact running (settleExpired_strikesBounded hs)
    case inrushDwellExpiry k => exact running (dwellExpired_strikesBounded hs)
    case drainLimitExpiry k => exact running (drainExpired_strikesBounded hs)
    case switchFault k n a =>
      have h1 : StrikesBounded (setSwitchFault k n a s) := strikesBounded_of_slots hs rfl
      split
      · exact whenRunning_strikesBounded h1 (tripSocket_strikesBounded h1)
      · exact h1
    case retryExpiry k n => exact running (retryExpired_strikesBounded hs)
    case conversionEnd k v => exact running (conversionEnd_strikesBounded hs)
    case riseHoldExpiry k => exact running ((riseHoldExpired_reporting k s).strikesBounded hs)
    case throttleFallExpiry k => exact running ((fallExpired_reporting k s).strikesBounded hs)
    case vectorBoundary k => exact running ((vectorBoundary_reporting k s).strikesBounded hs)
    case burstEnd k => exact running (burstEnd_strikesBounded hs)
    case gapExpiry k => exact running ((gapExpired_reporting k s).strikesBounded hs)
    case controlInterval p q => exact running (controlInterval_strikesBounded hs)
    case accountIntervalExpiry => exact running (accountInterval_strikesBounded hs)
    case reference1ms => exact running (tickMs_strikesBounded hs)
    case reference1s => exact running (tickSec_strikesBounded hs)
    case holdoverDetection => exact holdoverDetected_strikesBounded hs
    case qualificationStart | qualificationFail =>
      exact whileHoldover_strikesBounded hs (strikesBounded_of_slots hs rfl)
    case qualificationSuccess => exact whileHoldover_strikesBounded hs (qualified_strikesBounded hs)
    case powerFailAssert level =>
      have h1 : StrikesBounded { s with lines.powerFail := level } := strikesBounded_of_slots hs rfl
      dsimp only
      split
      · exact powerFail_strikesBounded h1
      · exact h1
    case resetAssert => exact resetAsserted_strikesBounded (strikesBounded_of_slots hs rfl)
    case commitComplete => exact commitComplete_strikesBounded hs
    case resetRelease =>
      split
      · exact resetReleased_strikesBounded (strikesBounded_of_slots hs rfl)
      · exact hs
    case powerOnReset | powerLoss => exact strikesBounded_of_resetSlots rfl
    case backupSupplyLoss => exact strikesBounded_of_slots hs rfl
    case retentionCheckEnd => exact retentionCheckEnd_strikesBounded hs
    case sampleInstant k g b => exact running ((sampleInstant_reporting k g b s).strikesBounded hs)
    case byteArrival b stop => exact running (byteArrived_strikesBounded hs)

/-- Settles O59: a step is the front command on the state with the queue's rest, and every command keeps each slot within
its strike limits; a trip adds one strike to an ON socket, which has fewer than the limit, and an apply that lowers the
limit quarantines the sockets that reach it. -/
theorem everyStepKeepsStrikesLegal : Obligations.EveryStepKeepsStrikesLegal := by
  intro s t hs h
  rw [strikesLegal_iff] at hs ⊢
  unfold step at h
  split at h
  · injection h with h
    exact h ▸ hs
  · refine exec_strikesBounded ?_ h
    exact strikesBounded_of_slots hs rfl

end Sys2Proof.Machine
end


section
/-!
PROOFS. The readouts that change no more than the link (R38, R126, R177, R189) and BOARD-POWER-UP (R21 to R23, R125).
-/

namespace Sys2Proof.Machine

open Safety

/-! ## Replies to requests -/

/-- R187: no slot has the number 4. -/
theorem withSlot_four (s : State) (f : Slot → Served) : withSlot s 4 f = answer s .refusedRange := rfl

/-- R187, check 3: a request whose socket numbers do not all lie in 0 to 31. -/
theorem any_above_31_iff (l : List Nat) : l.any (fun n => decide (31 < n)) = true ↔ ∃ n ∈ l, 31 < n := by simp

theorem any_above_31_false {l : List Nat} (h : ∀ n ∈ l, n ≤ 31) : l.any (fun n => decide (31 < n)) = false := by
  simpa using h

/-! ## Readouts -/

/-- R38: an entry for each of the first 23 sockets of the list. -/
theorem serveSocketStatus_ok (k : Slot) (l : List Nat) (s : State) (h1 : 1 ≤ l.length) (h2 : l.length ≤ 32)
    (hb : (s.slot k).board ≠ .empty) (hl : ∀ n ∈ l, n ≤ 31) :
    serveSocketStatus k.code l s = ⟨s, 0 :: u8 (min 23 l.length) ++ (l.take 23).flatMap fun n =>
      socketStatusBytes ((s.scanner k).records.get (socketOf n)) (s.socket k (socketOf n))
        (s.record k (socketOf n)).verdict⟩ := by
  have hn : ¬ (l.length = 0 ∨ 32 < l.length) := by omega
  simp only [serveSocketStatus, if_neg hn, withSlot_code, if_neg hb, any_above_31_false hl, Bool.false_eq_true, if_false,
    reply, List.length_take, List.length_map, ← List.map_take, List.flatMap_map]
  rfl

theorem serveSocketStatus_range (k : Slot) (l : List Nat) (s : State) (h1 : 1 ≤ l.length) (h2 : l.length ≤ 32)
    (hb : (s.slot k).board ≠ .empty) (hl : ∃ n ∈ l, 31 < n) : serveSocketStatus k.code l s = answer s .refusedRange := by
  have hn : ¬ (l.length = 0 ∨ 32 < l.length) := by omega
  simp only [serveSocketStatus, if_neg hn, withSlot_code, if_neg hb, (any_above_31_iff l).mpr hl, if_true]

theorem serveSocketStatus_empty (k : Slot) (l : List Nat) (s : State) (h1 : 1 ≤ l.length) (h2 : l.length ≤ 32)
    (hb : (s.slot k).board = .empty) : serveSocketStatus k.code l s = answer s .noBoard := by
  have hn : ¬ (l.length = 0 ∨ 32 < l.length) := by omega
  simp only [serveSocketStatus, if_neg hn, withSlot_code, if_pos hb]

/-- Settles O7: the four readouts without operands reply what their rules read; SOCKET-STATUS by its checks in turn. -/
theorem readoutsChangeOnlyTheLink : Obligations.ReadoutsChangeOnlyTheLink := by
  intro s h
  refine ⟨?_, ?_, ?_, ?_, fun k l => ⟨fun h1 h2 => ⟨fun hb hl => ?_, fun hb hl => ?_, fun hb => ?_⟩, fun hn => ?_⟩⟩ <;>
    refine congrArg Host.Outcome.next (takeRequest_replied _ _ _ _ _ h ?_)
  · rfl
  · exact congrArg (Served.mk (received s)) (List.singleton_append ..)
  · exact congrArg (Served.mk _) (List.singleton_append ..)
  · exact congrArg (Served.mk _) (List.singleton_append ..)
  · simpa using serveSocketStatus_ok k l (received s) h1 h2 (by simpa using hb) hl
  · exact serveSocketStatus_range k l (received s) h1 h2 (by simpa using hb) hl
  · exact serveSocketStatus_empty k l (received s) h1 h2 (by simpa using hb)
  · exact if_pos hn

/-! ## BOARD-POWER-UP -/

theorem serveBoardPowerUp_present {k : Slot} {s : State} (hz : s.zone.state ≠ .safe) (hb : (s.slot k).board = .present) :
    serveBoardPowerUp k.code s
      = if (s.slot k).status = .valid ∧ (s.slot k).active.vcore ≠ 0 ∧ (s.slot k).active.vio ≠ 0 then
          answer (startRamp k s) .ok
        else answer s .refusedState := by
  simp [serveBoardPowerUp, hz, hb]

/-- R22, R125: the answer to a board that is not PRESENT. -/
theorem serveBoardPowerUp_other {k : Slot} {s : State} (hz : s.zone.state ≠ .safe) (he : (s.slot k).board ≠ .empty)
    (hb : (s.slot k).board ≠ .present) :
    serveBoardPowerUp k.code s = answer s (if (s.slot k).board.checked then .ok else .refusedState) := by
  simp only [serveBoardPowerUp, withSlot_code, if_neg he, if_neg hz]
  cases e : (s.slot k).board <;> simp [BoardState.checked, e] at he hb ⊢

/-- R23: the ramp starts with the rail that comes first in the order in force. -/
theorem startRamp_eq (k : Slot) (s : State) :
    startRamp k s = s.setSlot k
      (match (s.slot k).active.order with
        | .vioFirst => { s.slot k with
            board := .ramping, ramp := some ⟨.vioFirst, .first⟩
            vio := { (s.slot k).vio with target := (s.slot k).active.vio, cond := .settling, settle := some 200 } }
        | .vcoreFirst => { s.slot k with
            board := .ramping, ramp := some ⟨.vcoreFirst, .first⟩
            vcore := { (s.slot k).vcore with target := (s.slot k).active.vcore, cond := .settling
                                             settle := some 200 } }) := by
  unfold startRamp startRail
  cases e : (s.slot k).active.order <;>
    simp [RailOrder.first, SlotCtl.setRail, Rail.of, Settings.setpoint, Config.settleLimit, e]

/-- Settles O28: each board state and answer from the checks of BOARD-POWER-UP in turn. -/
theorem boardPowerUpStartsTheRamp : Obligations.BoardPowerUpStartsTheRamp := by
  intro s k h c up
  have other (hz : s.zone.state ≠ .safe) (he : c.board ≠ .empty) (hp : c.board ≠ .present) :
      up = .next (replied 0x10 [if c.board.checked then 0 else 3] s) := by
    refine congrArg Host.Outcome.next (takeRequest_replied _ _ _ _ _ h ?_)
    rw [serveBoardPowerUp_other (by simpa using hz) (by simpa using he) (by simpa using hp)]
    cases e : c.board.checked <;> simp [c] at e <;> simp [e] <;> rfl
  refine ⟨fun hz => ⟨fun hb hv hc hi => ⟨fun ho => ?_, fun ho => ?_⟩, fun hb hn => ?_, fun hb => ?_, fun hb => ?_⟩,
    fun hb => ?_, fun he hz => ?_, ?_⟩
  case refine_1 | refine_2 =>
    refine congrArg Host.Outcome.next (takeRequest_replied _ _ _ _ _ h ?_)
    rw [serveBoardPowerUp_present (by simpa using hz) (by simpa using hb), if_pos (by simpa using ⟨hv, hc, hi⟩),
      startRamp_eq]
    simp only [received_frame, c] at ho ⊢
    rw [ho]
    rfl
  · refine congrArg Host.Outcome.next (takeRequest_replied _ _ _ _ _ h ?_)
    rw [serveBoardPowerUp_present (by simpa using hz) (by simpa using hb), if_neg]
    · rfl
    · simp only [received_frame]
      tauto
  · rw [other hz (by rintro e; simp [e] at hb) (by rintro e; simp [e] at hb)]
    obtain e | e := hb <;> rw [e] <;> rfl
  · rw [other hz (by rintro e; simp [e] at hb) (by rintro e; simp [e] at hb)]
    obtain e | e | e := hb <;> rw [e] <;> rfl
  · refine congrArg Host.Outcome.next (takeRequest_replied _ _ _ _ _ h ?_)
    simp only [serveBoardPowerUp, withSlot_code, received_frame]
    rw [if_pos hb]
    rfl
  · refine congrArg Host.Outcome.next (takeRequest_replied _ _ _ _ _ h ?_)
    simp only [serveBoardPowerUp, withSlot_code, received_frame]
    rw [if_neg he, if_pos hz]
    rfl
  · exact congrArg Host.Outcome.next (takeRequest_replied _ _ _ _ _ h rfl)

end Sys2Proof.Machine
end


section
/-!
PROOFS. BOARD-STAGE (R18, R19, R65, R68, R191).
-/

namespace Sys2Proof.Machine

open Safety

/-! ## The checks of a list of items -/

theorem stageSetsOff_iff (i : StageItem) : stageSetsOff i = true ↔ i = .vcore 0 ∨ i = .vio 0 := by
  unfold stageSetsOff
  split <;> simp_all

/-- R19: a list sets a setpoint off. -/
theorem any_stageSetsOff_iff (l : List StageItem) :
    l.any stageSetsOff = true ↔ .vcore 0 ∈ l ∨ .vio 0 ∈ l := by
  simp only [List.any_eq_true, stageSetsOff_iff, and_or_left, exists_or, exists_eq_right]

theorem all_stageInRange_iff (l : List StageItem) : l.all stageInRange = true ↔ ∀ i ∈ l, StageOk i := by
  simp only [List.all_eq_true, stageInRange_iff]

/-- The division of a payload into items goes on to the end where every item is known. -/
theorem takeWhile_known {l : List StageItem} (hk : ∀ n, .unknown n ∉ l) :
    l.takeWhile (fun i => !stageUnknown i) = l := by
  refine List.takeWhile_eq_self_iff.mpr fun i hi => ?_
  cases i with
  | unknown n => exact absurd hi (hk n)
  | _ => rfl

/-- An unknown item ends the division. -/
theorem takeWhile_unknown {l : List StageItem} {n : Nat} (hn : .unknown n ∈ l) :
    (l.takeWhile (fun i => !stageUnknown i)).length < l.length := by
  refine lt_of_le_of_ne (List.takeWhile_prefix _).length_le fun e => ?_
  have h := List.takeWhile_eq_self_iff.mp ((List.takeWhile_prefix _).eq_of_length e) _ hn
  exact absurd h (by simp [stageUnknown])

theorem stageItems_range {k : Slot} {l : List StageItem} {s : State} (h : ∃ i ∈ l, ¬ StageOk i) :
    stageItems k l s = answer s .refusedRange := by
  have hr : l.all stageInRange = false := by
    obtain ⟨i, hi, hn⟩ := h
    exact Bool.eq_false_iff.mpr fun e => hn ((all_stageInRange_iff l).mp e i hi)
  simp only [stageItems, hr, if_true]

theorem stageItems_off {k : Slot} {l : List StageItem} {s : State} (h : ∀ i ∈ l, StageOk i)
    (hb : (s.slot k).board.checked = true) (ho : .vcore 0 ∈ l ∨ .vio 0 ∈ l) :
    stageItems k l s = answer s .refusedState := by
  simp only [stageItems, (all_stageInRange_iff l).mpr h, hb, (any_stageSetsOff_iff l).mpr ho, Bool.and_self,
    Bool.true_eq_false, if_true, if_false]

/-- R19: every item of a list in range is written, in order. -/
theorem stageItems_ok {k : Slot} {l : List StageItem} {s : State} (h : ∀ i ∈ l, StageOk i)
    (ho : (s.slot k).board.checked = true → .vcore 0 ∉ l ∧ .vio 0 ∉ l) :
    let c := s.slot k
    let t := l.foldl (stagePut (c.setpointMax .vcore) (c.setpointMax .vio)) c.staged
    stageItems k l s = ⟨s.setSlot k { c with staged := t },
      (if l.any (stageAbove (c.setpointMax .vcore) (c.setpointMax .vio)) then 2 else 0)
        :: (settingsBytes c.active ++ settingsBytes t)⟩ := by
  dsimp only
  have hf (t : Settings) : l.foldl (stageItem (s.slot k)) t
      = l.foldl (stagePut ((s.slot k).setpointMax .vcore) ((s.slot k).setpointMax .vio)) t :=
    List.foldl_ext _ _ _ fun t i hi => stageItem_eq (s.slot k) t i (h i hi)
  have ha : stageLowered (s.slot k) = stageAbove ((s.slot k).setpointMax .vcore) ((s.slot k).setpointMax .vio) :=
    funext (stageLowered_eq (s.slot k))
  have hn : ¬ ((s.slot k).board.checked && l.any stageSetsOff) = true := by
    rw [Bool.and_eq_true, any_stageSetsOff_iff]
    tauto
  simp only [stageItems, (all_stageInRange_iff l).mpr h, hf, ha, if_neg hn, Bool.true_eq_false, if_false,
    State.setSlot_slot_same, reply, stageReply]
  split <;> rfl

/-! ## The request -/

/-- R187, check 4: the answers of a slot that takes no settings to a list of 1 to 15 known items. -/
theorem serveBoardStage_refused {k : Slot} {l : List StageItem} {s : State} (h1 : 1 ≤ l.length) (h2 : l.length ≤ 15)
    (hk : ∀ n, .unknown n ∉ l) :
    ((s.slot k).board = .empty → serveBoardStage k.code l s = answer s .noBoard)
      ∧ ((s.slot k).board = .ident → serveBoardStage k.code l s = answer s .refusedState)
      ∧ serveBoardStage 4 l s = answer s .refusedRange := by
  have hn : ¬ (l.length = 0 ∨ 15 < l.length) := by omega
  refine ⟨fun e => ?_, fun e => ?_, ?_⟩ <;>
    simp only [serveBoardStage, takeWhile_known hk, lt_irrefl, if_false, withSlot_code, withSlot_four, *]

/-- R19, R191: an unknown item is refused as one out of range is, by a slot that is neither EMPTY nor in IDENT. -/
theorem serveBoardStage_items {k : Slot} {l : List StageItem} {s : State} (h1 : 1 ≤ l.length) (h2 : l.length ≤ 15)
    (he : (s.slot k).board ≠ .empty) (hi : (s.slot k).board ≠ .ident) :
    serveBoardStage k.code l s = stageItems k l s := by
  by_cases hk : ∀ n, .unknown n ∉ l
  · have hn : ¬ (l.length = 0 ∨ 15 < l.length) := by omega
    simp only [serveBoardStage, takeWhile_known hk, if_neg hn, lt_irrefl, if_false, withSlot_code]
    cases e : (s.slot k).board
    case empty => exact absurd e he
    case ident => exact absurd e hi
    all_goals rfl
  · obtain ⟨n, hn⟩ : ∃ n, .unknown n ∈ l := by simpa using hk
    have hw := takeWhile_unknown hn
    rw [stageItems_range ⟨_, hn, id⟩]
    unfold serveBoardStage
    dsimp only
    rw [if_neg (by omega), if_pos hw]

section Stage

variable {s : State} {k : Slot} {l : List StageItem}

/-- R19: the list is refused with nothing written. -/
theorem exec_boardStage_range (h : Ready s) (h1 : 1 ≤ l.length) (h2 : l.length ≤ 15) (he : (s.slot k).board ≠ .empty)
    (hi : (s.slot k).board ≠ .ident) (hl : ∃ i ∈ l, ¬ StageOk i) :
    exec (.boardStage k.code l) s = .next (replied 0x12 [4] s) := by
  refine congrArg Host.Outcome.next (takeRequest_replied _ _ _ _ _ h ?_)
  rw [serveBoardStage_items h1 h2 (by simpa using he) (by simpa using hi), stageItems_range hl]
  rfl

theorem exec_boardStage_off (h : Ready s) (h1 : 1 ≤ l.length) (h2 : l.length ≤ 15) (he : (s.slot k).board ≠ .empty)
    (hi : (s.slot k).board ≠ .ident) (hl : ∀ i ∈ l, StageOk i) (hb : (s.slot k).board.checked = true)
    (ho : .vcore 0 ∈ l ∨ .vio 0 ∈ l) : exec (.boardStage k.code l) s = .next (replied 0x12 [3] s) := by
  refine congrArg Host.Outcome.next (takeRequest_replied _ _ _ _ _ h ?_)
  rw [serveBoardStage_items h1 h2 (by simpa using he) (by simpa using hi), stageItems_off hl (by simpa using hb) ho]
  rfl

/-- R19: the list is written, and both copies are returned. -/
theorem exec_boardStage_ok (h : Ready s) (h1 : 1 ≤ l.length) (h2 : l.length ≤ 15) (he : (s.slot k).board ≠ .empty)
    (hi : (s.slot k).board ≠ .ident) (hl : ∀ i ∈ l, StageOk i)
    (ho : (s.slot k).board.checked = true → .vcore 0 ∉ l ∧ .vio 0 ∉ l) :
    let c := s.slot k
    let t := l.foldl (stagePut (c.setpointMax .vcore) (c.setpointMax .vio)) c.staged
    exec (.boardStage k.code l) s = .next (replied 0x12
      ((if l.any (stageAbove (c.setpointMax .vcore) (c.setpointMax .vio)) then 2 else 0)
        :: (settingsBytes c.active ++ settingsBytes t)) (s.setSlot k { c with staged := t })) := by
  refine congrArg Host.Outcome.next (takeRequest_replied _ _ _ _ _ h ?_)
  rw [serveBoardStage_items h1 h2 (by simpa using he) (by simpa using hi), stageItems_ok hl (by simpa using ho)]
  rfl

end Stage

/-- R19: the maxima of the setpoints, the descriptor's while the status is VALID. -/
theorem setpointMax_valid {c : SlotCtl} {d : Descriptor} (hv : c.status = .valid) (hd : c.descriptor = some d) :
    c.setpointMax .vcore = min 2500 d.vcoreMax ∧ c.setpointMax .vio = min 3600 d.vioMax := by
  simp [SlotCtl.setpointMax, hv, hd]

theorem setpointMax_range {c : SlotCtl} (h : c.status = .valid → c.descriptor = none) :
    c.setpointMax .vcore = 2500 ∧ c.setpointMax .vio = 3600 := by
  unfold SlotCtl.setpointMax
  cases hv : c.status
  case valid => simp [h hv]
  all_goals simp

/-- Settles O33: the three outcomes of a list (`exec_boardStage_ok`, `_off`, `_range`), each item list of the statement
being one of their cases. -/
theorem boardStageWritesOnlyTheStagedCopy : Obligations.BoardStageWritesOnlyTheStagedCopy := by
  refine ⟨fun s k l h h1 h2 hk => ?_, fun s k h he hi => ?_⟩
  · obtain ⟨h9, h3, h4⟩ := serveBoardStage_refused (k := k) (s := received s) h1 h2 hk
    refine ⟨fun hb => ?_, fun hb => ?_, ?_⟩ <;> refine congrArg Host.Outcome.next (takeRequest_replied _ _ _ _ _ h ?_)
    · exact h9 (by simpa using hb)
    · exact h3 (by simpa using hb)
    · exact h4
  intro c stage answers
  have ok (l : List StageItem) (h1 : 1 ≤ l.length) (h2 : l.length ≤ 15) (hl : ∀ i ∈ l, StageOk i)
      (ho : c.board.checked = true → .vcore 0 ∉ l ∧ .vio 0 ∉ l) :
      stage l = answers (if l.any (stageAbove (c.setpointMax .vcore) (c.setpointMax .vio)) then 2 else 0)
        (l.foldl (stagePut (c.setpointMax .vcore) (c.setpointMax .vio)) c.staged) :=
    exec_boardStage_ok h h1 h2 he hi hl ho
  have one (i : StageItem) (hl : StageOk i) (ho : i ≠ .vcore 0 ∧ i ≠ .vio 0) :
      stage [i] = answers (if stageAbove (c.setpointMax .vcore) (c.setpointMax .vio) i then 2 else 0)
        (stagePut (c.setpointMax .vcore) (c.setpointMax .vio) c.staged i) := by
    simpa using ok [i] le_rfl (by simp) (by simpa using hl) fun _ => by simpa [eq_comm] using ho
  have range (i : StageItem) (hl : ¬ StageOk i) : stage [i] = .next (replied 0x12 [4] s) :=
    exec_boardStage_range h le_rfl (by simp) he hi ⟨i, by simp, hl⟩
  have off (hb : c.board.checked = true) (i : StageItem) (hl : i = .vcore 0 ∨ i = .vio 0) :
      stage [i] = .next (replied 0x12 [3] s) := by
    refine exec_boardStage_off h le_rfl (by simp) he hi ?_ hb ?_ <;> obtain rfl | rfl := hl <;> simp [StageOk]
  refine ⟨fun l h1 h2 => ?_, fun d mv hv hd hm => ?_, fun mv hv hm => ?_, fun mv h1 h2 => range _ ?_,
    fun mv h1 h2 => range _ ?_, fun hb => ⟨off hb _ (.inl rfl), off hb _ (.inr rfl)⟩, fun hb => ?_,
    fun n h1 h2 => ⟨one _ ⟨h1, h2⟩ (by simp), one _ ⟨h1, h2⟩ (by simp)⟩,
    fun n hn => ⟨range _ ?_, range _ ?_⟩, fun n h1 h2 => ⟨one _ ⟨h1, h2⟩ (by simp), one _ ⟨h1, h2⟩ (by simp)⟩,
    fun n m h1 h2 h3 h4 => ?_, one _ trivial (by simp), ?_, fun l h1 h2 => ?_⟩
  · by_cases hl : ∀ i ∈ l, StageOk i
    · by_cases ho : c.board.checked = true → .vcore 0 ∉ l ∧ .vio 0 ∉ l
      · exact ⟨_, _, ok l h1 h2 hl ho⟩
      · refine ⟨c.staged, [3], ?_⟩
        rw [State.setSlot_self]
        exact exec_boardStage_off h h1 h2 he hi hl (by tauto) (by tauto)
    · refine ⟨c.staged, [4], ?_⟩
      rw [State.setSlot_self]
      exact exec_boardStage_range h h1 h2 he hi (by simpa using hl)
  · rw [one (.vcore mv) (.inr hm) (by simp; omega), (setpointMax_valid hv hd).1]
    simp [stageAbove, stagePut]
  · rw [one (.vio mv) (.inr hm) (by simp; omega), (setpointMax_range (c := c) (by simp [hv])).2]
    simp [stageAbove, stagePut]
  iterate 2 simp [StageOk]; omega
  · simpa [stageAbove, stagePut] using ok [.vcore 0] le_rfl (by simp) (by simp [StageOk]) (by simp [hb])
  iterate 2 simp [StageOk]; omega
  · simpa [stageAbove, stagePut] using
      ok [.window n, .retryDelay m] (by simp) (by simp) (by simp [StageOk]; omega) (by simp)
  · exact congrArg Host.Outcome.next (takeRequest_replied _ _ _ _ _ h rfl)
  · intro core io
    have hc : core = c.setpointMax .vcore ∧ io = c.setpointMax .vio := by
      cases hv : c.status <;> cases hd : c.descriptor <;> simp [core, io, SlotCtl.setpointMax, hv, hd]
    rw [hc.1, hc.2]
    exact ⟨ok l h1 h2, exec_boardStage_off h h1 h2 he hi, exec_boardStage_range h h1 h2 he hi⟩

end Sys2Proof.Machine
end


section
/-!
PROOFS. The settle limit (R21, R28), the inrush dwell (R24, R30 to R32), and switch faults and retries (R31 to R34).
-/

namespace Sys2Proof.Machine

open Safety

/-! ## The settle limit -/

/-- Settles O30: the expiry is a board trip where it is due for a SETTLING rail, and nothing elsewhere. -/
theorem settleLimitTripsTheBoard : Obligations.SettleLimitTripsTheBoard := by
  intro s k r hr c
  refine ⟨fun hb hc hd => ⟨tripBoard k r .railTimeout s, congrArg Host.Outcome.next ?_, tripBoard_spec k r _ s ?_, ?_⟩,
    fun h => congrArg Host.Outcome.next ?_⟩
  · rw [whenRunning_of_running _ _ hr]
    exact if_pos ⟨hc, (Timer.due_iff _).mpr hd⟩
  · obtain e | e := hb <;> exact e ▸ rfl
  · simp
  · rw [whenRunning_of_running _ _ hr]
    refine if_neg fun ⟨hc, hd⟩ => ?_
    exact h.elim (· hc) (· ((Timer.due_iff _).mp hd))

/-! ## The inrush dwell -/

theorem dwellExpired_of_due {k : Slot} {s : State} {o : RailOrder} {n : Nat} (hb : (s.slot k).board = .ramping)
    (hm : (s.slot k).ramp = some ⟨o, .inrush n⟩) (hd : (s.slot k).dwell = some 0) :
    dwellExpired k s = if n < 7 then startStep k (n + 1) s else enterPowered k s := by
  unfold dwellExpired
  dsimp only
  rw [hb, hm]
  exact if_pos ((Timer.due_iff _).mpr hd)

/-- R24, R30 to R32: the sockets of a list, each of which may be OFF and eligible, after a change of the board alone. -/
theorem forSockets_switchOn_of_board {k : Slot} {l : List Socket} (hl : l.Nodup) {s u : State}
    (hk : ∀ i, u.socket k i = s.socket k i ∧ u.record k i = s.record k i) (hlines : u.lines = s.lines)
    (hact : (u.slot k).active = (s.slot k).active) (hdesc : (u.slot k).descriptor = (s.slot k).descriptor)
    {chosen : Prop} {i : Socket}
    (hc : chosen ↔ i ∈ l ∧ (s.socket k i).power = .off ∧ s.eligible k i = true) :
    let p := s.socket k i
    let t := forSockets l (switchOn k) u
    (chosen → (s.lines.switchFault.get k).get i = false → t.socket k i = ⟨.on, p.strikes, p.overCode, none⟩)
      ∧ (chosen → (s.lines.switchFault.get k).get i = true → SocketTripped k i s t)
      ∧ (¬ chosen → t.socket k i = p ∧ t.record k i = s.record k i) := by
  obtain ⟨hsock, hrec⟩ := hk i
  have hel : u.eligible k i = s.eligible k i := eligible_congr (by rw [hsock]) hdesc (by rw [hact]) (by rw [hrec])
  obtain ⟨kept, went⟩ := forSockets_switchOn k l hl u i
  rw [hsock, hel, hlines] at went
  rw [hsock, hel, ← hc] at kept
  refine ⟨fun h hf => ?_, fun h hf => ?_, fun h => ?_⟩
  · obtain ⟨hi, hp, he⟩ := hc.mp h
    exact (went hi hp he).1 hf
  · obtain ⟨hi, hp, he⟩ := hc.mp h
    exact socketTripped_congr ((went hi hp he).2 hf) (by rw [hsock]) hact.symm hrec.symm
  · have hv := kept h
    simp only [socketView, Prod.mk.injEq] at hv
    obtain ⟨h1, h2, _, _⟩ := hv
    exact ⟨h1.trans hsock, h2.trans hrec⟩

/-- Settles O31: the expiry is the next step or the entry to POWERED, each a loop over its sockets. -/
theorem inrushDwellSwitchesTheNextSocketsOn : Obligations.InrushDwellSwitchesTheNextSocketsOn := by
  intro s k order n hr hb hm hd
  refine ⟨dwellExpired k s, congrArg Host.Outcome.next (whenRunning_of_running _ _ hr), ?_⟩
  rw [dwellExpired_of_due hb hm hd]
  by_cases hn : n < 7
  · rw [if_pos hn]
    refine ⟨startStep_slotFrame _ _ _, by simp, fun _ => by simp [startStep, hb, hm], fun h => absurd hn (by omega),
      fun i => ?_⟩
    have hl : n + 1 < 8 := by omega
    refine forSockets_switchOn_of_board (stepSockets_nodup _ hl) (fun i => ?_) ?_ ?_ ?_ ?_
    iterate 4 simp
    simp only [mem_stepSockets _ hl]
    constructor
    · rintro ⟨h7 | h, hp⟩
      · omega
      · exact ⟨h, hp⟩
    · rintro ⟨h, hp⟩
      exact ⟨.inr h, hp⟩
  · rw [if_neg hn]
    refine ⟨enterPowered_slotFrame _ _, by simp, fun h => absurd h hn, fun _ => by simp [enterPowered], fun i => ?_⟩
    refine forSockets_switchOn_of_board Socket.all_nodup (fun i => ?_) ?_ ?_ ?_ ?_
    iterate 4 simp
    constructor
    · rintro ⟨_, hp⟩
      exact ⟨Socket.mem_all i, hp⟩
    · rintro ⟨_, hp⟩
      exact ⟨.inl (by omega), hp⟩

/-! ## Sockets made OFF, and ON again where their board is POWERED -/

/-- R30: eligibility in its four parts. -/
theorem eligible_iff (s : State) (k : Slot) (i : Socket) :
    s.eligible k i = true ↔ (s.socket k i).power ≠ .masked ∧ (s.socket k i).power ≠ .quarantined
      ∧ (∃ d, (s.slot k).descriptor = some d ∧ i.val < d.socketCount)
      ∧ ¬ ((s.record k i).verdict = .failed ∧ (s.slot k).active.policy = .drop) := by
  unfold State.eligible
  have hd : (match (s.slot k).descriptor with
      | some d => decide (i.val < d.socketCount)
      | none => false) = true ↔ ∃ d, (s.slot k).descriptor = some d ∧ i.val < d.socketCount := by
    cases (s.slot k).descriptor <;> simp
  have hf : (!(decide ((s.record k i).verdict = .failed) && decide ((s.slot k).active.policy = .drop))) = true
      ↔ ¬ ((s.record k i).verdict = .failed ∧ (s.slot k).active.policy = .drop) := by
    simp [imp_iff_not_or]
  simp only [Bool.and_eq_true, hf, State.get_sockets, and_assoc]
  exact and_congr (decide_eq_true_iff ..) (and_congr (decide_eq_true_iff ..) (and_congr hd Iff.rfl))

/-- A trip's entry depends on the state before it only through the socket's strikes and record and the settings. -/
theorem tripLogged_congr {k : Slot} {i : Socket} {c : LogCause} {d : List Byte} {s u t : State}
    (h : TripLogged k i c d s t) (h1 : (u.socket k i).strikes = (s.socket k i).strikes)
    (h2 : (u.slot k).active = (s.slot k).active) (h3 : u.record k i = s.record k i) : TripLogged k i c d u t := by
  unfold TripLogged at h ⊢
  rw [h1, h2, h3]
  exact h

/-- R30, R31: the conditions on which a socket that is OFF goes ON, its power state apart: a POWERED board, a populated
socket, and no FAILED verdict under DROP. -/
def MayClose (k : Slot) (i : Socket) (s : State) : Prop :=
  (s.slot k).board = .powered ∧ (∃ d, (s.slot k).descriptor = some d ∧ i.val < d.socketCount)
    ∧ ¬ ((s.record k i).verdict = .failed ∧ (s.slot k).active.policy = .drop)

/-- R31: a socket is made OFF, and then ON where its board is POWERED and it is eligible. A retry, an UNMASK and a
REINSTATE end in this (`retryExpired_of_due`, `unmaskSocket_of_masked`). -/
def rejoin (k : Slot) (i : Socket) (s : State) : State :=
  if ((setPower k i .off none s).slot k).board = .powered then switchOn k i (setPower k i .off none s)
  else setPower k i .off none s

theorem rejoin_cases (k : Slot) (i : Socket) (s : State) :
    (¬ MayClose k i s ∧ rejoin k i s = setPower k i .off none s)
      ∨ (MayClose k i s ∧ (s.lines.switchFault.get k).get i = false
        ∧ rejoin k i s = setPower k i .on none (setPower k i .off none s))
      ∨ (MayClose k i s ∧ (s.lines.switchFault.get k).get i = true
        ∧ rejoin k i s = tripSocket k i .switchFault [] (setPower k i .on none (setPower k i .off none s))) := by
  have hm : MayClose k i s ↔ ((setPower k i .off none s).slot k).board = .powered
      ∧ ((setPower k i .off none s).socket k i).power = .off ∧ (setPower k i .off none s).eligible k i = true := by
    simp [MayClose, eligible_iff]
  by_cases hb : ((setPower k i .off none s).slot k).board = .powered
  · rw [rejoin, if_pos hb]
    obtain ⟨hn, e⟩ | ⟨hp, ⟨hf, e⟩ | ⟨hf, e⟩⟩ := switchOn_cases k i (setPower k i .off none s)
    · exact .inl ⟨fun h => hn (hm.mp h).2, e⟩
    · exact .inr (.inl ⟨hm.mpr ⟨hb, hp⟩, by simpa using hf, e⟩)
    · exact .inr (.inr ⟨hm.mpr ⟨hb, hp⟩, by simpa using hf, e⟩)
  · rw [rejoin, if_neg hb]
    exact .inl ⟨fun h => hb (hm.mp h).1, rfl⟩

theorem rejoin_slotFrame (k : Slot) (i : Socket) (s : State) : SlotFrame k s (rejoin k i s) := by
  unfold rejoin
  split
  · exact (setPower_slotFrame _ _ _ _ _).trans (switchOn_slotFrame _ _ _)
  · exact setPower_slotFrame _ _ _ _ _

@[simp] theorem rejoin_frame (k : Slot) (i : Socket) (s : State) :
    (rejoin k i s).lines = s.lines ∧ (rejoin k i s).zone = s.zone ∧ (rejoin k i s).link = s.link
      ∧ ((rejoin k i s).slot k).board = (s.slot k).board ∧ ((rejoin k i s).slot k).status = (s.slot k).status
      ∧ ((rejoin k i s).slot k).descriptor = (s.slot k).descriptor
      ∧ ((rejoin k i s).slot k).active = (s.slot k).active := by
  unfold rejoin
  split <;> simp

theorem rejoin_view (k : Slot) (i n : Socket) (s : State) (h : n ≠ i) :
    socketView k n (rejoin k i s) = socketView k n s := by
  unfold rejoin
  split
  · rw [switchOn_view _ _ _ _ h, setPower_view _ _ _ _ _ _ h]
  · rw [setPower_view _ _ _ _ _ _ h]

/-- A socket set to a power state with no retry and no count of its own. -/
def placed (k : Slot) (i : Socket) (p : PowerState) (s : State) : State :=
  (s.setSocket k i ⟨p, (s.socket k i).strikes, none, none⟩).setCompare k
    { s.compare k with member := (s.compare k).member.set i false, mismatch := (s.compare k).mismatch.set i 0 }

theorem setCompare_setSocket (s : State) (j k : Slot) (c : Compare) (i : Socket) (p : SocketPower) :
    (s.setCompare j c).setSocket k i p = (s.setSocket k i p).setCompare j c := rfl

theorem setSocket_setSocket (s : State) (k : Slot) (i : Socket) (p q : SocketPower) :
    (s.setSocket k i p).setSocket k i q = s.setSocket k i q := by
  simp [State.setSocket]

/-- R31, R91: what a socket that is not tripped as it goes ON becomes. -/
theorem rejoin_off {k : Slot} {i : Socket} {s : State} (h : ¬ MayClose k i s) : rejoin k i s = placed k i .off s := by
  obtain ⟨_, e⟩ | ⟨hm, _, _⟩ | ⟨hm, _, _⟩ := rejoin_cases k i s
  · rw [e]
    simp [setPower, placed]
  iterate 2 exact absurd hm h

theorem rejoin_on {k : Slot} {i : Socket} {s : State} (h : MayClose k i s)
    (hf : (s.lines.switchFault.get k).get i = false) : rejoin k i s = placed k i .on s := by
  obtain ⟨hn, _⟩ | ⟨_, _, e⟩ | ⟨_, hn, _⟩ := rejoin_cases k i s
  · exact absurd h hn
  · rw [e]
    simp [setPower, placed, setCompare_setSocket, setSocket_setSocket]
  · rw [hf] at hn; cases hn

/-- A socket tripped as it goes ON. -/
theorem rejoin_tripped {k : Slot} {i : Socket} {s : State} (h : MayClose k i s)
    (hf : (s.lines.switchFault.get k).get i = true) :
    SocketTripped k i s (rejoin k i s) ∧ TripLogged k i .switchFault [] s (rejoin k i s) := by
  obtain ⟨hn, _⟩ | ⟨_, hn, _⟩ | ⟨_, _, e⟩ := rejoin_cases k i s
  · exact absurd h hn
  · rw [hf] at hn; cases hn
  · obtain ⟨ht, hl⟩ := tripSocket_spec k i .switchFault [] (setPower k i .on none (setPower k i .off none s)) (by simp)
    rw [e]
    exact ⟨socketTripped_congr ht (by simp) (by simp) (by simp), tripLogged_congr hl (by simp) (by simp) (by simp)⟩

theorem retryExpired_of_due {k : Slot} {i : Socket} {s : State} (hp : (s.socket k i).power = .tripWait)
    (hd : (s.socket k i).retry = some 0) : retryExpired k i s = rejoin k i s :=
  if_pos ⟨hp, (Timer.due_iff _).mpr hd⟩

/-! ## Switch faults and retries -/

/-- For a socket in TRIP-WAIT on a POWERED board, `MayClose` is eligibility. -/
theorem mayClose_iff_of_tripWait {k : Slot} {i : Socket} {s : State} (hp : (s.socket k i).power = .tripWait) :
    MayClose k i s ↔ (s.slot k).board = .powered ∧ s.eligible k i = true := by
  simp [MayClose, eligible_iff, hp]

/-- Settles O40: the input's change and a trip of an ON socket; a retry that is due is a `rejoin`. -/
theorem switchFaultTripsAndRetryRecovers : Obligations.SwitchFaultTripsAndRetryRecovers := by
  intro s k i hr line p
  have fault : exec (.switchFault k i true) s = .next (tripSocket k i .switchFault [] (line true)) :=
    congrArg Host.Outcome.next (whenRunning_of_running _ (line true) hr)
  have retry : exec (.retryExpiry k i) s = .next (retryExpired k i s) :=
    congrArg Host.Outcome.next (whenRunning_of_running _ s hr)
  refine ⟨fun hp => ⟨_, fault, tripSocket_slotFrame _ _ _ _ _, ?_, ?_, ?_, ?_, fun j hj => ?_⟩, fun hp => ?_, rfl,
    fun hp hd => ?_, fun h => ?_⟩
  iterate 2 simp [line]
  · exact (tripSocket_spec k i .switchFault [] (line true) hp).1
  · exact (tripSocket_spec k i .switchFault [] (line true) hp).2
  · exact tripSocket_others k i .switchFault [] (line true) fun e => hj e.2
  · rw [fault, tripSocket_of_not_on _ _ _ _ (line true) hp]
  · rw [retry, retryExpired_of_due hp hd]
    intro goesOn
    have hg : MayClose k i s ↔ goesOn := mayClose_iff_of_tripWait hp
    refine ⟨fun h => congrArg Host.Outcome.next ?_, fun hm hf => ?_⟩
    · by_cases hm : goesOn
      · rw [rejoin_on (hg.mpr hm) (h.resolve_left (not_not.mpr hm)), if_pos hm]
        rfl
      · rw [rejoin_off (mt hg.mp hm), if_neg hm]
        rfl
    · obtain ⟨ht, hl⟩ := rejoin_tripped (hg.mpr hm) hf
      refine ⟨_, rfl, rejoin_slotFrame _ _ _, ?_, ?_, ht, hl, fun j hj => ?_⟩
      iterate 2 simp
      · have hv := rejoin_view k i j s hj
        simp only [socketView, Prod.mk.injEq] at hv
        exact ⟨hv.1, hv.2.1⟩
  · rw [retry]
    refine congrArg Host.Outcome.next (if_neg fun ⟨hp, hd⟩ => ?_)
    exact h.elim (· hp) (· ((Timer.due_iff _).mp hd))

end Sys2Proof.Machine
end


section
/-!
PROOFS. MASK and UNMASK (R31, R32, R36, R91).
-/

namespace Sys2Proof.Machine

open Safety

/-! ## The checks of a SOCKET-SET -/

section Checks

variable {act : Slot → Socket → State → State} {k : Slot} {l : List Nat} {s : State}

/-- R187, R190: what a SOCKET-SET is refused for, in the order of the checks. -/
theorem serveSocketSet_length (h : l.length = 0 ∨ 32 < l.length) : serveSocketSet act k.code l s = answer s .refusedLength :=
  if_pos h

theorem serveSocketSet_empty (h1 : 1 ≤ l.length) (h2 : l.length ≤ 32) (hb : (s.slot k).board = .empty) :
    serveSocketSet act k.code l s = answer s .noBoard := by
  have hn : ¬ (l.length = 0 ∨ 32 < l.length) := by omega
  simp only [serveSocketSet, socketSetChecks, if_neg hn, withSlot_code, hb]

theorem serveSocketSet_ident (h1 : 1 ≤ l.length) (h2 : l.length ≤ 32) (hb : (s.slot k).board = .ident) :
    serveSocketSet act k.code l s = answer s .refusedState := by
  have hn : ¬ (l.length = 0 ∨ 32 < l.length) := by omega
  simp only [serveSocketSet, socketSetChecks, if_neg hn, withSlot_code, hb]

theorem serveSocketSet_checked (h1 : 1 ≤ l.length) (h2 : l.length ≤ 32) (he : (s.slot k).board ≠ .empty)
    (hi : (s.slot k).board ≠ .ident) :
    serveSocketSet act k.code l s
      = if l.any (fun n => decide (31 < n)) then answer s .refusedRange
        else reply (forSockets (l.map socketOf) (act k) s) .ok
          (l.flatMap fun n => u8 ((forSockets (l.map socketOf) (act k) s).socket k (socketOf n)).power.code) := by
  have hn : ¬ (l.length = 0 ∨ 32 < l.length) := by omega
  simp only [serveSocketSet, socketSetChecks, if_neg hn, withSlot_code]
  cases e : (s.slot k).board
  case empty => exact absurd e he
  case ident => exact absurd e hi
  all_goals rfl

theorem serveSocketSet_range (h1 : 1 ≤ l.length) (h2 : l.length ≤ 32) (he : (s.slot k).board ≠ .empty)
    (hi : (s.slot k).board ≠ .ident) (hl : ∃ n ∈ l, 31 < n) : serveSocketSet act k.code l s = answer s .refusedRange := by
  rw [serveSocketSet_checked h1 h2 he hi, if_pos ((any_above_31_iff l).mpr hl)]

/-- R36: the action on each listed socket in list order, and the power states after it. -/
theorem serveSocketSet_ok (h1 : 1 ≤ l.length) (h2 : l.length ≤ 32) (he : (s.slot k).board ≠ .empty)
    (hi : (s.slot k).board ≠ .ident) (hl : ∀ n ∈ l, n ≤ 31) :
    serveSocketSet act k.code l s = ⟨forSockets (l.map socketOf) (act k) s, 0 :: l.map fun n =>
      BitVec.ofNat 8 ((forSockets (l.map socketOf) (act k) s).socket k (socketOf n)).power.code⟩ := by
  rw [serveSocketSet_checked h1 h2 he hi, any_above_31_false hl]
  exact congrArg (fun p => Served.mk _ (0 :: p)) List.map_eq_flatMap.symm

end Checks

/-- R186, R188: the reply to a SOCKET-SET whose list is acted on. -/
theorem takeRequest_socketSet {act : Slot → Socket → State → State} {k : Slot} {l : List Nat} {s : State} (h : Ready s)
    (h1 : 1 ≤ l.length) (h2 : l.length ≤ 32) (he : (s.slot k).board ≠ .empty) (hi : (s.slot k).board ≠ .ident)
    (hl : ∀ n ∈ l, n ≤ 31) (hk : ∀ i u, (act k i u).link = u.link) :
    let t := forSockets (l.map socketOf) (act k) (received s)
    takeRequest 0x15 (serveSocketSet act k.code l) s
      = replied 0x15 (0 :: l.map fun n => BitVec.ofNat 8 (t.socket k (socketOf n)).power.code) t := by
  have e := serveSocketSet_ok (act := act) (s := received s) h1 h2 (by simpa using he) (by simpa using hi) hl
  rw [takeRequest_next _ _ _ h, e]
  rw [e]
  exact forSockets_keeps State.link _ hk _ _

/-- R186, R188: the reply to a SOCKET-SET that is refused. -/
theorem takeRequest_refused {kind : Byte} {serve : State → Served} {s : State} {r : Status} (h : Ready s)
    (hs : serve (received s) = answer (received s) r) :
    takeRequest kind serve s = replied kind [BitVec.ofNat 8 r.code] s :=
  takeRequest_replied _ _ _ _ _ h (hs.trans rfl)

/-! ## A loop over a list that may name a socket more than once -/

/-- Where a second turn of a socket finds nothing to do, a listed socket is as its first turn leaves it, and a socket that
is not listed is as before. -/
theorem forSockets_settled {α : Type} (view : Socket → State → α) (inv : State → Prop) (f : Socket → State → State)
    (hview : ∀ i n s, n ≠ i → view n (f i s) = view n s) (hinv : ∀ i s, inv s → inv (f i s))
    (again : ∀ n u v, inv u → inv v → view n v = view n (f n u) → view n (f n v) = view n v)
    (l : List Socket) (s : State) (hs : inv s) (n : Socket) :
    (n ∉ l → view n (forSockets l f s) = view n s)
      ∧ (n ∈ l → ∃ u, inv u ∧ view n u = view n s ∧ view n (forSockets l f s) = view n (f n u)
          ∧ ∀ P : State → Prop, (∀ i s, P s → P (f i s)) → P (f n u) → P (forSockets l f s)) := by
  induction l generalizing s with
  | nil => simp
  | cons i l ih =>
    obtain ⟨absent, listed⟩ := ih (f i s) (hinv i s hs)
    rw [forSockets_cons]
    refine ⟨fun hn => ?_, fun hn => ?_⟩
    · rw [List.mem_cons, not_or] at hn
      rw [absent hn.2, hview i n s hn.1]
    · by_cases e : n = i
      · subst e
        refine ⟨s, hs, rfl, ?_, fun P hP h => forSockets_invariant P f hP l _ h⟩
        refine (forSockets_invariant (fun v => inv v ∧ view n v = view n (f n s)) f (fun j v ⟨hv, e⟩ => ?_) l _
          ⟨hinv n s hs, rfl⟩).2
        refine ⟨hinv j v hv, ?_⟩
        by_cases hj : n = j
        · subst hj
          rw [again n s v hs hv e, e]
        · rw [hview j n v hj, e]
      · obtain ⟨u, hu, hv, hr, hP⟩ := listed ((List.mem_cons.mp hn).resolve_left e)
        exact ⟨u, hu, by rw [hv, hview i n s e], hr, hP⟩

theorem mem_map_socketOf {l : List Nat} (hl : ∀ n ∈ l, n ≤ 31) (i : Socket) : i ∈ l.map socketOf ↔ i.val ∈ l := by
  have val {n : Nat} (hn : n ≤ 31) : (socketOf n).val = n := by
    simp only [socketOf, Fin.ofNat]
    omega
  rw [List.mem_map]
  constructor
  · rintro ⟨n, hn, rfl⟩
    rw [val (hl n hn)]
    exact hn
  · exact fun h => ⟨i.val, h, socketOf_val i⟩

/-! ## MASK -/

theorem maskSocket_of {k : Slot} {i : Socket} {s : State} (h : (s.socket k i).power ≠ .masked ∧ (s.socket k i).power ≠ .quarantined) :
    maskSocket k i s = setPower k i .masked none s := by
  unfold maskSocket
  split
  iterate 3 rfl
  · next e => exact absurd e h.1
  · next e => exact absurd e h.2

theorem maskSocket_of_not {k : Slot} {i : Socket} {s : State}
    (h : ¬ ((s.socket k i).power ≠ .masked ∧ (s.socket k i).power ≠ .quarantined)) : maskSocket k i s = s := by
  unfold maskSocket
  split
  iterate 3 next e => exact absurd (by simp [e]) h
  iterate 2 rfl

theorem maskSocket_cases (k : Slot) (i : Socket) (s : State) :
    maskSocket k i s = s ∨ maskSocket k i s = setPower k i .masked none s := by
  by_cases h : (s.socket k i).power ≠ .masked ∧ (s.socket k i).power ≠ .quarantined
  · exact .inr (maskSocket_of h)
  · exact .inl (maskSocket_of_not h)

@[simp] theorem maskSocket_frame (k : Slot) (i : Socket) (s : State) :
    (maskSocket k i s).log = s.log ∧ (maskSocket k i s).acct = s.acct ∧ (maskSocket k i s).alert = s.alert
      ∧ (maskSocket k i s).zone = s.zone ∧ (maskSocket k i s).link = s.link := by
  obtain e | e := maskSocket_cases k i s <;> rw [e] <;> simp

theorem maskSocket_slotFrame (k : Slot) (i : Socket) (s : State) : SlotFrame k s (maskSocket k i s) := by
  obtain e | e := maskSocket_cases k i s <;> rw [e]
  · exact SlotFrame.refl _ _
  · exact setPower_slotFrame _ _ _ _ _

theorem maskSocket_view (k : Slot) (i n : Socket) (s : State) (h : n ≠ i) :
    socketView k n (maskSocket k i s) = socketView k n s := by
  obtain e | e := maskSocket_cases k i s <;> rw [e]
  exact setPower_view _ _ _ _ _ _ h

/-- The sockets of a slot controller changed, and nothing else of it. -/
def SocketsOnly (k : Slot) (s t : State) : Prop := t.slot k = { s.slot k with sockets := (t.slot k).sockets }

theorem SocketsOnly.refl (k : Slot) (s : State) : SocketsOnly k s s := rfl

theorem SocketsOnly.trans {k : Slot} {s t u : State} (h : SocketsOnly k s t) (g : SocketsOnly k t u) :
    SocketsOnly k s u := by
  unfold SocketsOnly at *
  rw [g, h]

theorem State.setSocket_socketsOnly (s : State) (k : Slot) (i : Socket) (p : SocketPower) :
    SocketsOnly k s (s.setSocket k i p) := by
  simp [SocketsOnly, State.setSocket]

theorem setPower_socketsOnly (k : Slot) (i : Socket) (p : PowerState) (r : Timer) (s : State) :
    SocketsOnly k s (setPower k i p r s) := by
  unfold setPower
  split
  · exact State.setSocket_socketsOnly _ _ _ _
  · exact State.setSocket_socketsOnly _ _ _ _

theorem maskSocket_socketsOnly (k : Slot) (i : Socket) (s : State) : SocketsOnly k s (maskSocket k i s) := by
  obtain e | e := maskSocket_cases k i s <;> rw [e]
  · exact .refl _ _
  · exact setPower_socketsOnly _ _ _ _ _

/-- R36, R91: what MASK leaves of a listed socket. -/
theorem forSockets_maskSocket (k : Slot) (l : List Socket) (s : State) (i : Socket) :
    let p := s.socket k i
    let t := forSockets l (maskSocket k) s
    let acts := i ∈ l ∧ p.power ≠ .masked ∧ p.power ≠ .quarantined
    (acts → t.socket k i = ⟨.masked, p.strikes, none, none⟩
        ∧ (t.compare k).member.get i = false ∧ (t.compare k).mismatch.get i = 0)
      ∧ (¬ acts → socketView k i t = socketView k i s) := by
  dsimp only
  obtain ⟨absent, listed⟩ := forSockets_settled (socketView k) (fun _ => True) (maskSocket k)
    (fun i n u h => maskSocket_view k i n u h) (fun _ _ _ => trivial) (fun n u v _ _ hv => by
      simp only [socketView, Prod.mk.injEq] at hv
      rw [maskSocket_of_not]
      rw [hv.1]
      by_cases h : (u.socket k n).power ≠ .masked ∧ (u.socket k n).power ≠ .quarantined
      · simp [maskSocket_of h]
      · rw [maskSocket_of_not h]
        exact h) l s trivial i
  refine ⟨fun ⟨hi, hp⟩ => ?_, fun hn => ?_⟩
  · obtain ⟨u, _, hv, e, _⟩ := listed hi
    simp only [socketView, Prod.mk.injEq] at hv e
    obtain ⟨hs, _, hm, hc⟩ := e
    rw [hs, hm, hc, maskSocket_of (by rw [hv.1]; exact hp)]
    simp [setPower_compare, hv.1]
  · by_cases hi : i ∈ l
    · obtain ⟨u, _, hv, e, _⟩ := listed hi
      rw [e, maskSocket_of_not, hv]
      simp only [socketView, Prod.mk.injEq] at hv
      rw [hv.1]
      exact fun hp => hn ⟨hi, hp⟩
    · exact absent hi

/-! ## UNMASK -/

theorem unmaskSocket_of_masked {k : Slot} {i : Socket} {s : State}
    (h : (s.socket k i).power = .masked ∧ i.val < (s.slot k).countInForce) : unmaskSocket k i s = rejoin k i s :=
  if_pos h

theorem unmaskSocket_of_not {k : Slot} {i : Socket} {s : State}
    (h : ¬ ((s.socket k i).power = .masked ∧ i.val < (s.slot k).countInForce)) : unmaskSocket k i s = s :=
  if_neg h

theorem unmaskSocket_cases (k : Slot) (i : Socket) (s : State) :
    unmaskSocket k i s = s ∨ unmaskSocket k i s = rejoin k i s := by
  by_cases h : (s.socket k i).power = .masked ∧ i.val < (s.slot k).countInForce
  · exact .inr (unmaskSocket_of_masked h)
  · exact .inl (unmaskSocket_of_not h)

@[simp] theorem unmaskSocket_frame (k : Slot) (i : Socket) (s : State) :
    (unmaskSocket k i s).lines = s.lines ∧ (unmaskSocket k i s).zone = s.zone ∧ (unmaskSocket k i s).link = s.link
      ∧ ((unmaskSocket k i s).slot k).board = (s.slot k).board
      ∧ ((unmaskSocket k i s).slot k).status = (s.slot k).status
      ∧ ((unmaskSocket k i s).slot k).descriptor = (s.slot k).descriptor
      ∧ ((unmaskSocket k i s).slot k).active = (s.slot k).active := by
  obtain e | e := unmaskSocket_cases k i s <;> rw [e] <;> simp

theorem unmaskSocket_slotFrame (k : Slot) (i : Socket) (s : State) : SlotFrame k s (unmaskSocket k i s) := by
  obtain e | e := unmaskSocket_cases k i s <;> rw [e]
  · exact SlotFrame.refl _ _
  · exact rejoin_slotFrame _ _ _

theorem unmaskSocket_view (k : Slot) (i n : Socket) (s : State) (h : n ≠ i) :
    socketView k n (unmaskSocket k i s) = socketView k n s := by
  obtain e | e := unmaskSocket_cases k i s <;> rw [e]
  exact rejoin_view _ _ _ _ h

/-- R31, R32: the power state a `rejoin` ends in is not MASKED. -/
theorem rejoin_not_masked (k : Slot) (i : Socket) (s : State) : ((rejoin k i s).socket k i).power ≠ .masked := by
  by_cases h : MayClose k i s ∧ (s.lines.switchFault.get k).get i = true
  · obtain ⟨ht, _⟩ := (rejoin_tripped h.1 h.2).1
    split at ht
    · rw [ht.1]; simp
    · rw [ht]; simp
  · by_cases hm : MayClose k i s
    · rw [rejoin_on hm (by simpa using fun hf => h ⟨hm, hf⟩)]
      simp [placed]
    · rw [rejoin_off hm]
      simp [placed]

/-- What a step of one slot that may trip sockets keeps of them: the board, its settings and the lines. -/
def SameBoard (k : Slot) (s t : State) : Prop :=
  t.lines = s.lines ∧ (t.slot k).board = (s.slot k).board ∧ (t.slot k).status = (s.slot k).status
    ∧ (t.slot k).descriptor = (s.slot k).descriptor ∧ (t.slot k).active = (s.slot k).active

theorem SameBoard.refl (k : Slot) (s : State) : SameBoard k s s := ⟨rfl, rfl, rfl, rfl, rfl⟩

theorem SameBoard.trans {k : Slot} {s t u : State} (h : SameBoard k s t) (g : SameBoard k t u) : SameBoard k s u := by
  obtain ⟨h1, h2, h3, h4, h5⟩ := h
  obtain ⟨g1, g2, g3, g4, g5⟩ := g
  exact ⟨g1.trans h1, g2.trans h2, g3.trans h3, g4.trans h4, g5.trans h5⟩

theorem SameBoard.countInForce {k : Slot} {s t : State} (h : SameBoard k s t) :
    (t.slot k).countInForce = (s.slot k).countInForce := by
  obtain ⟨_, _, hs, hd, _⟩ := h
  unfold SlotCtl.countInForce
  rw [hs, hd]

theorem SameBoard.mayClose {k : Slot} {i : Socket} {s t : State} (h : SameBoard k s t)
    (hr : t.record k i = s.record k i) : MayClose k i t ↔ MayClose k i s := by
  obtain ⟨_, hb, _, hd, ha⟩ := h
  unfold MayClose
  rw [hb, hd, ha, hr]

theorem unmaskSocket_sameBoard (k : Slot) (i : Socket) (s : State) : SameBoard k s (unmaskSocket k i s) := by
  simp [SameBoard]

/-- A trip raises the slot's source and sets SOCKET-TRIP, and nothing of an UNMASK lowers or clears them. -/
theorem rejoin_raised (k : Slot) (i : Socket) (s : State) (h : s.alert.raised.getLsbD (2 + k.code) = true) :
    (rejoin k i s).alert.raised.getLsbD (2 + k.code) = true := by
  unfold rejoin
  split
  · exact switchOn_raised _ _ _ _ (by simpa using h)
  · simpa using h

theorem rejoin_socketTrip (k : Slot) (i : Socket) (s : State) (h : (s.slot k).socketTrip = true) :
    ((rejoin k i s).slot k).socketTrip = true := by
  unfold rejoin
  split
  · exact switchOn_socketTrip _ _ _ (by simpa using h)
  · simpa using h

/-- A trip seen through later turns of other sockets. -/
theorem socketTripped_of_view {k : Slot} {i : Socket} {s t u : State} (h : SocketTripped k i s u)
    (hv : socketView k i t = socketView k i u) (htrip : (t.slot k).socketTrip = true)
    (hr : t.alert.raised.getLsbD (2 + k.code) = true) : SocketTripped k i s t := by
  simp only [socketView, Prod.mk.injEq] at hv
  obtain ⟨h1, h2, h3, h4⟩ := hv
  unfold SocketTripped at h ⊢
  rw [h1, h2, h3, h4]
  obtain ⟨hp, hn, hm, hc, _, _⟩ := h
  exact ⟨hp, hn, hm, hc, htrip, hr⟩

theorem unmaskSocket_again (k : Slot) (n : Socket) (s u v : State) (hu : SameBoard k s u) (hv : SameBoard k s v)
    (e : socketView k n v = socketView k n (unmaskSocket k n u)) : unmaskSocket k n v = v := by
  refine unmaskSocket_of_not fun ⟨hp, hc⟩ => ?_
  simp only [socketView, Prod.mk.injEq] at e
  rw [e.1] at hp
  by_cases h : (u.socket k n).power = .masked ∧ n.val < (u.slot k).countInForce
  · rw [unmaskSocket_of_masked h] at hp
    exact rejoin_not_masked k n u hp
  · rw [unmaskSocket_of_not h] at hp
    exact h ⟨hp, by rwa [hu.countInForce, ← hv.countInForce]⟩

theorem unmaskSocket_keeps {k : Slot} {P : State → Prop} (h : ∀ i s, P s → P (rejoin k i s)) (i : Socket) (s : State)
    (hs : P s) : P (unmaskSocket k i s) := by
  obtain e | e := unmaskSocket_cases k i s <;> rw [e]
  · exact hs
  · exact h i s hs

/-- R36, R31, R32: what UNMASK leaves of a listed socket. -/
theorem forSockets_unmaskSocket (k : Slot) (l : List Socket) (s : State) (i : Socket) :
    let p := s.socket k i
    let t := forSockets l (unmaskSocket k) s
    let acts := i ∈ l ∧ p.power = .masked ∧ i.val < (s.slot k).countInForce
    (acts → ¬ MayClose k i s → t.socket k i = ⟨.off, p.strikes, none, none⟩ ∧ t.record k i = s.record k i)
      ∧ (acts → MayClose k i s → (s.lines.switchFault.get k).get i = false →
          t.socket k i = ⟨.on, p.strikes, none, none⟩ ∧ t.record k i = s.record k i)
      ∧ (acts → MayClose k i s → (s.lines.switchFault.get k).get i = true → SocketTripped k i s t)
      ∧ (¬ acts → t.socket k i = p ∧ t.record k i = s.record k i) := by
  dsimp only
  obtain ⟨absent, listed⟩ := forSockets_settled (socketView k) (SameBoard k s) (unmaskSocket k)
    (fun i n u h => unmaskSocket_view k i n u h) (fun i u h => h.trans (unmaskSocket_sameBoard k i u))
    (fun n u v hu hv e => by rw [unmaskSocket_again k n s u v hu hv e]) l s (.refl k s) i
  by_cases hi : i ∈ l
  · obtain ⟨u, hu, hv, e, hP⟩ := listed hi
    simp only [socketView, Prod.mk.injEq] at hv
    obtain ⟨h1, h2, _, _⟩ := hv
    have hm : MayClose k i u ↔ MayClose k i s := hu.mayClose h2
    have turn (hp : (s.socket k i).power = .masked ∧ i.val < (s.slot k).countInForce) :
        unmaskSocket k i u = rejoin k i u := unmaskSocket_of_masked (by rwa [h1, hu.countInForce])
    have ev := e
    simp only [socketView, Prod.mk.injEq] at ev
    obtain ⟨e1, e2, _, _⟩ := ev
    refine ⟨fun ⟨_, hp⟩ hn => ?_, fun ⟨_, hp⟩ hc hf => ?_, fun ⟨_, hp⟩ hc hf => ?_, fun hn => ?_⟩
    · rw [e1, e2, turn hp, rejoin_off (mt hm.mp hn)]
      simp [placed, h1, h2]
    · rw [e1, e2, turn hp, rejoin_on (hm.mpr hc) (by rwa [hu.1])]
      simp [placed, h1, h2]
    · obtain ⟨ht, _⟩ := rejoin_tripped (hm.mpr hc) (by rwa [hu.1])
      rw [← turn hp] at ht
      obtain ⟨_, _, _, _, htrip, hr⟩ := id ht
      refine socketTripped_congr (socketTripped_of_view ht e ?_ ?_) (by rw [h1]) hu.2.2.2.2.symm h2.symm
      · exact hP _ (unmaskSocket_keeps (P := fun v => (v.slot k).socketTrip = true) (rejoin_socketTrip k)) htrip
      · exact hP _ (unmaskSocket_keeps (P := fun v => v.alert.raised.getLsbD (2 + k.code) = true) (rejoin_raised k)) hr
    · rw [e1, e2, unmaskSocket_of_not (by rw [h1, hu.countInForce]; exact fun hp => hn ⟨hi, hp⟩)]
      exact ⟨h1, h2⟩
  · have ha := absent hi
    simp only [socketView, Prod.mk.injEq] at ha
    exact ⟨fun h => absurd h.1 hi, fun h => absurd h.1 hi, fun h => absurd h.1 hi, fun _ => ⟨ha.1, ha.2.1⟩⟩

/-- R4, log entry 28: a socket below the count in force is populated. -/
theorem populated_of_countInForce {c : SlotCtl} {n : Nat} (h : n < c.countInForce) :
    ∃ d, c.descriptor = some d ∧ n < d.socketCount := by
  unfold SlotCtl.countInForce at h
  split at h
  · next d _ hd => exact ⟨d, hd, h⟩
  · exact absurd h (Nat.not_lt_zero n)

/-- With no switch-fault input active, an UNMASK writes sockets alone. -/
theorem unmaskSocket_of_no_fault {k : Slot} (i : Socket) {s : State} (h : ∀ i, (s.lines.switchFault.get k).get i = false) :
    RecordsKept s (unmaskSocket k i s) ∧ SocketsOnly k s (unmaskSocket k i s) := by
  have placed (p : PowerState) : RecordsKept s (placed k i p s) ∧ SocketsOnly k s (placed k i p s) :=
    ⟨⟨rfl, rfl, rfl⟩, State.setSocket_socketsOnly _ _ _ _⟩
  obtain e | e := unmaskSocket_cases k i s <;> rw [e]
  · exact ⟨⟨rfl, rfl, rfl⟩, .refl _ _⟩
  · by_cases hm : MayClose k i s
    · rw [rejoin_on hm (h i)]
      exact placed .on
    · rw [rejoin_off hm]
      exact placed .off

theorem forSockets_unmaskSocket_of_no_fault {k : Slot} (l : List Socket) {s : State}
    (h : ∀ i, (s.lines.switchFault.get k).get i = false) :
    RecordsKept s (forSockets l (unmaskSocket k) s) ∧ SocketsOnly k s (forSockets l (unmaskSocket k) s) := by
  refine (forSockets_invariant (fun u => u.lines = s.lines ∧ RecordsKept s u ∧ SocketsOnly k s u) _
    (fun i u ⟨hl, hr, hs⟩ => ?_) l s ⟨rfl, ⟨rfl, rfl, rfl⟩, .refl _ _⟩).2
  obtain ⟨gr, gs⟩ := unmaskSocket_of_no_fault (k := k) i (s := u) (by rwa [hl])
  exact ⟨by simpa using hl, hr.trans gr, hs.trans gs⟩

/-- Settles O38: the checks of a SOCKET-SET, then a loop over the list in which a second turn of a socket finds nothing to
do. -/
theorem maskAndUnmaskActOnTheListedSockets : Obligations.MaskAndUnmaskActOnTheListedSockets := by
  intro s k l h refused
  refine ⟨fun he hi h1 h2 hl => ⟨?_, ?_⟩, fun h1 h2 => ⟨fun hb => ?_, fun hb => ?_, fun he hi hl => ?_⟩, fun hn => ?_⟩
  · refine ⟨_, congrArg Host.Outcome.next (takeRequest_socketSet h h1 h2 he hi hl (fun i u => by simp)), ?_, ?_, ?_, ?_, ?_⟩
    · exact (received_slotFrame k s).trans (forSockets_slotFrame _ (fun i u => maskSocket_slotFrame k i u) _ _)
    · exact ⟨forSockets_keeps State.log _ (by simp) _ _, forSockets_keeps State.acct _ (by simp) _ _,
        forSockets_keeps State.alert _ (by simp) _ _⟩
    · exact forSockets_keeps State.zone _ (by simp) _ _
    · exact forSockets_invariant (SocketsOnly k (received s)) _
        (fun i u hu => hu.trans (maskSocket_socketsOnly k i u)) _ _ (.refl _ _)
    · intro i p acts
      obtain ⟨masked, kept⟩ := forSockets_maskSocket k (l.map socketOf) (received s) i
      simp only [mem_map_socketOf hl, received_frame] at masked kept
      refine ⟨masked, fun hn => ?_⟩
      have hv := kept hn
      simp only [socketView, Prod.mk.injEq, received_frame] at hv
      exact ⟨hv.1, hv.2.2⟩
  · refine ⟨_, congrArg Host.Outcome.next (takeRequest_socketSet h h1 h2 he hi hl (fun i u => by simp)), ?_, ?_, ?_, ?_⟩
    · exact (received_slotFrame k s).trans (forSockets_slotFrame _ (fun i u => unmaskSocket_slotFrame k i u) _ _)
    · exact forSockets_keeps State.zone _ (by simp) _ _
    · exact fun hf => forSockets_unmaskSocket_of_no_fault (s := received s) _ hf
    · intro i p acts kept goesOn
      obtain ⟨off, on, tripped, free⟩ := forSockets_unmaskSocket k (l.map socketOf) (received s) i
      have hm : MayClose k i (received s) ↔ MayClose k i s := Iff.rfl
      simp only [mem_map_socketOf hl, received_frame, hm] at off on tripped free
      have hg : goesOn ↔ acts ∧ MayClose k i s :=
        ⟨fun ⟨ha, hb, hk⟩ => ⟨ha, hb, populated_of_countInForce ha.2.2, hk⟩, fun ⟨ha, hb, _, hk⟩ => ⟨ha, hb, hk⟩⟩
      rw [hg]
      exact ⟨fun ha hn => off ha fun hc => hn ⟨ha, hc⟩, fun ⟨ha, hc⟩ => on ha hc,
        fun ⟨ha, hc⟩ hf => socketTripped_congr (tripped ha hc hf) rfl rfl rfl, free⟩
  · refine ⟨?_, ?_, ?_⟩ <;>
      exact congrArg Host.Outcome.next (takeRequest_refused h (serveSocketSet_empty h1 h2 (by simpa using hb)))
  · refine ⟨?_, ?_, ?_⟩ <;>
      exact congrArg Host.Outcome.next (takeRequest_refused h (serveSocketSet_ident h1 h2 (by simpa using hb)))
  · refine ⟨?_, ?_, ?_⟩ <;>
      exact congrArg Host.Outcome.next
        (takeRequest_refused h (serveSocketSet_range h1 h2 (by simpa using he) (by simpa using hi) hl))
  · refine ⟨?_, ?_, ?_⟩ <;>
      exact congrArg Host.Outcome.next (takeRequest_refused h (serveSocketSet_length hn))

end Sys2Proof.Machine
end


section
/-!
PROOFS. The end of a pair of routine conversions (R44, R50, R52), and drains (R25).
-/

namespace Sys2Proof.Machine

open Safety

/-! ## The end of a pair of routine conversions -/

/-- R44, R45: what follows the use of a pair's second result: the first is forgotten, the round goes on, and the next
conversion begins. -/
def pairDone (k : Slot) (s : State) : State := chooseNext k (advanceRound k (keepPartial k none s))

@[simp] theorem pairDone_frame (k : Slot) (s : State) :
    (pairDone k s).part = s.part ∧ (pairDone k s).lines = s.lines ∧ (pairDone k s).slots = s.slots
      ∧ (pairDone k s).chan = s.chan ∧ (pairDone k s).cmp = s.cmp ∧ (pairDone k s).acct = s.acct
      ∧ (pairDone k s).log = s.log ∧ (pairDone k s).alert = s.alert ∧ (pairDone k s).clock = s.clock
      ∧ (pairDone k s).link = s.link ∧ (∀ j, (pairDone k s).slot j = s.slot j)
      ∧ (∀ j, (pairDone k s).channel j = s.channel j) ∧ (∀ j, (pairDone k s).compare j = s.compare j)
      ∧ (∀ j n, (pairDone k s).socket j n = s.socket j n) ∧ (∀ j n, (pairDone k s).record j n = s.record j n) := by
  simp [pairDone]

theorem pairDone_slotFrame (k : Slot) (s : State) : SlotFrame k s (pairDone k s) :=
  (keepPartial_slotFrame _ _ _).trans ((advanceRound_slotFrame _ _).trans (chooseNext_slotFrame _ _))

/-- R119: only a POWERED board has a round-end signal. -/
theorem pairDone_zone {k : Slot} {s : State} (h : (s.slot k).board ≠ .powered) : (pairDone k s).zone = s.zone := by
  simp only [pairDone, chooseNext_frame, advanceRound, beginRound, roundEndSignal, keepPartial_frame, if_neg h]
  split <;> simp

/-- What a scanner has read: the records, the sensor-fault counts and the rails. -/
def Scanner.readings (c : Scanner) : Table 32 SampleRecord × Table 32 Nat × RailRecord × RailRecord :=
  (c.records, c.faults, c.vcore, c.vio)

theorem chooseNext_readings (k : Slot) (s : State) :
    ((chooseNext k s).scanner k).readings = (s.scanner k).readings := by
  unfold chooseNext beginConversion beginSet
  dsimp only
  split
  · split <;> simp [Scanner.readings]
  · simp [Scanner.readings]

theorem advanceRound_readings (k : Slot) (s : State) :
    ((advanceRound k s).scanner k).readings = (s.scanner k).readings := by
  unfold advanceRound beginRound
  dsimp only
  split <;> simp [Scanner.readings]

/-- R50, R52: the readings stay once a pair is done. -/
theorem pairDone_readings (k : Slot) (s : State) : ((pairDone k s).scanner k).readings = (s.scanner k).readings := by
  rw [pairDone, chooseNext_readings, advanceRound_readings]
  simp [keepPartial, Scanner.readings]

/-- R52: the record of rail `r` once its current conversion has ended. -/
def railRead (k : Slot) (r : Rail) (v x : Nat) (s : State) : State :=
  s.setScanner k (match r with
    | .vcore => { s.scanner k with vcore := ⟨v, x, true⟩ }
    | .vio => { s.scanner k with vio := ⟨v, x, true⟩ })

@[simp] theorem railRead_frame (k : Slot) (r : Rail) (v x : Nat) (s : State) :
    (railRead k r v x s).lines = s.lines ∧ (railRead k r v x s).chan = s.chan ∧ (railRead k r v x s).cmp = s.cmp
      ∧ (railRead k r v x s).zone = s.zone ∧ (railRead k r v x s).acct = s.acct ∧ (railRead k r v x s).log = s.log
      ∧ (railRead k r v x s).alert = s.alert ∧ (railRead k r v x s).link = s.link
      ∧ (∀ j, (railRead k r v x s).slot j = s.slot j) ∧ (∀ j, (railRead k r v x s).channel j = s.channel j)
      ∧ (∀ j, (railRead k r v x s).compare j = s.compare j)
      ∧ (∀ j n, (railRead k r v x s).socket j n = s.socket j n)
      ∧ (∀ j n, (railRead k r v x s).record j n = s.record j n) := by
  simp [railRead]

theorem railRead_slotFrame (k : Slot) (r : Rail) (v x : Nat) (s : State) : SlotFrame k s (railRead k r v x s) :=
  State.setScanner_slotFrame _ _ _

section Pairs

variable {s : State} {k : Slot} {cv : Conversion} (hp : s.part.phase = .running)
  (hr : (s.scanner k).running = true) (hc : (s.scanner k).conversion = some cv) (hd : cv.discard = false)
  (hs : (s.scanner k).converting = none)

include hp hr hc hd hs

/-- R44, R45: the end of a routine conversion that is not discarded. -/
theorem exec_routineEnd (reading : Option Int) :
    exec (.conversionEnd k reading) s = .next (chooseNext k (advanceRound k
      (routineResult k (s.scanner k).position cv.fullScale reading s))) := by
  refine congrArg Host.Outcome.next ?_
  rw [whenRunning_of_running _ _ hp]
  simp [conversionEnd, hr, hc, hs, routineEnd, hd]

/-- R52: the end of the current conversion of a rail. -/
theorem exec_railEnd {r : Rail} {v : Nat} {x : Int} (hv : (s.scanner k).partialResult = some v)
    (hpos : (s.scanner k).position = (if r = .vcore then 1 else 3)) :
    exec (.conversionEnd k (some x)) s
      = .next (pairDone k (railSample k r v (unsigned 65535 x) (railRead k r v (unsigned 65535 x) s))) := by
  rw [exec_routineEnd hp hr hc hd hs, hpos]
  cases r <;> simp [routineResult, railArrival, hv, pairDone, railRead]

end Pairs

/-! ## Drains -/

/-- R25: the rail that comes second in the order is lowered first. -/
theorem firstDown_eq (o : RailOrder) : o.first.other = if o = .vioFirst then .vcore else .vio := by
  cases o <;> rfl

/-- R25, step 5: the second rail done ends the drain. -/
theorem railDone_last (k : Slot) (r : Rail) (off : Bool) (s : State) :
    railDone k ⟨r, true, off⟩ s = s.setSlot k
      { (s.slot k).setRail r Config.railOff with board := .present, drain := none, drainLimit := none } := by
  simp [railDone]

/-- R25, steps 4 and 5: the first rail done begins the lowering of the other. -/
theorem railDone_next (k : Slot) (r : Rail) (off : Bool) (s : State) :
    railDone k ⟨r, false, off⟩ s = s.setSlot k
      { ((s.slot k).setRail r Config.railOff).setRail r.other
          { r.other.of (s.slot k) with target := 0, cond := .lowering } with
        drain := some ⟨r.other, true, decide ((r.other.of (s.slot k)).cond = .off)⟩, drainLimit := some 200 } := by
  simp [railDone, beginLowering, Config.drainLimit]

theorem drainExpired_of_due {k : Slot} {s : State} {d : Drain} (hb : (s.slot k).board = .draining)
    (hd : (s.slot k).drain = some d) (hl : (s.slot k).drainLimit = some 0) : drainExpired k s = railDone k d s := by
  unfold drainExpired
  dsimp only
  rw [hb, hd]
  exact if_pos ((Timer.due_iff _).mpr hl)

theorem drainSample_of {k : Slot} {r : Rail} {v : Nat} {s : State} {d : Drain} (hd : (s.slot k).drain = some d) :
    drainSample k r v s = if d.rail = r ∧ (v < 100 ∨ d.wasOff = true) then railDone k d s else s := by
  unfold drainSample
  rw [hd]
  rfl

/-- R25, steps 1 to 3: the slot as a drain begins, its channel still to be stopped. -/
def drainBegun (k : Slot) (s : State) : State :=
  s.setSlot k { s.slot k with
    board := .draining, sockets := (s.slot k).sockets.map SocketPower.release, ramp := none, dwell := none
    vcore := (s.slot k).vcore.quiet, vio := (s.slot k).vio.quiet }

theorem startDrain_eq (k : Slot) (s : State) :
    startDrain k s = beginLowering k (s.slot k).active.order.first.other false
      (resetThrottle k (stopChannel k false (drainBegun k s))) := rfl

/-- R25, step 4: the rail whose lowering begins. -/
theorem beginLowering_of (k : Slot) (r : Rail) (last : Bool) (s : State) :
    r.of ((beginLowering k r last s).slot k) = { r.of (s.slot k) with target := 0, cond := .lowering } := by
  cases r <;> simp [beginLowering, Rail.of, SlotCtl.setRail]

theorem railSample_draining {k : Slot} {r : Rail} {v c : Nat} {s : State} {d : Drain}
    (hb : (s.slot k).board = .draining) (hd : (s.slot k).drain = some d) :
    railSample k r v c s = if d.rail = r ∧ (v < 100 ∨ d.wasOff = true) then railDone k d s else s := by
  simp only [railSample, hb]
  exact drainSample_of hd

theorem railDone_not_powered {k : Slot} {d : Drain} {s : State} (h : (s.slot k).board ≠ .powered) :
    ((railDone k d s).slot k).board ≠ .powered := by
  obtain ⟨r, last, off⟩ := d
  cases last
  · rw [railDone_next]
    simpa using h
  · rw [railDone_last]
    simp

/-- R25, step 3: the rail lowered first, as the drain leaves it. -/
theorem startDrain_slot (k : Slot) (s : State) :
    let down := (s.slot k).active.order.first.other
    let t := startDrain k s
    (t.slot k).board = .draining ∧ (t.slot k).ramp = none ∧ (t.slot k).dwell = none
      ∧ (t.slot k).drain = some ⟨down, false, decide ((down.of (s.slot k)).cond = .off)⟩
      ∧ (t.slot k).drainLimit = some 200
      ∧ down.of (t.slot k) = ⟨(down.of (s.slot k)).command, 0, .lowering, 0, 0, none⟩ := by
  dsimp only
  rw [startDrain_eq]
  generalize hu : drainBegun k s = u
  have hb : (u.slot k).board = .draining := by rw [← hu]; simp [drainBegun]
  obtain ⟨hcore, hio⟩ := stopChannel_rails k false u (by rw [hb]; rfl)
  have rail (r : Rail) : r.of ((stopChannel k false u).slot k) = (r.of (s.slot k)).quiet := by
    cases r
    · exact hcore.trans (by rw [← hu]; simp [drainBegun, Rail.of])
    · exact hio.trans (by rw [← hu]; simp [drainBegun, Rail.of])
  have hm : (u.slot k).ramp = none ∧ (u.slot k).dwell = none := by rw [← hu]; simp [drainBegun]
  rw [beginLowering_of]
  simp [beginLowering, rail, hb, hm, RailState.quiet, Config.drainLimit]

/-- R25, R28: a drain opens every switch and cancels every retry. -/
theorem startDrain_released (k : Slot) (s : State) : Released k (startDrain k s) := by
  rw [startDrain_eq]
  generalize hu : drainBegun k s = u
  have hr : Released k u := by
    obtain ⟨_, _, _, _, _, _, h⟩ := hardOff_released (s.slot k)
    intro i
    rw [← hu, drainBegun, State.setSlot_socket_same]
    exact h i
  have h := stopChannel_released k false u (by rw [← hu]; simp [drainBegun]) hr
  intro i
  simpa [beginLowering] using h i

/-- R89, R121: the channel and the throttle state of a board that drains. -/
theorem startDrain_blocks (k : Slot) (s : State) :
    ((startDrain k s).channel k).state = .idle ∧ (startDrain k s).throttle k = ⟨0, none, none⟩ := by
  rw [startDrain_eq]
  refine ⟨?_, by simp [resetThrottle]⟩
  simpa using (stopChannel_channel k false _).1

/-- With no burst in flight a drain logs nothing, and releases each socket. -/
theorem startDrain_quiet {k : Slot} {s : State} (h : (s.channel k).state ≠ .burst) :
    RecordsKept s (startDrain k s) ∧ ∀ i, (startDrain k s).socket k i = (s.socket k i).release := by
  rw [startDrain_eq, stopChannel_of_not_burst _ _ _ (by simpa [drainBegun] using h)]
  simp [RecordsKept, beginLowering, drainBegun]

/-- R22, R25: the answer to a board with nothing to lower. -/
theorem serveBoardPowerDown_idle {k : Slot} {s : State}
    (h : (s.slot k).board = .ident ∨ (s.slot k).board = .present ∨ (s.slot k).board = .draining) :
    serveBoardPowerDown k.code s = answer s .ok := by
  obtain e | e | e := h <;> simp only [serveBoardPowerDown, withSlot_code, e]

theorem serveBoardPowerDown_live {k : Slot} {s : State}
    (h : (s.slot k).board = .ramping ∨ (s.slot k).board = .powered ∨ (s.slot k).board = .tripped) :
    serveBoardPowerDown k.code s = answer (startDrain k s) .ok := by
  obtain e | e | e := h <;> simp only [serveBoardPowerDown, withSlot_code, e]

/-- Settles O29: a drain is the release of the sockets, the channel's stop and the lowering of one rail; each rail is done
at its limit or by its sample (`railDone_next`, `railDone_last`). -/
theorem drainLowersTheRailsInReverseOrder : Obligations.DrainLowersTheRailsInReverseOrder := by
  refine ⟨fun s k => ⟨fun h hb => ?_, fun h hb => ?_, fun h hb => ?_, fun r off hp hb hl => ?_⟩,
    fun s k r d cv v x hp hr hc hdis hconv hv hpos hb hd => ?_⟩
  · have e : serveBoardPowerDown k.code (received s) = answer (startDrain k (received s)) .ok :=
      serveBoardPowerDown_live (by simpa using hb)
    obtain ⟨hboard, hramp, hdwell, hdrain, hlimit, hrail⟩ := startDrain_slot k (received s)
    obtain ⟨hidle, hthr⟩ := startDrain_blocks k (received s)
    simp only [received_frame, firstDown_eq] at hdrain hrail
    refine ⟨startDrain k (received s), ?_, hboard, hramp, hdwell, hdrain, hlimit, hrail, startDrain_released k _, hidle,
      hthr, (received_slotFrame k s).trans (startDrain_slotFrame k _), fun hn => ?_⟩
    · refine congrArg Host.Outcome.next ?_
      rw [takeRequest_next _ _ _ h (by rw [e]; simp [answer, reply]), e]
      rfl
    · obtain ⟨hrec, hsock⟩ := startDrain_quiet (k := k) (s := received s) (by simpa using hn)
      exact ⟨hrec, by simpa using hsock⟩
  · exact congrArg Host.Outcome.next (takeRequest_refused h (serveBoardPowerDown_idle (by simpa using hb)))
  · refine congrArg Host.Outcome.next (takeRequest_refused h (r := .noBoard) ?_)
    simp only [serveBoardPowerDown, withSlot_code, received_frame, hb]
  · refine ⟨fun hd => congrArg Host.Outcome.next ?_, fun hd => congrArg Host.Outcome.next ?_⟩ <;>
      rw [whenRunning_of_running _ _ hp, drainExpired_of_due hb hd hl]
    · exact railDone_last k r off s
    · exact railDone_next k r off s
  · intro c done
    have hend := exec_railEnd hp hr hc hdis hconv hv hpos (x := x)
    generalize hu : railRead k r v (unsigned 65535 x) s = u at hend
    have hslot : u.slot k = c := by rw [← hu]; simp [c]
    have hf : SlotFrame k s u := hu ▸ railRead_slotFrame _ _ _ _ _
    have hkept : RecordsKept s u := by rw [← hu]; simp [RecordsKept]
    have hblocks : u.zone = s.zone ∧ u.channel k = s.channel k ∧ u.compare k = s.compare k := by rw [← hu]; simp
    rw [railSample_draining (by rw [hslot]; exact hb) (by rw [hslot]; exact hd)] at hend
    by_cases hdone : done
    · obtain ⟨rfl, hlow⟩ := hdone
      rw [if_pos ⟨rfl, hlow⟩] at hend
      have hnot : ((railDone k d u).slot k).board ≠ .powered := railDone_not_powered (by rw [hslot, hb]; decide)
      obtain ⟨r, last, off⟩ := d
      refine ⟨_, hend, hf.trans ((railDone_slotFrame _ _ _).trans (pairDone_slotFrame _ _)), ?_, ?_, ?_, ?_,
        fun h => absurd ⟨rfl, hlow⟩ h, ?_, ?_⟩
      · simpa [RecordsKept] using hkept
      · rw [pairDone_zone hnot]
        simpa using hblocks.1
      · simpa using hblocks.2.1
      · simpa using hblocks.2.2
      · rintro - rfl
        simp [railDone_last, hslot]
      · rintro - rfl
        simp [railDone_next, hslot]
    · rw [if_neg hdone] at hend
      refine ⟨_, hend, hf.trans (pairDone_slotFrame _ _), ?_, ?_, ?_, ?_, fun _ => by simpa using hslot,
        fun h => absurd h hdone, fun h => absurd h hdone⟩
      · simpa [RecordsKept] using hkept
      · rw [pairDone_zone (by rw [hslot, hb]; decide)]
        exact hblocks.1
      · simpa using hblocks.2.1
      · simpa using hblocks.2.2

end Sys2Proof.Machine
end


section
/-!
PROOFS. Routine samples of sockets (R32, R33, R49 to R51, R122, R137).
-/

namespace Sys2Proof.Machine

open Safety

/-! ## What a sample requests -/

/-- R32: no second code over the limit in a row. -/
theorem overcurrentCheck_none {limit code : Nat} {run : Option Nat} (h : ¬ (limit < code ∧ run ≠ none)) :
    overcurrentCheck limit code run = (if limit < code then some code else none, none) := by
  unfold overcurrentCheck
  by_cases hl : limit < code
  · cases run with
    | none => simp [hl]
    | some n => exact absurd ⟨hl, by simp⟩ h
  · simp [hl]

theorem overcurrentCheck_second {limit code first : Nat} (h : limit < code) :
    overcurrentCheck limit code (some first)
      = (some first, some (.overcurrent, [BitVec.ofNat 8 first, BitVec.ofNat 8 code, BitVec.ofNat 8 limit])) := by
  unfold overcurrentCheck
  rw [if_pos h]
  rfl

theorem tempInRange_iff (t : Int) : tempInRange t = true ↔ -640 ≤ t ∧ t ≤ 3200 :=
  decide_eq_true_iff

/-- R49: a valid temperature is its own clamp. -/
theorem clampTemp_of_valid {t : Int} (h : -640 ≤ t ∧ t ≤ 3200) : clampTemp t = t := by
  simp only [clampTemp, Config.tempMin, Config.tempMax]
  omega

section Temperature

variable {cutoff t : Int} {n code : Nat}

/-- R122: a valid temperature at or above the cutoff. -/
theorem temperatureRequest_hot (h : -640 ≤ t ∧ t ≤ 3200) (hc : cutoff ≤ t) :
    temperatureRequest cutoff n (arrivalRecord code t) = some (.overtemp, s16 t) := by
  simp [temperatureRequest, arrivalRecord, (tempInRange_iff t).mpr h, clampTemp_of_valid h, hc]

theorem temperatureRequest_cool (h : -640 ≤ t ∧ t ≤ 3200) (hc : ¬ cutoff ≤ t) :
    temperatureRequest cutoff n (arrivalRecord code t) = none := by
  simp [temperatureRequest, arrivalRecord, (tempInRange_iff t).mpr h, clampTemp_of_valid h, hc]

/-- R51: the third sensor fault. -/
theorem temperatureRequest_fault (h : ¬ (-640 ≤ t ∧ t ≤ 3200)) :
    temperatureRequest cutoff n (arrivalRecord code t)
      = if n = 3 then some (.tempSensor, s16 (max (-640) (min 3200 t))) else none := by
  have hf : tempInRange t = false := Bool.eq_false_iff.mpr (mt (tempInRange_iff t).mp h)
  simp [temperatureRequest, arrivalRecord, hf, clampTemp, Config.tempMin, Config.tempMax]

/-- R51, R122: no request. -/
theorem temperatureRequest_none (hot : ¬ ((-640 ≤ t ∧ t ≤ 3200) ∧ cutoff ≤ t))
    (lost : ¬ (¬ (-640 ≤ t ∧ t ≤ 3200) ∧ n = 3)) : temperatureRequest cutoff n (arrivalRecord code t) = none := by
  by_cases h : -640 ≤ t ∧ t ≤ 3200
  · exact temperatureRequest_cool h fun hc => hot ⟨h, hc⟩
  · rw [temperatureRequest_fault h, if_neg fun hn => lost ⟨h, hn⟩]

end Temperature

/-! ## Trips of a socket whose record the sample has changed -/

/-- `socketTripped_congr` where of the record the trips alone are the same. -/
theorem socketTripped_of_trips {k : Slot} {i : Socket} {s u t : State}
    (h : SocketTripped k i s t) (h1 : (u.socket k i).strikes = (s.socket k i).strikes)
    (h2 : (u.slot k).active = (s.slot k).active) (h3 : (u.record k i).trips = (s.record k i).trips) :
    SocketTripped k i u t := by
  unfold SocketTripped at h ⊢
  rw [h1, h2, h3]
  exact h

/-- `tripLogged_congr` where of the record one flag alone is the same. -/
theorem tripLogged_of_flag {k : Slot} {i : Socket} {c : LogCause} {d : List Byte} {s u t : State}
    (h : TripLogged k i c d s t) (h1 : (u.socket k i).strikes = (s.socket k i).strikes)
    (h2 : (u.slot k).active = (s.slot k).active)
    (h3 : (u.record k i).loggedQuarantine = (s.record k i).loggedQuarantine) : TripLogged k i c d u t := by
  unfold TripLogged at h ⊢
  rw [h1, h2, h3]
  exact h

theorem pairDone_socketTripped {k j : Slot} {i : Socket} {s u : State} (h : SocketTripped k i s u) :
    SocketTripped k i s (pairDone j u) := by
  simpa [SocketTripped] using h

theorem pairDone_tripLogged {k j : Slot} {i : Socket} {c : LogCause} {d : List Byte} {s u : State}
    (h : TripLogged k i c d s u) : TripLogged k i c d s (pairDone j u) := by
  simpa [TripLogged, NewestIs, newest] using h

/-! ## The sample of an ON socket -/

/-- R32, R50, R137: an ON socket after the sample's checks, before a trip that they request. -/
def sampled (k : Slot) (i : Socket) (r : SampleRecord) (s : State) : State :=
  (if r.tempValid then s.setRecord k i ((s.record k i).raisePeak r.temp) else s).setSocket k i
    { s.socket k i with
      overCode := (overcurrentCheck (s.slot k).active.currentLimit r.code (s.socket k i).overCode).1 }

theorem sampleOn_eq (k : Slot) (i : Socket) (r : SampleRecord) (s : State) :
    sampleOn k i r s = tripEither k i (overcurrentCheck (s.slot k).active.currentLimit r.code (s.socket k i).overCode).2
      (temperatureRequest s.zone.tuning.socketCutoff ((s.scanner k).faults.get i) r) (sampled k i r s) := by
  unfold sampleOn sampled
  dsimp only
  split <;> simp

theorem sampled_socket (k : Slot) (i : Socket) (r : SampleRecord) (s : State) :
    (sampled k i r s).socket k i = { s.socket k i with
      overCode := (overcurrentCheck (s.slot k).active.currentLimit r.code (s.socket k i).overCode).1 } := by
  simp [sampled]

theorem sampled_record (k : Slot) (i : Socket) (r : SampleRecord) (s : State) :
    (sampled k i r s).record k i = if r.tempValid then (s.record k i).raisePeak r.temp else s.record k i := by
  unfold sampled
  split <;> simp

theorem sampled_others (k : Slot) (i n : Socket) (r : SampleRecord) (s : State) (h : n ≠ i) :
    (sampled k i r s).socket k n = s.socket k n ∧ (sampled k i r s).record k n = s.record k n := by
  unfold sampled
  split <;> simp [State.setSocket_socket, State.setRecord_record, h]

theorem sampled_frame (k : Slot) (i : Socket) (r : SampleRecord) (s : State) :
    (sampled k i r s).log = s.log ∧ ((sampled k i r s).slot k).active = (s.slot k).active := by
  unfold sampled
  split <;> simp

/-- R33: a trip that a sample's checks request, seen from the state before the sample. -/
theorem tripSocket_sampled {k : Slot} {i : Socket} {r : SampleRecord} {s : State} (c : LogCause) (d : List Byte) (n : Nat)
    (h : (s.socket k i).power = .on) :
    let t := tripSocket k i c d { sampled k i r s with races := n }
    SocketTripped k i s t ∧ TripLogged k i c d s t := by
  obtain ⟨ht, hl⟩ := tripSocket_spec k i c d { sampled k i r s with races := n }
    (((congrArg SocketPower.power (sampled_socket k i r s))).trans h)
  have hs : (s.socket k i).strikes = ((sampled k i r s).socket k i).strikes := by rw [sampled_socket]
  have ha : (s.slot k).active = ((sampled k i r s).slot k).active := (sampled_frame k i r s).2.symm
  have hr : (s.record k i).trips = ((sampled k i r s).record k i).trips
      ∧ (s.record k i).loggedQuarantine = ((sampled k i r s).record k i).loggedQuarantine := by
    rw [sampled_record]
    split <;> exact ⟨rfl, rfl⟩
  exact ⟨socketTripped_of_trips ht hs ha hr.1, tripLogged_of_flag hl hs ha hr.2⟩

/-! ## The arrival -/

theorem exec_socketEnd {s : State} {k : Slot} {i : Socket} {cv : Conversion} {code : Nat} {temp : Int}
    (hp : s.part.phase = .running) (hr : (s.scanner k).running = true) (hc : (s.scanner k).conversion = some cv)
    (hd : cv.discard = false) (hs : (s.scanner k).converting = none) (hv : (s.scanner k).partialResult = some code)
    (hpos : (s.scanner k).position = 5 + 2 * i.val) :
    exec (.conversionEnd k (some temp)) s = .next (pairDone k (socketSample k i code temp s)) := by
  have hpos' : (s.scanner k).position = (2 * i.val + 1) + 4 := by omega
  have hodd : ¬ (2 * i.val + 1) % 2 = 0 := by omega
  have hi : Fin.ofNat 32 ((2 * i.val + 1) / 2) = i := by
    refine Fin.ext ?_
    simp only [Fin.ofNat]
    omega
  rw [exec_routineEnd hp hr hc hd hs, hpos']
  simp only [routineResult, if_neg hodd, hi, socketArrival, hv, pairDone]

theorem socketSample_readings (k : Slot) (i : Socket) (code : Nat) (t : Int) (s : State) :
    ((socketSample k i code t s).scanner k).readings = ((s.scanner k).arrive i (arrivalRecord code t)).readings := by
  unfold socketSample
  dsimp only
  split <;> simp

/-- Another socket is left as it is. -/
theorem socketSample_others (k : Slot) (i n : Socket) (code : Nat) (t : Int) (s : State) (h : n ≠ i) :
    (socketSample k i code t s).socket k n = s.socket k n ∧ (socketSample k i code t s).record k n = s.record k n := by
  unfold socketSample
  dsimp only
  split
  · rw [sampleOn_eq]
    obtain ⟨h1, h2⟩ := sampled_others k i n (arrivalRecord code t)
      (s.setScanner k ((s.scanner k).arrive i (arrivalRecord code t))) h
    obtain ⟨_, _, e⟩ | ⟨c, d, m, _, _, e⟩ := tripEither_cases k i _ _ _ <;> rw [e]
    · exact ⟨by simpa using h1, by simpa using h2⟩
    · obtain ⟨g1, g2⟩ := tripSocket_others k i c d _ (j := k) (n := n) fun e => h e.2
      exact ⟨g1.trans (by simpa using h1), g2.trans (by simpa using h2)⟩
  · simp

/-- R50, R51: the state once the record of a sample is written. -/
def arrived (k : Slot) (i : Socket) (r : SampleRecord) (s : State) : State :=
  s.setScanner k ((s.scanner k).arrive i r)

theorem socketSample_of_not_on {k : Slot} {i : Socket} {code : Nat} {t : Int} {s : State}
    (h : (s.socket k i).power ≠ .on) : socketSample k i code t s = arrived k i (arrivalRecord code t) s := by
  have h' : ((arrived k i (arrivalRecord code t) s).socket k i).power ≠ .on := by simpa [arrived] using h
  exact if_neg h'

/-- R50: a sample of an ON socket, with the two requests it may make. -/
theorem socketSample_of_on {k : Slot} {i : Socket} {code : Nat} {t : Int} {s : State}
    (h : (s.socket k i).power = .on) :
    socketSample k i code t s = tripEither k i
      (overcurrentCheck (s.slot k).active.currentLimit code (s.socket k i).overCode).2
      (temperatureRequest s.zone.tuning.socketCutoff
        (if tempInRange t then 0 else satInc 3 ((s.scanner k).faults.get i)) (arrivalRecord code t))
      (sampled k i (arrivalRecord code t) (arrived k i (arrivalRecord code t) s)) := by
  have h' : ((arrived k i (arrivalRecord code t) s).socket k i).power = .on := by simpa [arrived] using h
  refine (if_pos h').trans ((sampleOn_eq ..).trans ?_)
  cases hv : tempInRange t <;> simp [arrived, Scanner.arrive, arrivalRecord, hv]

theorem sampled_arrived (k : Slot) (i : Socket) (code : Nat) (t : Int) (s : State) :
    let u := sampled k i (arrivalRecord code t) (arrived k i (arrivalRecord code t) s)
    u.socket k i = { s.socket k i with
        overCode := (overcurrentCheck (s.slot k).active.currentLimit code (s.socket k i).overCode).1 }
      ∧ u.record k i = (if tempInRange t then (s.record k i).raisePeak (clampTemp t) else s.record k i)
      ∧ u.log = s.log := by
  refine ⟨?_, ?_, ?_⟩
  · rw [sampled_socket]
    simp [arrived, arrivalRecord]
  · rw [sampled_record]
    simp [arrived, arrivalRecord]
  · rw [(sampled_frame ..).1]
    simp [arrived]

/-- R33: a trip that the sample of an ON socket requests. -/
theorem pairDone_tripSocket_sampled {k : Slot} {i : Socket} {code : Nat} {t : Int} {s : State}
    (h : (s.socket k i).power = .on) (c : LogCause) (d : List Byte) (n : Nat) :
    let u := pairDone k (tripSocket k i c d
      { sampled k i (arrivalRecord code t) (arrived k i (arrivalRecord code t) s) with races := n })
    SocketTripped k i s u ∧ TripLogged k i c d s u := by
  obtain ⟨ht, hl⟩ := tripSocket_sampled (k := k) (i := i) (r := arrivalRecord code t)
    (s := arrived k i (arrivalRecord code t) s) c d n (by simpa [arrived] using h)
  exact ⟨pairDone_socketTripped (socketTripped_congr ht (by simp [arrived]) (by simp [arrived]) (by simp [arrived])),
    pairDone_tripLogged (tripLogged_congr hl (by simp [arrived]) (by simp [arrived]) (by simp [arrived]))⟩

/-- Settles O42: the record is written first; an ON socket is then as `sampled` leaves it, or tripped by one of the
requests of the sample's checks. -/
theorem socketSampleTripsAnOnSocket : Obligations.SocketSampleTripsAnOnSocket := by
  intro s k i cv code temp hphase hr hc hd hs hv hpos p c valid clamped faults second hot lost
  have hread := (pairDone_readings k (socketSample k i code temp s)).trans (socketSample_readings k i code temp s)
  simp only [Scanner.readings, Scanner.arrive, Prod.mk.injEq] at hread
  obtain ⟨hrec, hfault, _, _⟩ := hread
  have hfaults : (if tempInRange temp then 0 else satInc 3 ((s.scanner k).faults.get i)) = faults := by
    simp only [tempInRange_iff, satInc_eq_min]
    rfl
  have hfaults' : (if (arrivalRecord code temp).fault = true then satInc 3 ((s.scanner k).faults.get i) else 0)
      = faults := by
    rw [← hfaults]
    cases hv : tempInRange temp <;> simp [arrivalRecord, hv]
  refine ⟨_, exec_socketEnd hphase hr hc hd hs hv hpos, ?_, ?_, ?_, ?_, fun j hj => ⟨?_, ?_, ?_⟩, fun h => ?_,
    fun h hsec hhot hlost => ?_, fun first h hfirst hsec hhot hlost => ?_, fun h hsec hhot => ?_, fun h hsec hlost => ?_,
    fun h hsec hor => ?_⟩
  · exact (socketSample_slotFrame _ _ _ _ _).trans (pairDone_slotFrame _ _)
  · simp
  · rw [hrec, Table.get_set_same]
    rfl
  · rw [hfault, Table.get_set_same, hfaults']
  · rw [hrec, Table.get_set_ne _ _ hj]
  · simpa using (socketSample_others k i j code temp s hj).1
  · simpa using (socketSample_others k i j code temp s hj).2
  · rw [socketSample_of_not_on h]
    simp [arrived, RecordsKept, c]
  all_goals rw [socketSample_of_on h, hfaults]
  · obtain ⟨hsock, hrecord, hlog⟩ := sampled_arrived k i code temp s
    rw [overcurrentCheck_none hsec] at hsock ⊢
    rw [temperatureRequest_none hhot hlost]
    refine ⟨by simpa [tripEither] using hsock, by simpa [tripEither] using hlog, fun hval => ?_⟩
    rw [if_pos ((tempInRange_iff temp).mpr hval), clampTemp_of_valid hval] at hrecord
    simp only [tripEither, pairDone_frame, hrecord]
    cases hpk : (s.record k i).peak <;> simp [AcctRecord.raisePeak, hpk]
  · rw [temperatureRequest_none hhot hlost]
    change SocketTripped k i s (pairDone k (tripEither k i (overcurrentCheck _ code p.overCode).2 _ _)) ∧ _
    rw [hfirst, overcurrentCheck_second hsec.1]
    exact pairDone_tripSocket_sampled h _ _ _
  · rw [overcurrentCheck_none hsec, temperatureRequest_hot hhot.1 hhot.2]
    exact pairDone_tripSocket_sampled h _ _ _
  · rw [overcurrentCheck_none hsec, temperatureRequest_fault hlost.1, if_pos hlost.2]
    exact pairDone_tripSocket_sampled h _ _ _
  · obtain ⟨ha, _, _⟩ | ⟨l, d, n, _, _, e⟩ := tripEither_cases k i
      (overcurrentCheck (s.slot k).active.currentLimit code (s.socket k i).overCode).2
      (temperatureRequest s.zone.tuning.socketCutoff faults (arrivalRecord code temp))
      (sampled k i (arrivalRecord code temp) (arrived k i (arrivalRecord code temp) s))
    · obtain ⟨hlim, hover⟩ := hsec
      obtain ⟨first, hfirst⟩ := Option.ne_none_iff_exists'.mp hover
      rw [show (s.socket k i).overCode = some first from hfirst, overcurrentCheck_second hlim] at ha
      cases ha
    · rw [e]
      exact (pairDone_tripSocket_sampled h _ _ _).1

end Sys2Proof.Machine
end


section
/-!
PROOFS. Rail samples of a RAMPING or POWERED board (R20, R21, R23, R26, R28, R52).
-/

namespace Sys2Proof.Machine

open Safety

/-! ## The scanner's readings through a sample -/

theorem stopChannel_readings (k : Slot) (cancel : Bool) (s : State) :
    ((stopChannel k cancel s).scanner k).readings = (s.scanner k).readings := by
  unfold stopChannel
  obtain ⟨_, e⟩ | ⟨_, e⟩ := abandonBurst_cases k cancel s <;> rw [e] <;>
    simp [Scanner.readings, Scanner.forget]

theorem tripBoard_readings (k : Slot) (r : Rail) (c : TripCause) (s : State) :
    ((tripBoard k r c s).scanner k).readings = (s.scanner k).readings := by
  cases h : (s.slot k).board.checked
  · rw [tripBoard_of_not k r c s h]
  · obtain ⟨u, hu, e⟩ := tripBoard_of k r c s h
    have hd : ((takeDown k .tripped false s).scanner k).readings = (s.scanner k).readings := by
      simpa [takeDown] using stopChannel_readings k false (s.setSlot k { (s.slot k).hardOff with board := .tripped })
    rw [e, hu]
    simpa [appendBoard] using hd

theorem settleCheck_readings (k : Slot) (r : Rail) (inside : Bool) (s : State) :
    ((settleCheck k r inside s).scanner k).readings = (s.scanner k).readings := by
  obtain ⟨_, e⟩ | ⟨_, e⟩ := settleCheck_cases k r inside s <;> rw [e]
  simp

/-! ## The counts of a sample -/

/-- R26: a second sample in a row over the current limit. -/
def OverTwice (k : Slot) (r : Rail) (x : Nat) (s : State) : Prop :=
  (s.slot k).railLimit r < x ∧ 1 ≤ (r.of (s.slot k)).overRun

/-- R26: a third sample in a row out of the window while the rail is HELD. -/
def OutThrice (k : Slot) (r : Rail) (inside : Bool) (s : State) : Prop :=
  (r.of (s.slot k)).cond = .held ∧ inside = false ∧ 2 ≤ (r.of (s.slot k)).windowMiss

/-- R26: the state once the counts of a sample are taken. -/
def counted (k : Slot) (r : Rail) (x : Nat) (inside : Bool) (s : State) : State :=
  s.setSlot k ((s.slot k).setRail r ((r.of (s.slot k)).count (decide ((s.slot k).railLimit r < x)) inside))

theorem counted_slotFrame (k : Slot) (r : Rail) (x : Nat) (inside : Bool) (s : State) :
    SlotFrame k s (counted k r x inside s) := State.setSlot_slotFrame _ _ _

theorem counted_scanner (k : Slot) (r : Rail) (x : Nat) (inside : Bool) (s : State) :
    (counted k r x inside s).scanner k = s.scanner k := by
  simp [counted]

/-- R26: the counts reach their trip values on these samples. -/
theorem count_trips (k : Slot) (r : Rail) (x : Nat) (inside : Bool) (s : State) :
    let y := (r.of (s.slot k)).count (decide ((s.slot k).railLimit r < x)) inside
    (y.overRun = 2 ↔ OverTwice k r x s) ∧ (y.windowMiss = 3 ↔ OutThrice k r inside s) := by
  simp only [RailState.count, OverTwice, OutThrice, decide_eq_true_eq, satInc_eq_min, ← and_assoc]
  constructor
  · split
    · next h => simp only [h, true_and]; omega
    · next h => simp [h]
  · split
    · next h => simp only [h, and_self, true_and]; omega
    · next h => simp only [h, false_and, iff_false]; omega

/-- R26: with no trip, the counts as the statement of the rules writes them. -/
theorem count_of_no_trip {k : Slot} {r : Rail} {x : Nat} {inside : Bool} {s : State} (hi : ¬ OverTwice k r x s)
    (hu : ¬ OutThrice k r inside s) :
    (r.of (s.slot k)).count (decide ((s.slot k).railLimit r < x)) inside = { r.of (s.slot k) with
      overRun := if (s.slot k).railLimit r < x then 1 else 0
      windowMiss := if (r.of (s.slot k)).cond = .held ∧ inside = false then (r.of (s.slot k)).windowMiss + 1 else 0 } := by
  have ho : (if decide ((s.slot k).railLimit r < x) = true then satInc 2 (r.of (s.slot k)).overRun else 0)
      = if (s.slot k).railLimit r < x then 1 else 0 := by
    simp only [decide_eq_true_eq, satInc_eq_min]
    split
    · next h =>
      have : ¬ 1 ≤ (r.of (s.slot k)).overRun := fun h1 => hi ⟨h, h1⟩
      omega
    · rfl
  have hw : (if (r.of (s.slot k)).cond = .held ∧ inside = false then satInc 3 (r.of (s.slot k)).windowMiss else 0)
      = if (r.of (s.slot k)).cond = .held ∧ inside = false then (r.of (s.slot k)).windowMiss + 1 else 0 := by
    simp only [satInc_eq_min]
    split
    · next h =>
      have : ¬ 2 ≤ (r.of (s.slot k)).windowMiss := fun h2 => hu ⟨h.1, h.2, h2⟩
      omega
    · rfl
  unfold RailState.count
  rw [ho, hw]

/-- R21, R26: the two outcomes of a sample. -/
theorem checkRail_cases (k : Slot) (r : Rail) (v x : Nat) (s : State) :
    let inside := insideWindow ((s.slot k).active.setpoint r) (s.slot k).active.window v
    (∃ c n, ((c = .overcurrent ∧ OverTwice k r x s) ∨ (c = .undervoltage ∧ OutThrice k r inside s))
        ∧ checkRail k r v x s = tripBoard k r c { counted k r x inside s with races := n })
      ∨ (¬ OverTwice k r x s ∧ ¬ OutThrice k r inside s
        ∧ checkRail k r v x s = settleCheck k r inside (counted k r x inside s)) := by
  intro inside
  obtain ⟨hover, hout⟩ := count_trips k r x inside s
  generalize hy : (r.of (s.slot k)).count (decide ((s.slot k).railLimit r < x)) inside = y at hover hout
  have e : checkRail k r v x s = if (decide (y.overRun = 2) || decide (y.windowMiss = 3)) = true then
      tripByCounts k r (decide (y.overRun = 2)) (decide (y.windowMiss = 3)) (counted k r x inside s)
      else settleCheck k r inside (counted k r x inside s) := by
    rw [← hy]
    rfl
  rw [e]
  obtain ⟨h1, h2, _⟩ | ⟨c, n, hc, e'⟩ := tripByCounts_cases k r (decide (y.overRun = 2)) (decide (y.windowMiss = 3))
    (counted k r x inside s)
  · refine .inr ⟨fun h => of_decide_eq_false h1 (hover.mpr h), fun h => of_decide_eq_false h2 (hout.mpr h), ?_⟩
    rw [h1, h2]
    rfl
  · refine .inl ⟨c, n, hc.imp (.imp_right fun h => hover.mp (of_decide_eq_true h))
      (.imp_right fun h => hout.mp (of_decide_eq_true h)), ?_⟩
    rw [if_pos, e']
    obtain ⟨_, h⟩ | ⟨_, h⟩ := hc <;> simp [h]

/-- R28: a trip of the board seen from a state with the same frame, once the round has gone on. -/
theorem pairDone_tripped {k : Slot} {r : Rail} {c : TripCause} {s u t : State} (h : Tripped k r c u t)
    (hf : SlotFrame k s u) : Tripped k r c s (pairDone k t) := by
  obtain ⟨hb, hoff, htrip, hidle, hplay, hthr, hnew, hraised, hframe⟩ := h
  have hz : (pairDone k t).zone = t.zone := pairDone_zone (by rw [hb]; decide)
  refine ⟨by simpa using hb, by simpa using hoff, by simpa using htrip, by simpa using hidle, by simpa using hplay, ?_,
    newestIs_of_eq hnew (by simp) (by simp) (by simp), by simpa using hraised,
    hf.trans (hframe.trans (pairDone_slotFrame k t))⟩
  unfold State.throttle at hthr ⊢
  rw [hz]
  exact hthr

/-! ## The settle check -/

/-- R21, R23: a rail that becomes HELD with no ramp in progress. -/
def heldNow (k : Slot) (r : Rail) (s : State) : State :=
  s.setSlot k ((s.slot k).setRail r { r.of (s.slot k) with cond := .held, settle := none, windowMiss := 0 })

theorem settleCheck_of_not {k : Slot} {r : Rail} {inside : Bool} {s : State}
    (h : ¬ ((r.of (s.slot k)).cond = .settling ∧ (r.of (s.slot k)).command = (r.of (s.slot k)).target ∧ inside = true)) :
    settleCheck k r inside s = s := if_neg h

theorem settleCheck_of {k : Slot} {r : Rail} {inside : Bool} {s : State}
    (h : (r.of (s.slot k)).cond = .settling ∧ (r.of (s.slot k)).command = (r.of (s.slot k)).target ∧ inside = true) :
    settleCheck k r inside s = rampAdvance k (heldNow k r s) := if_pos h

theorem rampAdvance_none {k : Slot} {s : State} (h : (s.slot k).ramp = none) : rampAdvance k s = s := by
  simp only [rampAdvance, h]

theorem rampAdvance_first {k : Slot} {s : State} {o : RailOrder} (h : (s.slot k).ramp = some ⟨o, .first⟩)
    (hc : (o.first.of (s.slot k)).cond = .held) :
    rampAdvance k s = startRail k o.first.other (s.setSlot k { s.slot k with ramp := some ⟨o, .second⟩ }) := by
  simp only [rampAdvance, h, hc, if_true]

theorem rampAdvance_second {k : Slot} {s : State} {o : RailOrder} (h : (s.slot k).ramp = some ⟨o, .second⟩)
    (hc : ∀ r : Rail, (r.of (s.slot k)).cond = .held) : rampAdvance k s = startStep k 0 s := by
  simp only [rampAdvance, h]
  exact if_pos ⟨hc .vcore, hc .vio⟩

/-- R21: the slot of a rail that becomes HELD. -/
theorem heldNow_slot (k : Slot) (r : Rail) (s : State) :
    r.of ((heldNow k r s).slot k)
        = ⟨(r.of (s.slot k)).command, (r.of (s.slot k)).target, .held, 0, (r.of (s.slot k)).overRun, none⟩
      ∧ r.other.of ((heldNow k r s).slot k) = r.other.of (s.slot k)
      ∧ ((heldNow k r s).slot k).ramp = (s.slot k).ramp ∧ ((heldNow k r s).slot k).active = (s.slot k).active
      ∧ ((heldNow k r s).slot k).board = (s.slot k).board
      ∧ ((heldNow k r s).slot k).descriptor = (s.slot k).descriptor := by
  simp [heldNow]

theorem of_eq_of_frame {c d : SlotCtl} (h1 : d.vcore = c.vcore) (h2 : d.vio = c.vio) (r : Rail) : r.of d = r.of c := by
  cases r
  · exact h1
  · exact h2

theorem Rail.of_ramp (c : SlotCtl) (m : Option Ramp) (r : Rail) : r.of { c with ramp := m } = r.of c :=
  of_eq_of_frame rfl rfl r

/-- R23: the second rail of a ramp starts, and the first stays as it is. -/
theorem secondRail_started (k : Slot) (r : Rail) (s : State) (m : Option Ramp) :
    let t := startRail k r.other (s.setSlot k { s.slot k with ramp := m })
    (t.slot k).ramp = m ∧ r.of (t.slot k) = r.of (s.slot k)
      ∧ r.other.of (t.slot k) = { r.other.of (s.slot k) with
        target := (s.slot k).active.setpoint r.other, cond := .settling, settle := some 200 } := by
  simp [startRail, Rail.of_ramp, Config.settleLimit]

/-- R24: inrush step 0, as the ramp's second rail starts it. -/
theorem startStep_zero {k : Slot} {s : State} {o : RailOrder} {stage : RampStage} (h : (s.slot k).ramp = some ⟨o, stage⟩) :
    ((startStep k 0 s).slot k).ramp = some ⟨o, .inrush 0⟩
      ∧ ((startStep k 0 s).slot k).dwell = some (s.slot k).active.dwell
      ∧ (∀ r : Rail, r.of ((startStep k 0 s).slot k) = r.of (s.slot k))
      ∧ ∀ i : Socket, i.val < 4 → (s.socket k i).power = .off → s.eligible k i = true →
        (s.lines.switchFault.get k).get i = false → ((startStep k 0 s).socket k i).power = .on := by
  refine ⟨by simp [startStep, h], by simp [startStep], fun r => of_eq_of_frame (by simp [startStep]) (by simp [startStep]) r,
    fun i hi hp he hf => ?_⟩
  obtain ⟨on, _, _⟩ := forSockets_switchOn_of_board (k := k) (s := s)
    (u := s.setSlot k { s.slot k with
      ramp := (s.slot k).ramp.map fun m => { m with stage := .inrush 0 }, dwell := some (s.slot k).active.dwell })
    (stepSockets_nodup 0 (by decide)) (i := i) (fun i => by simp) (by simp) (by simp) (by simp) Iff.rfl
  have hm : i ∈ stepSockets 0 := (mem_stepSockets 0 (by decide) i).mpr (by omega)
  exact congrArg SocketPower.power (on ⟨hm, hp, he⟩ hf)

/-- R21, R23: what a SETTLING rail that becomes HELD starts. -/
theorem settleCheck_held {k : Slot} {r : Rail} {s : State}
    (h : (r.of (s.slot k)).cond = .settling ∧ (r.of (s.slot k)).command = (r.of (s.slot k)).target) :
    let c := s.slot k
    let t := settleCheck k r true s
    (c.ramp = none → r.of (t.slot k) = ⟨(r.of c).command, (r.of c).target, .held, 0, (r.of c).overRun, none⟩
        ∧ r.other.of (t.slot k) = r.other.of c ∧ (t.slot k).board = c.board)
      ∧ (∀ o : RailOrder, c.ramp = some ⟨o, .first⟩ → o.first = r →
        (t.slot k).ramp = some ⟨o, .second⟩ ∧ (r.of (t.slot k)).cond = .held
          ∧ r.other.of (t.slot k)
            = { r.other.of c with target := c.active.setpoint r.other, cond := .settling, settle := some 200 })
      ∧ (∀ o : RailOrder, c.ramp = some ⟨o, .second⟩ → (r.other.of c).cond = .held →
        (t.slot k).ramp = some ⟨o, .inrush 0⟩ ∧ (t.slot k).dwell = some c.active.dwell ∧ (r.of (t.slot k)).cond = .held
          ∧ ∀ i : Socket, i.val < 4 → (s.socket k i).power = .off → s.eligible k i = true →
            (s.lines.switchFault.get k).get i = false → (t.socket k i).power = .on) := by
  intro c t
  have ht : t = rampAdvance k (heldNow k r s) := settleCheck_of ⟨h.1, h.2, rfl⟩
  obtain ⟨hrail, hother, hramp, hactive, hboard, hdesc⟩ := heldNow_slot k r s
  have hframe : (∀ i, (heldNow k r s).socket k i = s.socket k i ∧ (heldNow k r s).record k i = s.record k i)
      ∧ (heldNow k r s).lines = s.lines := by simp [heldNow]
  generalize heldNow k r s = u at ht hrail hother hramp hactive hboard hdesc hframe
  refine ⟨fun hm => ?_, fun o hm ho => ?_, fun o hm ho => ?_⟩
  · rw [ht, rampAdvance_none (hramp.trans hm)]
    exact ⟨hrail, hother, hboard⟩
  · subst ho
    rw [ht, rampAdvance_first (hramp.trans hm) (by rw [hrail])]
    obtain ⟨h1, h2, h3⟩ := secondRail_started k o.first u (some ⟨o, .second⟩)
    exact ⟨h1, by rw [h2, hrail], by rw [h3, hother, hactive]⟩
  · have held (q : Rail) : (q.of (u.slot k)).cond = .held := by
      by_cases hq : q = r
      · rw [hq, hrail]
      · have e : q = r.other := by cases q <;> cases r <;> simp_all [Rail.other]
        rw [e, hother, ho]
    rw [ht, rampAdvance_second (hramp.trans hm) held]
    obtain ⟨h1, h2, h3, h4⟩ := startStep_zero (hramp.trans hm)
    refine ⟨h1, by rw [h2, hactive], by rw [h3, hrail], fun i hi hp he hf => h4 i hi ?_ ?_ ?_⟩
    · rw [(hframe.1 i).1]; exact hp
    · rw [eligible_congr (by rw [(hframe.1 i).1]) hdesc (by rw [hactive]) (by rw [(hframe.1 i).2])]
      exact he
    · rw [hframe.2]; exact hf

/-! ## The sample -/

theorem railSample_checked {k : Slot} {r : Rail} {v x : Nat} {s : State}
    (h : (s.slot k).board = .ramping ∨ (s.slot k).board = .powered) : railSample k r v x s = checkRail k r v x s := by
  obtain e | e := h <;> simp only [railSample, e]

theorem railRead_readings (k : Slot) (r : Rail) (v x : Nat) (s : State) :
    (r = .vcore → ((railRead k r v x s).scanner k).vcore = ⟨v, x, true⟩
        ∧ ((railRead k r v x s).scanner k).vio = (s.scanner k).vio)
      ∧ (r = .vio → ((railRead k r v x s).scanner k).vio = ⟨v, x, true⟩
        ∧ ((railRead k r v x s).scanner k).vcore = (s.scanner k).vcore) := by
  constructor <;> rintro rfl <;> simp [railRead]

theorem checkRail_readings (k : Slot) (r : Rail) (v x : Nat) (s : State) :
    ((checkRail k r v x s).scanner k).readings = (s.scanner k).readings := by
  have hcases := checkRail_cases k r v x s
  generalize insideWindow ((s.slot k).active.setpoint r) (s.slot k).active.window v = b at hcases
  obtain ⟨c, n, _, e⟩ | ⟨_, _, e⟩ := hcases <;> rw [e]
  · rw [tripBoard_readings]
    exact congrArg Scanner.readings (counted_scanner k r x b s)
  · rw [settleCheck_readings]
    exact congrArg Scanner.readings (counted_scanner k r x b s)

/-- Settles O32: a sample trips the board by its counts (`checkRail_cases`), or is checked for the settling of its rail
(`settleCheck_held`). -/
theorem railSampleTripsOrSettlesTheRail : Obligations.RailSampleTripsOrSettlesTheRail := by
  intro s k r cv v x hp hr hc hd hs hv hx hpos hb c rail set window inside high under settles
  have hend := exec_railEnd hp hr hc hd hs hv hpos (x := (x : Int))
  have hx' : unsigned 65535 (x : Int) = x := by simp [unsigned, hx]
  obtain ⟨hcore, hio⟩ := railRead_readings k r v x s
  rw [hx'] at hend
  have hf : SlotFrame k s (railRead k r v x s) := railRead_slotFrame _ _ _ _ _
  have hslot : (railRead k r v x s).slot k = c := by simp [c]
  have hlink : (railRead k r v x s).link = s.link := by simp
  have hsock : ∀ i, (railRead k r v x s).socket k i = s.socket k i ∧ (railRead k r v x s).eligible k i = s.eligible k i
      ∧ (railRead k r v x s).lines = s.lines :=
    fun i => ⟨by simp, eligible_congr (by simp) (by simp) (by simp) (by simp), by simp⟩
  generalize railRead k r v x s = u at hend hcore hio hf hslot hlink hsock
  rw [railSample_checked (by rw [hslot]; exact hb)] at hend
  have hread := (pairDone_readings k (checkRail k r v x u)).trans (checkRail_readings k r v x u)
  simp only [Scanner.readings, Prod.mk.injEq] at hread
  obtain ⟨_, _, hreadcore, hreadio⟩ := hread
  have hcases := checkRail_cases k r v x u
  simp only [hslot] at hcases
  have hin : insideWindow (c.active.setpoint r) c.active.window v = true ↔ inside := decide_eq_true_iff
  generalize insideWindow (c.active.setpoint r) c.active.window v = b at hcases hin
  have hhigh : OverTwice k r x u ↔ high := by simp only [OverTwice, hslot]; rfl
  have hunder : OutThrice k r b u ↔ under := by
    simp only [OutThrice, hslot, ← Bool.not_eq_true b, hin]
    rfl
  refine ⟨_, hend, hf.trans ((checkRail_slotFrame _ _ _ _ _).trans (pairDone_slotFrame _ _)), by simp [hlink],
    fun e => ⟨hreadcore.trans (hcore e).1, hreadio.trans (hcore e).2⟩,
    fun e => ⟨hreadio.trans (hio e).1, hreadcore.trans (hio e).2⟩, ?_⟩
  obtain ⟨l, n, hl, e⟩ | ⟨hno, huno, e⟩ := hcases <;> rw [e]
  · rw [hhigh, hunder] at hl
    have hboard : ((counted k r x b u).slot k).board.checked = true := by
      obtain h | h := hb <;> simp [counted, hslot, c, h, BoardState.checked]
    have ht : Tripped k r l s (pairDone k (tripBoard k r l { counted k r x b u with races := n })) :=
      pairDone_tripped (tripBoard_spec k r l _ hboard)
        (hf.trans ((counted_slotFrame _ _ _ _ _).trans (races_slotFrame _ _ _)))
    have hnone : ¬ settles := fun ⟨h1, h2, _⟩ => hl.elim (fun h => h1 h.2) fun h => h2 h.2
    refine ⟨fun _ h2 => ?_, fun _ h2 => ?_, fun _ _ => ?_, fun h1 h2 => ?_, fun h => absurd h hnone,
      fun _ h => absurd h hnone, fun _ h => absurd h hnone⟩
    · obtain ⟨rfl, _⟩ | ⟨_, h⟩ := hl
      · exact ht
      · exact absurd h h2
    · obtain ⟨_, h⟩ | ⟨rfl, _⟩ := hl
      · exact absurd h h2
      · exact ht
    · obtain ⟨rfl, _⟩ | ⟨rfl, _⟩ := hl
      · exact .inl ht
      · exact .inr ht
    · exact (hl.elim (fun h => h1 h.2) fun h => h2 h.2).elim
  · have hcount := count_of_no_trip hno huno
    rw [hhigh] at hno
    rw [hunder] at huno
    have hw : (counted k r x b u).slot k = c.setRail r { rail with
        overRun := if c.railLimit r < x then 1 else 0
        windowMiss := if rail.cond = .held ∧ ¬ inside then rail.windowMiss + 1 else 0 } := by
      simp only [counted, State.setSlot_slot_same, hcount]
      simp only [hslot, ← Bool.not_eq_true b, hin]
      rfl
    have hwsock (i : Socket) : (counted k r x b u).socket k i = s.socket k i
        ∧ (counted k r x b u).eligible k i = s.eligible k i ∧ (counted k r x b u).lines = s.lines := by
      obtain ⟨h1, h2, h3⟩ := hsock i
      have e1 : (counted k r x b u).socket k i = u.socket k i := by simp [counted]
      exact ⟨e1.trans h1, (eligible_congr (by rw [e1]) (by simp [counted]) (by simp [counted]) (by simp [counted])).trans h2,
        h3⟩
    generalize counted k r x b u = w at hw hwsock
    have hsettle : (r.of (w.slot k)).cond = rail.cond ∧ (r.of (w.slot k)).command = rail.command
        ∧ (r.of (w.slot k)).target = rail.target := by rw [hw]; simp
    obtain ⟨hcond, hcommand, htarget⟩ := hsettle
    have hheld (h : settles) := settleCheck_held (k := k) (r := r) (s := w)
      ⟨hcond.trans h.2.2.1, by rw [hcommand, htarget]; exact h.2.2.2.1⟩
    have htrue (h : settles) : b = true := hin.mpr h.2.2.2.2
    refine ⟨fun h => absurd h hno, fun h => absurd h huno, fun h => absurd h hno, fun _ _ hn => ?_, fun h hm => ?_,
      fun o h hm ho => ?_, fun o h hm ho => ?_⟩
    · rw [settleCheck_of_not]
      · simpa using hw
      · rw [hcond, hcommand, htarget, hin]
        exact fun h => hn ⟨hno, huno, h⟩
    · obtain ⟨held, _, _⟩ := hheld h
      rw [htrue h]
      simpa [hw] using held (by simp [hw, hm])
    · obtain ⟨_, held, _⟩ := hheld h
      rw [htrue h]
      obtain ⟨h1, h2, h3⟩ := held o (by simp [hw, hm]) ho
      simp only [hw, SlotCtl.setRail_of_other, SlotCtl.setRail_frame] at h3
      simp only [pairDone_frame, h1, h2, h3, true_and]
    · obtain ⟨_, _, held⟩ := hheld h
      rw [htrue h]
      obtain ⟨h1, h2, h3, h4⟩ := held o (by simp [hw, hm]) (by simp [hw, ho])
      simp only [hw, SlotCtl.setRail_frame] at h2
      simp only [pairDone_frame, h1, h2, h3, true_and]
      refine fun i hi hp he hf => h4 i hi ?_ ?_ ?_
      · rw [(hwsock i).1]; exact hp
      · rw [(hwsock i).2.1]; exact he
      · rw [(hwsock i).2.2]; exact hf

end Sys2Proof.Machine
end


section
/-!
PROOFS. BOARD-APPLY (R30 to R32, R35, R39 to R41).
-/

namespace Sys2Proof.Machine

open Safety

/-! ## The request -/

theorem serveBoardApply_of {k : Slot} {s : State} (he : (s.slot k).board ≠ .empty) (hi : (s.slot k).board ≠ .ident) :
    serveBoardApply k.code s = applyBoard k s := by
  simp only [serveBoardApply, withSlot_code]
  cases e : (s.slot k).board
  case empty => exact absurd e he
  case ident => exact absurd e hi
  all_goals rfl

/-- R39: an apply that is neither refused nor deferred already. -/
theorem applyBoard_of {k : Slot} {s : State}
    (h : (s.slot k).board.checked = false ∨ ((s.slot k).staged.vcore ≠ 0 ∧ (s.slot k).staged.vio ≠ 0)) :
    applyBoard k s = if (s.slot k).applyDeferred then answer s .deferred
      else if (s.channel k).state = .burst then answer (s.setSlot k { s.slot k with applyDeferred := true }) .deferred
      else answer (takeApply k s) .ok := by
  refine if_neg fun ⟨hc, hv⟩ => ?_
  obtain h | ⟨h1, h2⟩ := h
  · rw [h] at hc; cases hc
  · exact hv.elim h1 h2

/-! ## The rails -/

/-- R41: a rail of a RAMPING or POWERED board follows its setpoint. -/
theorem retarget_of_held {r : RailState} {a b : Nat} (h : r.cond = .held) (hne : a ≠ b) :
    r.retarget true a b = { r with target := b, cond := .settling, settle := some 200, windowMiss := 0 } := by
  simp only [RailState.retarget, h]
  exact if_neg hne

theorem retarget_of_settling {r : RailState} {a b : Nat} (h : r.cond = .settling) :
    r.retarget true a b = { r with target := b } := by
  simp only [RailState.retarget, h]

theorem retarget_unchanged {r : RailState} {live : Bool} {a b : Nat} (h1 : live = false ∨ r.cond = .off ∨ a = b)
    (h2 : live = false ∨ r.cond ≠ .settling) : r.retarget live a b = r := by
  cases live with
  | false => exact RailState.retarget_of_not_live r a b
  | true =>
    simp only [Bool.true_eq_false, false_or] at h1 h2
    cases hc : r.cond with
    | held =>
      simp only [RailState.retarget, hc]
      exact if_pos (h1.resolve_left (by simp [hc]))
    | settling => exact absurd hc h2
    | off | lowering => simp only [RailState.retarget, hc]

theorem takeApply_rail (k : Slot) (r : Rail) (s : State) :
    r.of ((takeApply k s).slot k)
      = (r.of (s.slot k)).retarget (s.slot k).board.checked ((s.slot k).active.setpoint r) ((s.slot k).staged.setpoint r) := by
  obtain ⟨_, _, _, _, hcore, hio, _⟩ := takeApply_slot k s
  cases r
  · exact hcore
  · exact hio

/-! ## The strike limit -/

theorem reportFailure_failed (k : Slot) (i : Socket) (c : FailCause) (d : List Byte) (s : State) :
    ((reportFailure k i c d s).record k i).verdict = .failed := by
  rw [reportFailure_record_same]
  dsimp only
  split
  · rfl
  · next h =>
    have hv : (((s.record k i).countReport c).markLogged c).verdict = (s.record k i).verdict := by cases c <;> rfl
    rw [hv]
    cases e : (s.record k i).verdict
    · exact absurd e h
    · rfl

theorem lowerLimit_record (k : Slot) (l : Nat) (i : Socket) (s : State) :
    ((s.socket k i).power = .quarantined → (lowerLimit k l i s).record k i = s.record k i)
      ∧ ((s.socket k i).power ≠ .quarantined → l ≤ (s.socket k i).strikes →
        ((lowerLimit k l i s).record k i).verdict = .failed) := by
  obtain ⟨hn, e⟩ | ⟨_, s1, h1, ⟨hq, e⟩ | ⟨hq, e⟩⟩ := lowerLimit_cases k l i s <;> rw [e]
  · exact ⟨fun _ => rfl, fun _ h => absurd (.inr h) hn⟩
  · exact ⟨fun _ => by rw [h1]; simp, fun h => absurd hq h⟩
  · exact ⟨fun h => absurd h hq, fun _ _ => reportFailure_failed _ _ _ _ _⟩

/-- R41: a socket that the active strike limit of `s`, lower than `before`, finds QUARANTINED or with as many strikes. -/
def LimitReached (k : Slot) (before : Nat) (i : Socket) (s : State) : Prop :=
  (s.slot k).active.strikeLimit < before
    ∧ ((s.socket k i).power = .quarantined ∨ (s.slot k).active.strikeLimit ≤ (s.socket k i).strikes)

/-- R41: what the strike limit of an apply leaves of a socket. -/
theorem applyLimit_socket (k : Slot) (before : Nat) (i : Socket) (s : State) :
    let t := applyLimit k before s
    (LimitReached k before i s → (t.socket k i).power = .quarantined
        ∧ (t.socket k i).strikes = (s.slot k).active.strikeLimit
        ∧ ((s.socket k i).power ≠ .quarantined → (t.record k i).verdict = .failed)
        ∧ ((s.socket k i).power = .quarantined → t.record k i = s.record k i))
      ∧ (¬ LimitReached k before i s → socketView k i t = socketView k i s) := by
  dsimp only
  unfold applyLimit LimitReached
  dsimp only
  generalize (s.slot k).active.strikeLimit = l
  split
  · next hl =>
    obtain ⟨_, hin⟩ := forSockets_at (socketView k) (fun _ => True) (lowerLimit k l)
      (fun i n u h => lowerLimit_view k l i n u h) (fun _ _ _ => trivial) Socket.all Socket.all_nodup s trivial i
    obtain ⟨u, _, hu, hv, _⟩ := hin (Socket.mem_all i)
    rw [hv]
    have hu' := hu
    simp only [socketView, Prod.mk.injEq] at hv hu'
    rw [hv.1, hv.2.1, ← hu'.1, ← hu'.2.1]
    obtain ⟨free, reached⟩ := lowerLimit_socket k l i u
    obtain ⟨hq, hnq⟩ := lowerLimit_record k l i u
    refine ⟨fun ⟨_, h⟩ => ?_, fun h => ?_⟩
    · obtain ⟨h1, h2⟩ := reached h
      exact ⟨h1, h2, fun hn => hnq hn (h.resolve_left hn), hq⟩
    · rw [free fun h' => h ⟨hl, h'⟩, hu]
  · next hl => exact ⟨fun h => absurd h.1 hl, fun _ => rfl⟩

/-! ## The fail policy -/

/-- R35, R41: what the DROP policy does to a socket. -/
theorem dropFailed_socket (k : Slot) (i : Socket) (s : State) :
    let falls := (s.record k i).verdict = .failed ∧ ((s.socket k i).power = .on ∨ (s.socket k i).power = .tripWait)
    (falls → (dropFailed k i s).socket k i = ⟨.off, (s.socket k i).strikes, none, none⟩)
      ∧ (¬ falls → dropFailed k i s = s) ∧ (dropFailed k i s).record k i = s.record k i := by
  dsimp only
  unfold dropFailed
  split
  · next hv =>
    refine ⟨fun h => ?_, fun h => ?_, by simp⟩
    · rw [dropNotice_socket, if_pos ⟨rfl, rfl, h.2⟩]
    · unfold dropNotice
      split
      · next hp => exact absurd ⟨hv, .inl hp⟩ h
      · next hp => exact absurd ⟨hv, .inr hp⟩ h
      all_goals rfl
  · next hv => exact ⟨fun h => absurd h.1 hv, fun _ => rfl, rfl⟩

theorem forSockets_dropFailed (k : Slot) (s : State) (i : Socket) :
    let t := forSockets Socket.all (dropFailed k) s
    let falls := (s.record k i).verdict = .failed ∧ ((s.socket k i).power = .on ∨ (s.socket k i).power = .tripWait)
    (falls → t.socket k i = ⟨.off, (s.socket k i).strikes, none, none⟩ ∧ t.record k i = s.record k i)
      ∧ (¬ falls → socketView k i t = socketView k i s) := by
  dsimp only
  obtain ⟨_, hin⟩ := forSockets_at (socketView k) (fun _ => True) (dropFailed k)
    (fun i n u h => dropFailed_view k i n u h) (fun _ _ _ => trivial) Socket.all Socket.all_nodup s trivial i
  obtain ⟨u, _, hu, hv, _⟩ := hin (Socket.mem_all i)
  have hu' := hu
  have hv' := hv
  simp only [socketView, Prod.mk.injEq] at hv' hu'
  rw [← hu'.1, ← hu'.2.1, ← hu, hv'.1, hv'.2.1, hv]
  obtain ⟨falls, free, hrec⟩ := dropFailed_socket k i u
  exact ⟨fun h => ⟨falls h, hrec⟩, fun h => by rw [free h]⟩

/-- Switching a socket on with its switch-fault input inactive leaves its record. -/
theorem switchOn_record {k : Slot} {i : Socket} {s : State} (hf : (s.lines.switchFault.get k).get i = false) :
    (switchOn k i s).record k i = s.record k i := by
  obtain ⟨_, e⟩ | ⟨_, ⟨_, e⟩ | ⟨hf', _⟩⟩ := switchOn_cases k i s
  · rw [e]
  · rw [e]; simp
  · rw [hf] at hf'; cases hf'

theorem forSockets_switchOn_record {k : Slot} {s : State} {i : Socket} (hf : (s.lines.switchFault.get k).get i = false) :
    (forSockets Socket.all (switchOn k) s).record k i = s.record k i := by
  obtain ⟨_, hin⟩ := forSockets_at (socketView k) (fun u => u.lines = s.lines) (switchOn k)
    (fun i n u h => switchOn_view k i n u h) (fun i u h => by simpa using h) Socket.all Socket.all_nodup s rfl i
  obtain ⟨u, hl, hu, hv, _⟩ := hin (Socket.mem_all i)
  simp only [socketView, Prod.mk.injEq] at hu hv
  rw [hv.2.1, switchOn_record (by rw [hl]; exact hf), hu.2.1]

/-- R41: a socket that a policy changed to KEEP switches on. -/
def PolicyOn (k : Slot) (before : FailPolicy) (i : Socket) (s : State) : Prop :=
  before = .drop ∧ (s.slot k).active.policy = .keep ∧ (s.slot k).board = .powered ∧ (s.socket k i).power = .off
    ∧ ∃ d, (s.slot k).descriptor = some d ∧ i.val < d.socketCount

/-- R41: a socket that a policy changed to DROP switches off. -/
def PolicyOff (k : Slot) (before : FailPolicy) (i : Socket) (s : State) : Prop :=
  before = .keep ∧ (s.slot k).active.policy = .drop ∧ (s.record k i).verdict = .failed
    ∧ ((s.socket k i).power = .on ∨ (s.socket k i).power = .tripWait)

theorem applyPolicy_same {k : Slot} {p : FailPolicy} {s : State} (h : p = (s.slot k).active.policy) :
    applyPolicy k p s = s := by
  unfold applyPolicy
  split
  · next e => rw [e] at h; cases h
  · next e => rw [e] at h; cases h
  · rfl

theorem applyPolicy_keep {k : Slot} {s : State} (h : (s.slot k).active.policy = .keep) :
    applyPolicy k .drop s
      = if (s.slot k).board = .powered then forSockets Socket.all (switchOn k) s else s := by
  simp only [applyPolicy, h]

theorem applyPolicy_drop {k : Slot} {s : State} (h : (s.slot k).active.policy = .drop) :
    applyPolicy k .keep s = forSockets Socket.all (dropFailed k) s := by
  simp only [applyPolicy, h]

/-- R41: what the fail policy of an apply leaves of a socket. -/
theorem applyPolicy_socket (k : Slot) (before : FailPolicy) (i : Socket) (s : State) :
    let p := s.socket k i
    let t := applyPolicy k before s
    (PolicyOn k before i s → (s.lines.switchFault.get k).get i = false →
        t.socket k i = ⟨.on, p.strikes, p.overCode, none⟩ ∧ t.record k i = s.record k i)
      ∧ (PolicyOn k before i s → (s.lines.switchFault.get k).get i = true → SocketTripped k i s t)
      ∧ (PolicyOff k before i s → t.socket k i = ⟨.off, p.strikes, none, none⟩ ∧ t.record k i = s.record k i)
      ∧ (¬ PolicyOn k before i s → ¬ PolicyOff k before i s → socketView k i t = socketView k i s) := by
  dsimp only
  cases before with
  | drop =>
    have hoff : ¬ PolicyOff k .drop i s := fun h => by cases h.1
    cases hnow : (s.slot k).active.policy with
    | drop =>
      rw [applyPolicy_same hnow.symm]
      have hon : ¬ PolicyOn k .drop i s := fun ⟨_, h, _⟩ => by rw [hnow] at h; cases h
      exact ⟨fun h => absurd h hon, fun h => absurd h hon, fun h => absurd h hoff, fun _ _ => rfl⟩
    | keep =>
      rw [applyPolicy_keep hnow]
      split
      · next hb =>
        have hel : PolicyOn k .drop i s ↔ (s.socket k i).power = .off ∧ s.eligible k i = true := by
          simp only [PolicyOn, eligible_iff, hnow, hb, true_and]
          constructor
          · rintro ⟨hp, hd⟩
            exact ⟨hp, by simp [hp], by simp [hp], hd, by simp⟩
          · rintro ⟨hp, _, _, hd, _⟩
            exact ⟨hp, hd⟩
        obtain ⟨kept, went⟩ := forSockets_switchOn k Socket.all Socket.all_nodup s i
        refine ⟨fun h hf => ?_, fun h hf => ?_, fun h => absurd h hoff, fun h _ => kept fun ⟨_, h'⟩ => h (hel.mpr h')⟩
        · obtain ⟨hp, he⟩ := hel.mp h
          exact ⟨(went (Socket.mem_all i) hp he).1 hf, forSockets_switchOn_record hf⟩
        · obtain ⟨hp, he⟩ := hel.mp h
          exact (went (Socket.mem_all i) hp he).2 hf
      · next hb =>
        have hon : ¬ PolicyOn k .drop i s := fun h => hb h.2.2.1
        exact ⟨fun h => absurd h hon, fun h => absurd h hon, fun h => absurd h hoff, fun _ _ => rfl⟩
  | keep =>
    have hon : ¬ PolicyOn k .keep i s := fun h => by cases h.1
    cases hnow : (s.slot k).active.policy with
    | keep =>
      rw [applyPolicy_same hnow.symm]
      have hoff : ¬ PolicyOff k .keep i s := fun ⟨_, h, _⟩ => by rw [hnow] at h; cases h
      exact ⟨fun h => absurd h hon, fun h => absurd h hon, fun h => absurd h hoff, fun _ _ => rfl⟩
    | drop =>
      rw [applyPolicy_drop hnow]
      obtain ⟨falls, free⟩ := forSockets_dropFailed k s i
      exact ⟨fun h => absurd h hon, fun h => absurd h hon, fun h => falls h.2.2,
        fun _ h => free fun h' => h ⟨rfl, hnow, h'⟩⟩

/-! ## An apply -/

/-- R41: the limit acts first, and a socket that it quarantines is neither switched on nor off by the policy. -/
theorem takeApply_socket (k : Slot) (s : State) (i : Socket) :
    let c := s.slot k
    let p := s.socket k i
    let t := takeApply k s
    let reached := c.staged.strikeLimit < c.active.strikeLimit
      ∧ (p.power = .quarantined ∨ c.staged.strikeLimit ≤ p.strikes)
    let goesOn := c.active.policy = .drop ∧ c.staged.policy = .keep ∧ c.board = .powered ∧ p.power = .off
      ∧ ∃ d, c.descriptor = some d ∧ i.val < d.socketCount
    let falls := c.active.policy = .keep ∧ c.staged.policy = .drop ∧ (s.record k i).verdict = .failed
      ∧ (p.power = .on ∨ p.power = .tripWait)
    (reached → (t.socket k i).power = .quarantined ∧ (t.socket k i).strikes = c.staged.strikeLimit
      ∧ (p.power ≠ .quarantined → (t.record k i).verdict = .failed)
      ∧ (p.power = .quarantined → t.record k i = s.record k i))
    ∧ (¬ reached → goesOn → (s.lines.switchFault.get k).get i = false →
        t.socket k i = ⟨.on, p.strikes, p.overCode, none⟩ ∧ t.record k i = s.record k i)
    ∧ (¬ reached → goesOn → (s.lines.switchFault.get k).get i = true →
        SocketTripped k i (s.setSlot k { c with active := c.staged }) t)
    ∧ (¬ reached → falls → t.socket k i = ⟨.off, p.strikes, none, none⟩ ∧ t.record k i = s.record k i)
    ∧ (¬ reached → ¬ goesOn → ¬ falls → t.socket k i = p ∧ t.record k i = s.record k i) := by
  intro c p t reached goesOn falls
  obtain ⟨hreached, hfree⟩ := applyLimit_socket k c.active.strikeLimit i (copyStaged k s)
  have hcopy : (copyStaged k s).socket k i = p ∧ (copyStaged k s).record k i = s.record k i
      ∧ ((copyStaged k s).slot k).active = c.staged := by simp [copyStaged, p, c]
  obtain ⟨hsock, hrec, hact⟩ := hcopy
  have hlim : LimitReached k c.active.strikeLimit i (copyStaged k s) ↔ reached := by
    unfold LimitReached
    rw [hsock, hact]
  have ht : t = applyPolicy k c.active.policy (applyLimit k c.active.strikeLimit (copyStaged k s)) := rfl
  have hslot : ((applyLimit k c.active.strikeLimit (copyStaged k s)).slot k).active = c.staged
      ∧ ((applyLimit k c.active.strikeLimit (copyStaged k s)).slot k).board = c.board
      ∧ ((applyLimit k c.active.strikeLimit (copyStaged k s)).slot k).descriptor = c.descriptor
      ∧ (applyLimit k c.active.strikeLimit (copyStaged k s)).lines = s.lines := by simp [c]
  rw [hsock, hrec, hact, hlim] at hreached
  rw [hlim] at hfree
  generalize applyLimit k c.active.strikeLimit (copyStaged k s) = u at ht hslot hreached hfree
  obtain ⟨hactive, hboard, hdesc, hlines⟩ := hslot
  obtain ⟨on, tripped, off, free⟩ := applyPolicy_socket k c.active.policy i u
  rw [← ht] at on tripped off free
  have kept (hn : ¬ reached) : u.socket k i = p ∧ u.record k i = s.record k i := by
    have hv := hfree hn
    simp only [socketView, Prod.mk.injEq] at hv
    exact ⟨hv.1.trans hsock, hv.2.1.trans hrec⟩
  have hon (hn : ¬ reached) : PolicyOn k c.active.policy i u ↔ goesOn := by
    unfold PolicyOn
    rw [hactive, hboard, hdesc, (kept hn).1]
  have hoff (hn : ¬ reached) : PolicyOff k c.active.policy i u ↔ falls := by
    unfold PolicyOff
    rw [hactive, (kept hn).1, (kept hn).2]
  rw [hlines] at on tripped
  refine ⟨fun h => ?_, fun hn hg hf => ?_, fun hn hg hf => ?_, fun hn hg => ?_, fun hn hg hf => ?_⟩
  · obtain ⟨hq, hs, hfail, hsame⟩ := hreached h
    have hv := free (fun h' => absurd (hq.symm.trans h'.2.2.2.1) (by decide))
      (fun h' => h'.2.2.2.elim (fun e => absurd (hq.symm.trans e) (by decide)) fun e => absurd (hq.symm.trans e) (by decide))
    simp only [socketView, Prod.mk.injEq] at hv
    rw [hv.1, hv.2.1]
    exact ⟨hq, hs, hfail, hsame⟩
  · obtain ⟨h1, h2⟩ := kept hn
    obtain ⟨g1, g2⟩ := on ((hon hn).mpr hg) hf
    exact ⟨by rw [g1, h1], g2.trans h2⟩
  · obtain ⟨h1, h2⟩ := kept hn
    refine socketTripped_congr (tripped ((hon hn).mpr hg) hf) ?_ (by simp [hactive, c]) (by simp [h2])
    rw [h1, State.setSlot_socket_same]
    rfl
  · obtain ⟨h1, h2⟩ := kept hn
    obtain ⟨g1, g2⟩ := off ((hoff hn).mpr hg)
    exact ⟨by rw [g1, h1], g2.trans h2⟩
  · obtain ⟨h1, h2⟩ := kept hn
    have hv := free (mt (hon hn).mp hg) (mt (hoff hn).mp hf)
    simp only [socketView, Prod.mk.injEq] at hv
    exact ⟨hv.1.trans h1, hv.2.1.trans h2⟩

/-- Settles O34: the request's checks, then the apply: the rails by `RailState.retarget`, each socket by
`takeApply_socket`. -/
theorem boardApplyTakesTheStagedCopy : Obligations.BoardApplyTakesTheStagedCopy := by
  refine ⟨fun s k h => ⟨fun hb => ?_, fun hb => ?_, ?_⟩, fun s k h he hi => ?_⟩
  · refine congrArg Host.Outcome.next (takeRequest_refused h (r := .noBoard) ?_)
    simp only [serveBoardApply, withSlot_code, received_frame, hb]
  · refine congrArg Host.Outcome.next (takeRequest_refused h (r := .refusedState) ?_)
    simp only [serveBoardApply, withSlot_code, received_frame, hb]
  · exact congrArg Host.Outcome.next (takeRequest_refused h (r := .refusedRange) rfl)
  intro c apply
  have hserve : serveBoardApply k.code (received s) = applyBoard k (received s) :=
    serveBoardApply_of (by simpa using he) (by simpa using hi)
  refine ⟨fun hc hv => ?_, fun hv => ?_⟩
  · refine congrArg Host.Outcome.next (takeRequest_refused h (r := .refusedState) (hserve.trans ?_))
    exact if_pos (by simpa using ⟨hc, hv⟩)
  have happly := applyBoard_of (k := k) (s := received s) (by simpa using hv)
  simp only [received_frame] at happly
  refine ⟨fun hd => ?_, fun hd hb => ?_, fun hd hb => ?_⟩
  · refine congrArg Host.Outcome.next (takeRequest_refused h (r := .deferred) (hserve.trans ?_))
    rw [happly, if_pos hd]
  · refine congrArg Host.Outcome.next (takeRequest_replied _ _ _ _ _ h (hserve.trans ?_))
    rw [happly, if_neg (by rw [hd]; simp), if_pos hb]
    rfl
  · rw [if_neg (by rw [hd]; simp), if_neg hb] at happly
    have hreply : apply = .next (replied 0x13 [0] (takeApply k (received s))) := by
      refine congrArg Host.Outcome.next ?_
      rw [takeRequest_next _ _ _ h (by rw [hserve, happly]; simp [answer, reply]), hserve, happly]
      rfl
    obtain ⟨hactive, hstaged, hdefer, hdone, _, _, hboard, _⟩ := takeApply_slot k (received s)
    have hrail := takeApply_rail k (s := received s)
    simp only [received_frame] at hactive hstaged hboard hrail
    refine ⟨_, hreply, (received_slotFrame k s).trans (takeApply_slotFrame k _), by simp, by simp, by simp, hactive, hstaged,
      hdone, hdefer, hboard, fun r hc hh hne => ?_, fun r hc hh => ?_, fun r h1 h2 => ?_, fun i => ?_⟩
    · rw [hrail r, hc, retarget_of_held hh hne]
    · rw [hrail r, hc, retarget_of_settling hh]
    · rw [hrail r, retarget_unchanged h1 h2]
    · have hs := takeApply_socket k (received s) i
      simp only [received_frame] at hs
      obtain ⟨h1, h2, h3, h4, h5⟩ := hs
      exact ⟨h1, h2, fun hn hg hf => socketTripped_congr (h3 hn hg hf) rfl rfl rfl, h4, h5⟩

end Sys2Proof.Machine
end


section
/-!
PROOFS. REINSTATE (R30 to R32, R36, R37, R103, R141, R153).
-/

namespace Sys2Proof.Machine

open Safety

/-! ## One turn of REINSTATE -/

/-- R37, R103, R141, R153: the socket as REINSTATE clears it, its power state still as it was. -/
def cleared (k : Slot) (i : Socket) (s : State) : State :=
  let s1 := appendSocket k i .reinstated (s.record k i).reinstateDetail (s.setRecord k i (s.record k i).reinstate)
  let s2 := s1.setCompare k { s1.compare k with devStrikes := (s1.compare k).devStrikes.set i 0 }
  s2.setSocket k i { s2.socket k i with strikes := 0 }

/-- R37: the cleared socket, out of QUARANTINED and TRIP-WAIT. -/
def recovered (k : Slot) (i : Socket) (s : State) : State :=
  if (s.socket k i).power = .quarantined ∨ (s.socket k i).power = .tripWait then setPower k i .off none (cleared k i s)
  else cleared k i s

theorem cleared_socket (k : Slot) (i : Socket) (s : State) :
    (cleared k i s).socket k i = { s.socket k i with strikes := 0 } := by
  simp [cleared, appendSocket]

theorem reinstateSocket_eq (k : Slot) (i : Socket) (s : State) :
    reinstateSocket k i s = if ((recovered k i s).slot k).board = .powered then switchOn k i (recovered k i s)
      else recovered k i s := by
  have e : reinstateSocket k i s = (fun v => if (v.slot k).board = .powered then switchOn k i v else v)
      (match ((cleared k i s).socket k i).power with
        | .quarantined | .tripWait => setPower k i .off none (cleared k i s)
        | .masked | .off | .on => cleared k i s) := rfl
  rw [e, cleared_socket]
  unfold recovered
  cases (s.socket k i).power <;> rfl

/-- R37: REINSTATE closes the switch of a populated socket of a POWERED board that is neither ON nor MASKED. -/
def Rejoins (k : Slot) (i : Socket) (s : State) : Prop :=
  (s.slot k).board = .powered ∧ (s.socket k i).power ≠ .on ∧ (s.socket k i).power ≠ .masked
    ∧ ∃ d, (s.slot k).descriptor = some d ∧ i.val < d.socketCount

theorem recovered_power (k : Slot) (i : Socket) (s : State) :
    ((s.socket k i).power = .on → ((recovered k i s).socket k i).power = .on)
      ∧ ((s.socket k i).power = .masked → ((recovered k i s).socket k i).power = .masked)
      ∧ ((s.socket k i).power ≠ .on → (s.socket k i).power ≠ .masked → ((recovered k i s).socket k i).power = .off) := by
  unfold recovered
  cases hp : (s.socket k i).power <;> simp [cleared_socket, hp]

theorem recovered_frame (k : Slot) (i : Socket) (s : State) :
    (recovered k i s).lines = s.lines ∧ (recovered k i s).zone = s.zone ∧ (recovered k i s).link = s.link
      ∧ (recovered k i s).clock = s.clock
      ∧ ((recovered k i s).slot k).board = (s.slot k).board ∧ ((recovered k i s).slot k).status = (s.slot k).status
      ∧ ((recovered k i s).slot k).descriptor = (s.slot k).descriptor
      ∧ ((recovered k i s).slot k).active = (s.slot k).active
      ∧ (recovered k i s).record k i = (s.record k i).reinstate
      ∧ ((recovered k i s).socket k i).strikes = 0
      ∧ ((recovered k i s).compare k).devStrikes = (s.compare k).devStrikes.set i 0 := by
  unfold recovered
  split <;> simp [cleared, appendSocket, setPower_compare]

/-- R153: the entry of a REINSTATE. -/
def reinstatedEntry (k : Slot) (i : Socket) (s : State) : LogEntry :=
  entryNow (s.setRecord k i (s.record k i).reinstate) (some k) (some i) .reinstated (s.record k i).reinstateDetail

theorem recovered_log (k : Slot) (i : Socket) (s : State) :
    (recovered k i s).log.entries = (s.log.push (reinstatedEntry k i s)).entries
      ∧ (recovered k i s).log.epoch = s.log.epoch := by
  have h : (cleared k i s).log.entries = (s.log.push (reinstatedEntry k i s)).entries
      ∧ (cleared k i s).log.epoch = s.log.epoch := by
    simp [cleared, appendSocket, appendEntry_log, reinstatedEntry]
  unfold recovered
  split
  · simpa using h
  · exact h

theorem recovered_newest (k : Slot) (i : Socket) (s : State) :
    NewestIs (recovered k i s) (some k) (some i) .reinstated (s.record k i).reinstateDetail := by
  obtain ⟨_, _, _, hclock, _⟩ := recovered_frame k i s
  obtain ⟨hlog, hepoch⟩ := recovered_log k i s
  refine ⟨reinstatedEntry k i s, ?_, rfl, rfl, rfl, rfl, hepoch.symm, ?_⟩
  · rw [newest, hlog, FailLog.push_newest]
  · rw [hclock]
    rfl

theorem recovered_view (k : Slot) (i n : Socket) (s : State) (h : n ≠ i) :
    socketView k n (recovered k i s) = socketView k n s := by
  have hc : socketView k n (cleared k i s) = socketView k n s := by
    simp [socketView, cleared, appendSocket, State.setSocket_socket, State.setRecord_record, h]
  unfold recovered
  split
  · rw [setPower_view _ _ _ _ _ _ h, hc]
  · exact hc

theorem recovered_slotFrame (k : Slot) (i : Socket) (s : State) : SlotFrame k s (recovered k i s) := by
  have hc : SlotFrame k s (cleared k i s) :=
    (State.setRecord_slotFrame _ _ _ _).trans ((appendEntry_slotFrame _ _ _ _ _ _).trans
      ((State.setCompare_slotFrame _ _ _).trans (State.setSocket_slotFrame _ _ _ _)))
  unfold recovered
  split
  · exact hc.trans (setPower_slotFrame _ _ _ _ _)
  · exact hc

theorem recovered_raised (k : Slot) (i : Socket) (s : State) :
    (recovered k i s).alert.raised.getLsbD (2 + k.code) = true := by
  have hc : (cleared k i s).alert.raised.getLsbD (2 + k.code) = true := by
    simpa [cleared, appendSocket] using appendEntry_raises k (some i) _ _ _
  unfold recovered
  split
  · simpa using hc
  · exact hc

theorem recovered_socketTrip (k : Slot) (i : Socket) (s : State) :
    ((recovered k i s).slot k).socketTrip = (s.slot k).socketTrip := by
  unfold recovered
  split <;> simp [cleared, appendSocket]

/-- R31, R32, R37: the three outcomes of a turn. -/
theorem reinstateSocket_cases (k : Slot) (i : Socket) (s : State) :
    (¬ Rejoins k i s ∧ reinstateSocket k i s = recovered k i s)
      ∨ (Rejoins k i s ∧ (s.lines.switchFault.get k).get i = false
        ∧ reinstateSocket k i s = setPower k i .on none (recovered k i s))
      ∨ (Rejoins k i s ∧ (s.lines.switchFault.get k).get i = true
        ∧ reinstateSocket k i s = tripSocket k i .switchFault [] (setPower k i .on none (recovered k i s))) := by
  obtain ⟨hlines, _, _, _, hboard, _, hdesc, _, hrec, _, _⟩ := recovered_frame k i s
  obtain ⟨hon, hmasked, hoff⟩ := recovered_power k i s
  have hr : Rejoins k i s ↔ ((recovered k i s).slot k).board = .powered
      ∧ ((recovered k i s).socket k i).power = .off ∧ (recovered k i s).eligible k i = true := by
    rw [eligible_iff, hboard, hdesc, hrec]
    constructor
    · rintro ⟨hb, h1, h2, hd⟩
      have hp := hoff h1 h2
      exact ⟨hb, hp, by simp [hp], by simp [hp], hd, fun h => by cases h.1⟩
    · rintro ⟨hb, hp, _, _, hd, _⟩
      exact ⟨hb, fun h => absurd ((hon h).symm.trans hp) (by decide), fun h => absurd ((hmasked h).symm.trans hp) (by decide),
        hd⟩
  rw [reinstateSocket_eq]
  by_cases hb : ((recovered k i s).slot k).board = .powered
  · rw [if_pos hb]
    obtain ⟨hn, e⟩ | ⟨hp, ⟨hf, e⟩ | ⟨hf, e⟩⟩ := switchOn_cases k i (recovered k i s)
    · exact .inl ⟨fun h => hn (hr.mp h).2, e⟩
    · exact .inr (.inl ⟨hr.mpr ⟨hb, hp⟩, by rwa [hlines] at hf, e⟩)
    · exact .inr (.inr ⟨hr.mpr ⟨hb, hp⟩, by rwa [hlines] at hf, e⟩)
  · rw [if_neg hb]
    exact .inl ⟨fun h => hb (hr.mp h).1, rfl⟩

/-- R37: what REINSTATE leaves of a socket that it does not trip. -/
structure Reinstated (k : Slot) (i : Socket) (s t : State) : Prop where
  record : t.record k i = (s.record k i).reinstate
  strikes : (t.socket k i).strikes = 0
  on : (s.socket k i).power = .on ∨ Rejoins k i s → (t.socket k i).power = .on
  masked : (s.socket k i).power = .masked → (t.socket k i).power = .masked
  off : ¬ ((s.socket k i).power = .on ∨ Rejoins k i s) → (s.socket k i).power ≠ .masked → (t.socket k i).power = .off
  retry : (s.socket k i).retry = none ∨ (s.socket k i).power = .tripWait → (t.socket k i).retry = none

theorem recovered_retry (k : Slot) (i : Socket) (s : State)
    (h : (s.socket k i).retry = none ∨ (s.socket k i).power = .tripWait) : ((recovered k i s).socket k i).retry = none := by
  unfold recovered
  split
  · simp
  · next hn =>
    rw [cleared_socket]
    exact h.resolve_right fun e => hn (.inr e)

theorem reinstateSocket_untripped {k : Slot} {i : Socket} {s : State}
    (h : ¬ (Rejoins k i s ∧ (s.lines.switchFault.get k).get i = true)) :
    Reinstated k i s (reinstateSocket k i s)
      ∧ (reinstateSocket k i s).log.entries = (s.log.push (reinstatedEntry k i s)).entries
      ∧ NewestIs (reinstateSocket k i s) (some k) (some i) .reinstated (s.record k i).reinstateDetail := by
  obtain ⟨_, _, _, _, _, _, _, _, hrec, hstrikes, _⟩ := recovered_frame k i s
  obtain ⟨hon, hmasked, hoff⟩ := recovered_power k i s
  obtain ⟨hlog, _⟩ := recovered_log k i s
  obtain ⟨hn, e⟩ | ⟨hr, _, e⟩ | ⟨hr, hf, _⟩ := reinstateSocket_cases k i s
  · rw [e]
    refine ⟨⟨hrec, hstrikes, fun h => hon (h.resolve_right hn), hmasked, fun h1 h2 => ?_, recovered_retry k i s⟩, hlog,
      recovered_newest k i s⟩
    exact hoff (fun e => h1 (.inl e)) h2
  · rw [e]
    refine ⟨⟨by simpa using hrec, by simpa using hstrikes, fun _ => by simp, fun h => absurd h hr.2.2.1,
      fun h => absurd (.inr hr) h, fun _ => by simp⟩, by simpa using hlog, ?_⟩
    exact newestIs_of_eq (recovered_newest k i s) (by simp) (by simp) (by simp)
  · exact absurd ⟨hr, hf⟩ h

/-- R139, R141: a QUARANTINE report leaves nothing of a record that REINSTATE does not remove. -/
theorem reinstate_reportFailure (k : Slot) (i : Socket) (d : List Byte) (s : State) :
    ((reportFailure k i .quarantine d s).record k i).reinstate = (s.record k i).reinstate := by
  rw [reportFailure_record_same]
  dsimp only
  split <;> rfl

/-- R33: a trip's record, once it is reinstated, differs in its trips alone. -/
theorem tripSocket_reinstate (k : Slot) (i : Socket) (c : LogCause) (d : List Byte) (s : State)
    (h : (s.socket k i).power = .on) :
    ((tripSocket k i c d s).record k i).reinstate
      = { (s.record k i).reinstate with trips := satInc 65535 (s.record k i).trips } := by
  obtain ⟨q, s2, s4, hq, h2, h4, h5⟩ := tripSocket_of_on k i c d s h
  have h4r : s4.record k i = { s.record k i with trips := satInc 65535 (s.record k i).trips } := by
    rw [h4, h2]
    simp [appendSocket]
  rw [h5]
  cases q
  · simp [h4r, AcctRecord.reinstate]
  · simp only [if_true]
    rw [reinstate_reportFailure]
    simp [h4r, AcctRecord.reinstate]

/-- R37: the socket as REINSTATE leaves it before its switch closes, with `n` trips on record. -/
def beforeRejoin (k : Slot) (i : Socket) (n : Nat) (s : State) : State :=
  (s.setSocket k i ⟨.off, 0, none, none⟩).setRecord k i { (s.record k i).reinstate with trips := n }

theorem reinstateSocket_tripped {k : Slot} {i : Socket} {s : State} (h : Rejoins k i s)
    (hf : (s.lines.switchFault.get k).get i = true) :
    SocketTripped k i (beforeRejoin k i (s.record k i).trips s) (reinstateSocket k i s)
      ∧ TripLogged k i .switchFault [] (beforeRejoin k i (s.record k i).trips s) (reinstateSocket k i s)
      ∧ ((reinstateSocket k i s).record k i).reinstate
        = { (s.record k i).reinstate with trips := satInc 65535 (s.record k i).trips } := by
  obtain ⟨_, _, _, _, _, _, _, hactive, hrec, hstrikes, _⟩ := recovered_frame k i s
  obtain ⟨hn, _⟩ | ⟨_, hn, _⟩ | ⟨_, _, e⟩ := reinstateSocket_cases k i s
  · exact absurd h hn
  · rw [hf] at hn; cases hn
  · have hp : ((setPower k i .on none (recovered k i s)).socket k i).power = .on := by simp
    have hs : ((beforeRejoin k i (s.record k i).trips s).socket k i).strikes
        = ((setPower k i .on none (recovered k i s)).socket k i).strikes := by simp [beforeRejoin, hstrikes]
    have ha : ((beforeRejoin k i (s.record k i).trips s).slot k).active
        = ((setPower k i .on none (recovered k i s)).slot k).active := by simp [beforeRejoin, hactive]
    have hr : (beforeRejoin k i (s.record k i).trips s).record k i
        = (setPower k i .on none (recovered k i s)).record k i := by simp [beforeRejoin, hrec, AcctRecord.reinstate]
    obtain ⟨ht, hl⟩ := tripSocket_spec k i .switchFault [] _ hp
    rw [e]
    refine ⟨socketTripped_congr ht hs ha hr, tripLogged_congr hl hs ha hr, ?_⟩
    rw [tripSocket_reinstate _ _ _ _ _ hp]
    simp [hrec, AcctRecord.reinstate]

/-! ## What a turn leaves -/

/-- The three outcomes of a turn keep what `recovered`, a switch-on and a trip keep. -/
theorem reinstateSocket_keeps {k : Slot} {i : Socket} {s : State} {P : State → Prop} (h : P (recovered k i s))
    (hon : ∀ u, P u → P (switchOn k i u)) : P (reinstateSocket k i s) := by
  rw [reinstateSocket_eq]
  split
  · exact hon _ h
  · exact h

theorem reinstateSocket_slotFrame (k : Slot) (i : Socket) (s : State) : SlotFrame k s (reinstateSocket k i s) :=
  reinstateSocket_keeps (P := SlotFrame k s) (recovered_slotFrame k i s) fun u h => h.trans (switchOn_slotFrame k i u)

theorem reinstateSocket_sameBoard (k : Slot) (i : Socket) (s : State) : SameBoard k s (reinstateSocket k i s) := by
  obtain ⟨h1, _, _, _, h2, h3, h4, h5, _⟩ := recovered_frame k i s
  exact reinstateSocket_keeps (P := SameBoard k s) ⟨h1, h2, h3, h4, h5⟩ fun u h => h.trans (by simp [SameBoard])

theorem reinstateSocket_frame (k : Slot) (i : Socket) (s : State) :
    (reinstateSocket k i s).zone = s.zone ∧ (reinstateSocket k i s).link = s.link
      ∧ (reinstateSocket k i s).clock = s.clock ∧ (reinstateSocket k i s).log.epoch = s.log.epoch
      ∧ devStrikesOf k (reinstateSocket k i s) = (devStrikesOf k s).set i 0 := by
  obtain ⟨_, h1, h2, h3, _, _, _, _, _, _, h5⟩ := recovered_frame k i s
  obtain ⟨_, h4⟩ := recovered_log k i s
  refine reinstateSocket_keeps (P := fun t => t.zone = s.zone ∧ t.link = s.link ∧ t.clock = s.clock
    ∧ t.log.epoch = s.log.epoch ∧ devStrikesOf k t = (devStrikesOf k s).set i 0) ⟨h1, h2, h3, h4, h5⟩ fun u hu => ?_
  simpa [switchOn_devStrikes] using hu

theorem reinstateSocket_view (k : Slot) (i n : Socket) (s : State) (h : n ≠ i) :
    socketView k n (reinstateSocket k i s) = socketView k n s :=
  reinstateSocket_keeps (P := fun t => socketView k n t = socketView k n s) (recovered_view k i n s h)
    fun u hu => (switchOn_view k i n u h).trans hu

theorem reinstateSocket_raised (k : Slot) (i : Socket) (s : State) :
    (reinstateSocket k i s).alert.raised.getLsbD (2 + k.code) = true :=
  reinstateSocket_keeps (P := fun t => t.alert.raised.getLsbD (2 + k.code) = true) (recovered_raised k i s)
    fun u hu => switchOn_raised k i u _ hu

theorem reinstateSocket_socketTrip (k : Slot) (i : Socket) (s : State) (h : (s.slot k).socketTrip = true) :
    ((reinstateSocket k i s).slot k).socketTrip = true :=
  reinstateSocket_keeps (P := fun t => (t.slot k).socketTrip = true) ((recovered_socketTrip k i s).trans h)
    fun u hu => switchOn_socketTrip k i u hu

/-! ## The turns of one socket in a list -/

/-- A property of one socket's turns: kept by the turns of the others, and carried from `m` turns to `m + 1` by its own. -/
theorem forSockets_count {f : Socket → State → State} {i : Socket} {Q : Nat → State → Prop}
    (others : ∀ j m u, j ≠ i → Q m u → Q m (f j u)) (own : ∀ m u, Q m u → Q (m + 1) (f i u)) (l : List Socket) (m : Nat)
    (u : State) (h : Q m u) : Q (m + l.count i) (forSockets l f u) := by
  induction l generalizing m u with
  | nil => exact h
  | cons j l ih =>
    rw [forSockets_cons]
    by_cases hj : j = i
    · subst hj
      rw [List.count_cons_self, show m + (l.count j + 1) = m + 1 + l.count j by omega]
      exact ih _ _ (own m u h)
    · rw [List.count_cons_of_ne hj]
      exact ih _ _ (others j m u hj h)

theorem forSockets_append (f : Socket → State → State) (l m : List Socket) (s : State) :
    forSockets (l ++ m) f s = forSockets m f (forSockets l f s) := by
  simp [forSockets]

/-- R32: a socket that a switch-fault input trips as REINSTATE closes its switch. -/
def TripsAgain (k : Slot) (i : Socket) (s : State) : Prop :=
  Rejoins k i s ∧ (s.lines.switchFault.get k).get i = true

/-- R37: socket `i` of `u` after `m` turns of REINSTATE that began in `s`. -/
structure Turns (k : Slot) (i : Socket) (s : State) (m : Nat) (u : State) : Prop where
  board : SameBoard k s u
  none : m = 0 → socketView k i u = socketView k i s ∧ (devStrikesOf k u).get i = (devStrikesOf k s).get i
  dev : 0 < m → (devStrikesOf k u).get i = 0
  free : 0 < m → ¬ TripsAgain k i s → Reinstated k i s u
  tripped : 0 < m → TripsAgain k i s →
    SocketTripped k i (beforeRejoin k i ((satInc 65535)^[m - 1] (s.record k i).trips) s) u
      ∧ (u.record k i).reinstate
        = { (s.record k i).reinstate with trips := (satInc 65535)^[m] (s.record k i).trips }

theorem Reinstated.of_view {k : Slot} {i : Socket} {s t u : State} (h : Reinstated k i s u)
    (hv : socketView k i t = socketView k i u) : Reinstated k i s t := by
  simp only [socketView, Prod.mk.injEq] at hv
  obtain ⟨hs, hr, _, _⟩ := hv
  obtain ⟨h1, h2, h3, h4, h5, h6⟩ := h
  exact ⟨hr.trans h1, by rwa [hs], by rwa [hs], by rwa [hs], by rwa [hs], by rwa [hs]⟩

/-- REINSTATE closes the switch of the same sockets where the board, the lines and the socket's power are the same. -/
theorem SameBoard.rejoins {k : Slot} {i : Socket} {s u : State} (h : SameBoard k s u)
    (hp : (u.socket k i).power = (s.socket k i).power) : Rejoins k i u ↔ Rejoins k i s := by
  obtain ⟨_, hb, _, hd, _⟩ := h
  unfold Rejoins
  rw [hb, hd, hp]

theorem SameBoard.rejoins_of_off {k : Slot} {i : Socket} {s u : State} (h : SameBoard k s u) (hr : Rejoins k i s)
    (h1 : (u.socket k i).power ≠ .on) (h2 : (u.socket k i).power ≠ .masked) : Rejoins k i u := by
  obtain ⟨_, hb, _, hd, _⟩ := h
  exact ⟨hb.trans hr.1, h1, h2, hd ▸ hr.2.2.2⟩

/-- A socket that went ON, or could not, has nothing left to rejoin. -/
theorem Reinstated.not_rejoins {k : Slot} {i : Socket} {s u : State} (h : Reinstated k i s u) (hb : SameBoard k s u) :
    ¬ Rejoins k i u := by
  rintro ⟨hpow, hon, hmask, hpop⟩
  obtain ⟨_, hboard, _, hdesc, _⟩ := hb
  refine hon (h.on ?_)
  by_contra hn
  rw [not_or] at hn
  exact hn.2 ⟨hboard.symm.trans hpow, hn.1, fun e => hmask (h.masked e), hdesc ▸ hpop⟩

/-- A second REINSTATE of a socket that the first did not trip. -/
theorem Reinstated.again {k : Slot} {i : Socket} {s u t : State} (h : Reinstated k i s u) (hb : SameBoard k s u)
    (g : Reinstated k i u t) : Reinstated k i s t where
  record := by rw [g.record, h.record]; rfl
  strikes := g.strikes
  on := fun e => g.on (.inl (h.on e))
  masked := fun e => g.masked (h.masked e)
  off := fun h1 h2 => by
    have hoff := h.off h1 h2
    exact g.off (fun e => e.elim (fun e => by rw [hoff] at e; cases e) (h.not_rejoins hb)) (by rw [hoff]; decide)
  retry := fun e => g.retry (.inl (h.retry e))

theorem Turns.start (k : Slot) (i : Socket) (s : State) : Turns k i s 0 s :=
  ⟨.refl k s, fun _ => ⟨rfl, rfl⟩, fun h => absurd h (lt_irrefl 0), fun h => absurd h (lt_irrefl 0),
    fun h => absurd h (lt_irrefl 0)⟩

/-- The turn of another socket. -/
theorem Turns.other {k : Slot} {i j : Socket} {s u : State} {m : Nat} (hj : j ≠ i) (h : Turns k i s m u) :
    Turns k i s m (reinstateSocket k j u) := by
  have hv : socketView k i (reinstateSocket k j u) = socketView k i u := reinstateSocket_view k j i u hj.symm
  have hd : (devStrikesOf k (reinstateSocket k j u)).get i = (devStrikesOf k u).get i := by
    obtain ⟨_, _, _, _, e⟩ := reinstateSocket_frame k j u
    rw [e, Table.get_set_ne _ _ hj.symm]
  refine ⟨h.board.trans (reinstateSocket_sameBoard k j u), fun e => ?_, fun e => hd.trans (h.dev e),
    fun e hn => (h.free e hn).of_view hv, fun e ht => ?_⟩
  · obtain ⟨h1, h2⟩ := h.none e
    exact ⟨hv.trans h1, hd.trans h2⟩
  · obtain ⟨h1, h2⟩ := h.tripped e ht
    obtain ⟨_, _, _, _, htrip, hr⟩ := id h1
    refine ⟨socketTripped_of_view h1 hv (reinstateSocket_socketTrip k j u htrip) (reinstateSocket_raised k j u), ?_⟩
    simp only [socketView, Prod.mk.injEq] at hv
    rw [hv.2.1]
    exact h2

/-- R33: a trip leaves a socket QUARANTINED or in TRIP-WAIT. -/
theorem socketTripped_power {k : Slot} {i : Socket} {s t : State} (h : SocketTripped k i s t) :
    (t.socket k i).power = .quarantined ∨ (t.socket k i).power = .tripWait := by
  obtain ⟨h, _⟩ := h
  split at h
  · rw [h.1]; exact .inl rfl
  · rw [h]; exact .inr rfl

/-- Where a socket's turns trip it, its next turn does too. -/
theorem Turns.rejoins {k : Slot} {i : Socket} {s u : State} {m : Nat} (h : Turns k i s m u) :
    TripsAgain k i s ↔ Rejoins k i u ∧ (u.lines.switchFault.get k).get i = true := by
  have hl : u.lines = s.lines := h.board.1
  rw [hl]
  refine and_congr_left fun hf => ?_
  by_cases hm : m = 0
  · have hv := (h.none hm).1
    simp only [socketView, Prod.mk.injEq] at hv
    exact (h.board.rejoins (by rw [hv.1])).symm
  · refine ⟨fun hr => ?_, fun hu => ?_⟩
    · have hp := socketTripped_power (h.tripped (Nat.pos_of_ne_zero hm) ⟨hr, hf⟩).1
      exact h.board.rejoins_of_off hr (by rintro e; simp [e] at hp) (by rintro e; simp [e] at hp)
    · by_contra hr
      exact (h.free (Nat.pos_of_ne_zero hm) fun ht => hr ht.1).not_rejoins h.board hu

/-- Before its next turn, a socket's record has only its trips to show that it has had some. -/
theorem Turns.reinstate {k : Slot} {i : Socket} {s u : State} {m : Nat} (h : Turns k i s m u) :
    (TripsAgain k i s → (u.record k i).reinstate
        = { (s.record k i).reinstate with trips := (satInc 65535)^[m] (s.record k i).trips })
      ∧ (¬ TripsAgain k i s → (u.record k i).reinstate = (s.record k i).reinstate) := by
  by_cases hm : m = 0
  · have hv := (h.none hm).1
    simp only [socketView, Prod.mk.injEq] at hv
    rw [hv.2.1, hm]
    exact ⟨fun _ => rfl, fun _ => rfl⟩
  · exact ⟨fun ht => (h.tripped (Nat.pos_of_ne_zero hm) ht).2,
      fun hn => by rw [(h.free (Nat.pos_of_ne_zero hm) hn).record]; rfl⟩

/-- The trip of a socket's next turn, seen from the state before the turns. -/
theorem Turns.trip {k : Slot} {i : Socket} {s u : State} {m : Nat} (h : Turns k i s m u) (ht : TripsAgain k i s) :
    let again := beforeRejoin k i ((satInc 65535)^[m] (s.record k i).trips) s
    SocketTripped k i again (reinstateSocket k i u) ∧ TripLogged k i .switchFault [] again (reinstateSocket k i u)
      ∧ ((reinstateSocket k i u).record k i).reinstate
        = { (s.record k i).reinstate with trips := (satInc 65535)^[m + 1] (s.record k i).trips } := by
  obtain ⟨hr, hf⟩ := h.rejoins.mp ht
  obtain ⟨h1, h2, h3⟩ := reinstateSocket_tripped hr hf
  have hrec := h.reinstate.1 ht
  have htrips : (u.record k i).trips = (satInc 65535)^[m] (s.record k i).trips := congrArg AcctRecord.trips hrec
  have hact : (u.slot k).active = (s.slot k).active := h.board.2.2.2.2
  have hbase : (beforeRejoin k i ((satInc 65535)^[m] (s.record k i).trips) s).record k i
      = (beforeRejoin k i (u.record k i).trips u).record k i := by
    simp [beforeRejoin, hrec, htrips]
  refine ⟨socketTripped_congr h1 (by simp [beforeRejoin]) (by simp [beforeRejoin, hact]) hbase,
    tripLogged_congr h2 (by simp [beforeRejoin]) (by simp [beforeRejoin, hact]) hbase, ?_⟩
  rw [h3, hrec, htrips, Function.iterate_succ_apply']

/-- A socket's own turn. -/
theorem Turns.own {k : Slot} {i : Socket} {s u : State} {m : Nat} (h : Turns k i s m u) :
    Turns k i s (m + 1) (reinstateSocket k i u) := by
  refine ⟨h.board.trans (reinstateSocket_sameBoard k i u), fun e => absurd e (Nat.succ_ne_zero m), fun _ => ?_,
    fun _ hn => ?_, fun _ ht => ⟨(h.trip ht).1, (h.trip ht).2.2⟩⟩
  · obtain ⟨_, _, _, _, e⟩ := reinstateSocket_frame k i u
    rw [e, Table.get_set_same]
  · obtain ⟨g, _, _⟩ := reinstateSocket_untripped (mt h.rejoins.mpr hn)
    by_cases hm : m = 0
    · have hv := (h.none hm).1
      simp only [socketView, Prod.mk.injEq] at hv
      obtain ⟨h1, h2, h3, h4, h5, h6⟩ := g
      rw [h.board.rejoins (by rw [hv.1]), hv.1] at h3 h5
      exact ⟨by rw [h1, hv.2.1], h2, h3, by rwa [hv.1] at h4, h5, by rwa [hv.1] at h6⟩
    · exact (h.free (Nat.pos_of_ne_zero hm) hn).again h.board g

theorem forSockets_turns (k : Slot) (l : List Socket) (s : State) (i : Socket) :
    Turns k i s (l.count i) (forSockets l (reinstateSocket k) s) := by
  have h := forSockets_count (Q := Turns k i s) (fun j m u hj h => h.other (j := j) hj) (fun m u h => h.own) l 0 s
    (.start k i s)
  rwa [Nat.zero_add] at h

/-! ## The newest entry -/

/-- R141, R191: the detail of a socket's turn: the cause removed, or NONE where a turn has removed it already. -/
theorem Turns.detail {k : Slot} {i : Socket} {s u : State} {m : Nat} (h : Turns k i s m u) (hn : ¬ TripsAgain k i s) :
    (u.record k i).reinstateDetail = if m = 0 then (s.record k i).reinstateDetail else [0xFF] := by
  by_cases hm : m = 0
  · have hv := (h.none hm).1
    simp only [socketView, Prod.mk.injEq] at hv
    rw [if_pos hm, hv.2.1]
  · rw [if_neg hm, (h.free (Nat.pos_of_ne_zero hm) hn).record]
    rfl

/-- R153: the entry of a turn that does not trip the socket is the newest. -/
theorem Turns.newest {k : Slot} {i : Socket} {s u : State} {m : Nat} (h : Turns k i s m u) (hn : ¬ TripsAgain k i s) :
    NewestIs (reinstateSocket k i u) (some k) (some i) .reinstated
      (if m = 0 then (s.record k i).reinstateDetail else [0xFF]) := by
  obtain ⟨_, _, g⟩ := reinstateSocket_untripped (mt h.rejoins.mpr hn)
  rw [← h.detail hn]
  exact g

/-! ## The log -/

/-- R149: one more entry in a log of at most 256 whose entries are the newest of a list. -/
theorem push_newest_of {l : FailLog} {a es : List LogEntry} (e : LogEntry)
    (h : l.entries = (a ++ es).drop (a.length + es.length - 256)) :
    (l.push e).entries = (a ++ (es ++ [e])).drop (a.length + (es ++ [e]).length - 256) := by
  have hlen : l.entries.length = a.length + es.length - (a.length + es.length - 256) := by
    rw [h, List.length_drop, List.length_append]
  rw [← List.append_assoc, List.drop_append_of_le_length (by simp; omega), List.length_append, List.length_singleton]
  by_cases hs : l.entries.length < 256
  · rw [FailLog.push_of_lt e hs]
    dsimp only
    rw [h, show a.length + es.length - 256 = 0 by omega, show a.length + (es.length + 1) - 256 = 0 by omega]
  · rw [FailLog.push_of_full e hs]
    dsimp only
    rw [h, List.drop_drop, show a.length + es.length - 256 + 1 = a.length + (es.length + 1) - 256 by omega]

/-- What the statement reads of an entry. -/
def LogEntry.shown (e : LogEntry) : Option Slot × Option Socket × LogCause × List Byte × Nat × Nat :=
  (e.slot, e.socket, e.cause, e.detail, e.epoch, e.runSeconds)

/-- R153: the entry of the number at place `j` of a list of REINSTATE, as it is shown. -/
def listedEntry (k : Slot) (s : State) (l : List Nat) (j : Nat) :
    Option Slot × Option Socket × LogCause × List Byte × Nat × Nat :=
  (some k, some (socketOf (l.getD j 0)), .reinstated,
    if l.getD j 0 ∈ l.take j then [0xFF] else (s.record k (socketOf (l.getD j 0))).reinstateDetail,
    s.log.epoch, s.clock.runSeconds)

theorem listedEntry_append (k : Slot) (s : State) (l : List Nat) (x j : Nat) (h : j < l.length) :
    listedEntry k s (l ++ [x]) j = listedEntry k s l j := by
  have hg : (l ++ [x]).getD j 0 = l.getD j 0 := List.getD_append _ _ _ _ h
  have ht : (l ++ [x]).take j = l.take j := List.take_append_of_le_length h.le
  simp only [listedEntry, hg, ht]

theorem listedEntry_last (k : Slot) (s : State) (l : List Nat) (x : Nat) :
    listedEntry k s (l ++ [x]) l.length = (some k, some (socketOf x), .reinstated,
      if x ∈ l then [0xFF] else (s.record k (socketOf x)).reinstateDetail, s.log.epoch, s.clock.runSeconds) := by
  simp [listedEntry]

theorem count_map_socketOf_eq_zero {l : List Nat} {x : Nat} (hl : ∀ n ∈ l, n ≤ 31) (hx : x ≤ 31) :
    (l.map socketOf).count (socketOf x) = 0 ↔ x ∉ l := by
  have hv : (socketOf x).val = x := by
    simp only [socketOf, Fin.ofNat]
    omega
  rw [List.count_eq_zero, mem_map_socketOf hl, hv]

/-- R153: with no socket tripped, one entry for each number of the list, in order. -/
theorem forSockets_reinstate_log (k : Slot) (l : List Nat) (s : State) (hl : ∀ n ∈ l, n ≤ 31)
    (hn : ∀ n ∈ l, ¬ TripsAgain k (socketOf n) s) (hs : s.log.entries.length ≤ 256) :
    ∃ es : List LogEntry, (forSockets (l.map socketOf) (reinstateSocket k) s).log.entries
        = (s.log.entries ++ es).drop (s.log.entries.length + es.length - 256)
      ∧ es.map LogEntry.shown = (List.range l.length).map (listedEntry k s l) := by
  induction l using List.reverseRecOn with
  | nil =>
    refine ⟨[], ?_, rfl⟩
    simp [hs]
  | append_singleton l x ih =>
    have hl' : ∀ n ∈ l, n ≤ 31 := fun n h => hl n (by simp [h])
    obtain ⟨es, hlog, hshown⟩ := ih hl' fun n h => hn n (by simp [h])
    have hturns := forSockets_turns k (l.map socketOf) s (socketOf x)
    have hkept : (forSockets (l.map socketOf) (reinstateSocket k) s).log.epoch = s.log.epoch
        ∧ (forSockets (l.map socketOf) (reinstateSocket k) s).clock = s.clock :=
      ⟨forSockets_keeps (fun u => u.log.epoch) _ (fun i u => (reinstateSocket_frame k i u).2.2.2.1) _ _,
        forSockets_keeps State.clock _ (fun i u => (reinstateSocket_frame k i u).2.2.1) _ _⟩
    rw [List.map_append, List.map_singleton, forSockets_append]
    generalize forSockets (l.map socketOf) (reinstateSocket k) s = u at hlog hturns hkept
    have hx : ¬ TripsAgain k (socketOf x) s := hn x (by simp)
    obtain ⟨_, hentry, _⟩ := reinstateSocket_untripped (mt hturns.rejoins.mpr hx)
    refine ⟨es ++ [reinstatedEntry k (socketOf x) u], hentry.trans (push_newest_of _ hlog), ?_⟩
    have hlast : (reinstatedEntry k (socketOf x) u).shown = listedEntry k s (l ++ [x]) l.length := by
      have hd := hturns.detail hx
      simp only [count_map_socketOf_eq_zero hl' (hl x (by simp))] at hd
      rw [listedEntry_last]
      simp only [LogEntry.shown, reinstatedEntry, entryNow, hd, State.setRecord_frame, hkept, ite_not]
    rw [List.map_append, hshown, List.length_append, List.length_singleton, List.range_succ, List.map_append,
      List.map_singleton, List.map_singleton, hlast]
    refine congrArg (· ++ _) (List.map_congr_left fun j hj => ?_)
    exact (listedEntry_append k s l x j (List.mem_range.mp hj)).symm

theorem count_map_socketOf {l : List Nat} (hl : ∀ n ∈ l, n ≤ 31) (i : Socket) :
    (l.map socketOf).count i = l.count i.val := by
  rw [List.count, List.countP_map]
  refine List.countP_congr fun n hn => ?_
  have hv : (socketOf n).val = n := by
    have h31 := hl n hn
    simp only [socketOf, Fin.ofNat]
    omega
  simp only [Function.comp, beq_iff_eq, Fin.ext_iff, hv]

/-- Settles O39: each socket by its turns (`forSockets_turns`), the newest entry by the last turn, and the log by the
entry of each turn. -/
theorem reinstateRestoresTheSocket : Obligations.ReinstateRestoresTheSocket := by
  intro s k l h he hi h1 h2 hl goesOn trips good removed
  have hlink (i : Socket) (u : State) : (reinstateSocket k i u).link = u.link := (reinstateSocket_frame k i u).2.1
  have hdetail (i : Socket) : (s.record k i).reinstateDetail = removed i := by
    simp only [AcctRecord.reinstateDetail, removed]
    cases (s.record k i).first <;> rfl
  have hturns (i : Socket) := forSockets_turns k (l.map socketOf) (received s) i
  simp only [count_map_socketOf hl] at hturns
  refine ⟨_, congrArg Host.Outcome.next (takeRequest_socketSet h h1 h2 he hi hl hlink), ?_, ?_,
    fun i => ⟨fun hm => ?_, fun hm => ?_, fun hlast => ?_⟩, fun hn hs => ?_⟩
  · exact (received_slotFrame k s).trans (forSockets_slotFrame _ (fun i u => reinstateSocket_slotFrame k i u) _ _)
  · exact forSockets_keeps State.zone _ (fun i u => (reinstateSocket_frame k i u).1) _ _
  · have hpos : 0 < l.count i.val := List.count_pos_iff.mpr hm
    refine ⟨(hturns i).dev hpos, fun hn => ?_, fun ht => ?_⟩
    · obtain ⟨hrec, hstrikes, hon, hmasked, hoff, hretry⟩ := (hturns i).free hpos hn
      refine ⟨hrec, hstrikes, ?_, fun hp => hretry (.inr hp)⟩
      split_ifs with c1 c2
      · exact hon c1
      · exact hmasked c2
      · exact hoff c1 c2
    · exact socketTripped_congr ((hturns i).tripped hpos ht).1 rfl rfl rfl
  · have hv := (hturns i).none (List.count_eq_zero.mpr hm)
    simp only [socketView, Prod.mk.injEq] at hv
    exact ⟨hv.1.1, hv.1.2.1, hv.2⟩
  · obtain ⟨l', rfl⟩ := List.getLast?_eq_some_iff.mp hlast
    have hl' : ∀ n ∈ l', n ≤ 31 := fun n hn => hl n (by simp [hn])
    have hlastTurn := forSockets_turns k (l'.map socketOf) (received s) i
    rw [count_map_socketOf hl'] at hlastTurn
    have hcount : (l' ++ [i.val]).count i.val = l'.count i.val + 1 := by simp
    rw [List.map_append, List.map_singleton, forSockets_append, socketOf_val, hcount]
    refine ⟨fun hn => ?_, fun ht => tripLogged_congr (hlastTurn.trip ht).2.1 rfl rfl rfl⟩
    rw [← hdetail]
    simp only [Nat.add_eq_right]
    exact hlastTurn.newest hn
  · have hlog := forSockets_reinstate_log k l (received s) hl (fun n hm => hn n hm) hs
    obtain ⟨es, hentries, hshown⟩ := hlog
    refine ⟨es, hentries, hshown.trans (List.map_congr_left fun j _ => ?_)⟩
    simp only [← hdetail]
    rfl

end Sys2Proof.Machine
end


section
/-!
PROOFS. Burst starts (R77, R79, R85, R86, R96): the deliveries of a capture request to the profile records, the state a
start leaves, and BURST-TRIGGER.
-/

namespace Sys2Proof.Machine

open Safety

/-! ## What a failure report leaves of the compare unit and of a record -/

theorem dropNotice_compare (k : Slot) (i : Socket) (s : State) :
    (dropNotice k i s).compare k = if (s.socket k i).power = .on ∨ (s.socket k i).power = .tripWait then
      { s.compare k with member := (s.compare k).member.set i false, mismatch := (s.compare k).mismatch.set i 0 }
      else s.compare k := by
  unfold dropNotice
  cases (s.socket k i).power <;> simp [setPower_compare]

/-- R91, R139, step 4: a failure report that opens a switch takes the socket out of the verdict set. -/
theorem reportFailure_compare (k : Slot) (i : Socket) (c : FailCause) (d : List Byte) (s : State) :
    (reportFailure k i c d s).compare k =
      if (s.record k i).verdict = .good ∧ (s.slot k).active.policy = .drop
          ∧ ((s.socket k i).power = .on ∨ (s.socket k i).power = .tripWait) then
        { s.compare k with member := (s.compare k).member.set i false, mismatch := (s.compare k).mismatch.set i 0 }
      else s.compare k := by
  have hv : ((logFailure k i c d (s.setRecord k i ((s.record k i).countReport c))).record k i).verdict
      = (s.record k i).verdict := by
    unfold logFailure
    split <;> cases c <;> simp [appendSocket, AcctRecord.countReport, AcctRecord.markLogged]
  unfold reportFailure
  obtain ⟨h1, e⟩ | ⟨h1, r, _, ⟨h2, e⟩ | ⟨h2, e⟩⟩ :=
    turnFailed_cases k i c d (logFailure k i c d (s.setRecord k i ((s.record k i).countReport c))) <;>
    rw [e] <;> rw [hv] at h1
  · simp [h1]
  · simp only [logFailure_slotFields, State.setRecord_frame] at h2
    simp [dropNotice_compare, h1, h2]
  · simp only [logFailure_slotFields, State.setRecord_frame] at h2
    simp [h1, h2]

/-- The compare unit but for members and counts that are cleared: a socket that leaves the verdict set (R91). -/
structure Unmarked (k : Slot) (s t : State) : Prop where
  unit : t.compare k = { s.compare k with member := (t.compare k).member, mismatch := (t.compare k).mismatch }
  member : ∀ i, (s.compare k).member.get i = false → (t.compare k).member.get i = false
  mismatch : ∀ i, (s.compare k).mismatch.get i = 0 → (t.compare k).mismatch.get i = 0

theorem Unmarked.of_eq {k : Slot} {s t : State} (h : t.compare k = s.compare k) : Unmarked k s t := by
  refine ⟨?_, ?_, ?_⟩ <;> rw [h]
  all_goals exact fun _ e => e

theorem Unmarked.trans {k : Slot} {s t u : State} (h : Unmarked k s t) (g : Unmarked k t u) : Unmarked k s u :=
  ⟨by rw [g.unit, h.unit], fun i e => g.member i (h.member i e), fun i e => g.mismatch i (h.mismatch i e)⟩

/-- One socket leaves the verdict set. -/
theorem Unmarked.cleared {k : Slot} {s t : State} (i : Socket) (h : t.compare k =
    { s.compare k with member := (s.compare k).member.set i false, mismatch := (s.compare k).mismatch.set i 0 }) :
    Unmarked k s t := by
  refine ⟨?_, fun n e => ?_, fun n e => ?_⟩ <;> rw [h]
  · rw [Table.get_set, e, ite_self]
  · rw [Table.get_set, e, ite_self]

theorem setPower_unmarked (k : Slot) (i : Socket) (p : PowerState) (t : Timer) (s : State) :
    Unmarked k s (setPower k i p t s) := by
  have h := setPower_compare k k i p t s
  split at h
  · exact .cleared i h
  · exact .of_eq h

theorem dropNotice_unmarked (k : Slot) (i : Socket) (s : State) : Unmarked k s (dropNotice k i s) := by
  have h := dropNotice_compare k i s
  split at h
  · exact .cleared i h
  · exact .of_eq h

theorem reportFailure_unmarked (k : Slot) (i : Socket) (c : FailCause) (d : List Byte) (s : State) :
    Unmarked k s (reportFailure k i c d s) := by
  have h := reportFailure_compare k i c d s
  split at h
  · exact .cleared i h
  · exact .of_eq h

/-- What is kept of a record from one burst end to the next step that reports FUNCTIONAL (R92, R139). -/
structure AcctRecord.Keeps (r t : AcctRecord) : Prop where
  failing : t.failing = r.failing
  verdict : r.verdict = .failed → t.verdict = .failed
  functional : r.loggedFunctional = true → t.loggedFunctional = true

theorem AcctRecord.Keeps.refl (r : AcctRecord) : r.Keeps r := ⟨rfl, id, id⟩

theorem AcctRecord.Keeps.trans {r t u : AcctRecord} (h : r.Keeps t) (g : t.Keeps u) : r.Keeps u :=
  ⟨g.failing.trans h.failing, fun e => g.verdict (h.verdict e), fun e => g.functional (h.functional e)⟩

/-- R139: what a failure report with another cause keeps of every record. -/
theorem reportFailure_keeps {c : FailCause} (hc : c ≠ .functional) (k : Slot) (i : Socket) (d : List Byte) (s : State)
    (n : Socket) : (s.record k n).Keeps ((reportFailure k i c d s).record k n) := by
  by_cases hn : n = i
  · subst hn
    refine ⟨?_, fun _ => reportFailure_failed k n c d s, fun e => ?_⟩ <;> rw [reportFailure_record_same] <;> cases c
    case functional => exact absurd rfl hc
    case functional => exact absurd rfl hc
    all_goals
      dsimp only
      split
    · rfl
    · rfl
    · rfl
    · rfl
    all_goals exact e
  · rw [reportFailure_record_ne k i c d s (fun h => hn h.2)]
    exact .refl _

/-! ## What an apply leaves of the compare unit and of the records -/

/-- What an apply keeps (R41): the compare unit but for members cleared, and the records but for QUARANTINE and trips. -/
structure Carried (k : Slot) (s t : State) : Prop where
  marks : Unmarked k s t
  record : ∀ i, (s.record k i).Keeps (t.record k i)
  reports : ∀ i, (t.record k i).reports = (s.record k i).reports

theorem Carried.refl (k : Slot) (s : State) : Carried k s s := ⟨.of_eq rfl, fun _ => .refl _, fun _ => rfl⟩

theorem Carried.trans {k : Slot} {s t u : State} (h : Carried k s t) (g : Carried k t u) : Carried k s u :=
  ⟨h.marks.trans g.marks, fun i => (h.record i).trans (g.record i), fun i => (g.reports i).trans (h.reports i)⟩

/-- A step that leaves the records and clears members alone. -/
theorem Unmarked.carried {k : Slot} {s t : State} (h : Unmarked k s t) (hr : ∀ i, t.record k i = s.record k i) :
    Carried k s t :=
  ⟨h, fun i => by rw [hr]; exact .refl _, fun i => by rw [hr]⟩

theorem setPower_carried (k : Slot) (i : Socket) (p : PowerState) (t : Timer) (s : State) :
    Carried k s (setPower k i p t s) :=
  (setPower_unmarked k i p t s).carried fun _ => by simp

theorem reportFailure_carried (k : Slot) (i : Socket) (d : List Byte) (s : State) :
    Carried k s (reportFailure k i .quarantine d s) := by
  refine ⟨reportFailure_unmarked k i _ d s, reportFailure_keeps (by decide) k i d s, fun n => ?_⟩
  by_cases hn : n = i
  · subst hn
    rw [reportFailure_record_same]
    dsimp only
    split <;> rfl
  · rw [reportFailure_record_ne k i _ d s fun h => hn h.2]

theorem tripSocket_carried (k : Slot) (i : Socket) (c : LogCause) (d : List Byte) (s : State) :
    Carried k s (tripSocket k i c d s) := by
  by_cases h : (s.socket k i).power = .on
  · obtain ⟨q, s2, s4, _, h2, h4, e⟩ := tripSocket_of_on k i c d s h
    have c2 : Carried k s s2 := by
      rw [h2]
      exact Carried.trans (Unmarked.carried (.of_eq (by simp)) fun _ => by simp) (setPower_carried _ _ _ _ _)
    have c4 : Carried k s2 s4 := by
      have hrec (n : Socket) : s4.record k n
          = if n = i then { s2.record k i with trips := satInc 65535 (s2.record k i).trips } else s2.record k n := by
        rw [h4]
        simp [appendSocket, State.setRecord_record]
      refine ⟨.of_eq (by rw [h4]; simp [appendSocket]), fun n => ?_, fun n => ?_⟩ <;> rw [hrec] <;> split
      · next hn => subst hn; exact ⟨rfl, id, id⟩
      · exact .refl _
      · next hn => subst hn; rfl
      · rfl
    have c5 : Carried k s4 (s4.setSlot k { s4.slot k with socketTrip := true }) :=
      Unmarked.carried (.of_eq (by simp)) fun _ => by simp
    rw [e]
    cases q
    · exact (c2.trans c4).trans c5
    · exact ((c2.trans c4).trans c5).trans (reportFailure_carried _ _ _ _)
  · rw [tripSocket_of_not_on k i c d s h]
    exact .refl k s

theorem switchOn_carried (k : Slot) (i : Socket) (s : State) : Carried k s (switchOn k i s) := by
  obtain ⟨_, e⟩ | ⟨_, ⟨_, e⟩ | ⟨_, e⟩⟩ := switchOn_cases k i s <;> rw [e]
  · exact .refl k s
  · exact setPower_carried _ _ _ _ _
  · exact (setPower_carried _ _ _ _ _).trans (tripSocket_carried _ _ _ _ _)

theorem lowerLimit_carried (k : Slot) (l : Nat) (i : Socket) (s : State) : Carried k s (lowerLimit k l i s) := by
  obtain ⟨_, e⟩ | ⟨_, s1, h1, h⟩ := lowerLimit_cases k l i s
  · rw [e]
    exact .refl k s
  · have c1 : Carried k s s1 := by
      rw [h1]
      exact Unmarked.carried (.of_eq (by simp)) fun _ => by simp
    obtain ⟨_, e⟩ | ⟨_, e⟩ := h <;> rw [e]
    · exact c1
    · exact (c1.trans (setPower_carried _ _ _ _ _)).trans (reportFailure_carried _ _ _ _)

theorem dropFailed_carried (k : Slot) (i : Socket) (s : State) : Carried k s (dropFailed k i s) := by
  obtain e | e := dropFailed_cases k i s <;> rw [e]
  · exact .refl k s
  · exact (dropNotice_unmarked k i s).carried fun _ => by simp

/-- A loop whose turns keep what an apply keeps. -/
theorem forSockets_carried {k : Slot} {f : Socket → State → State} (h : ∀ i u, Carried k u (f i u)) (l : List Socket)
    (s : State) : Carried k s (forSockets l f s) :=
  forSockets_invariant (Carried k s) f (fun i u hu => hu.trans (h i u)) l s (.refl k s)

theorem takeApply_carried (k : Slot) (s : State) : Carried k s (takeApply k s) := by
  have hlimit (u : State) (n : Nat) : Carried k u (applyLimit k n u) := by
    unfold applyLimit
    dsimp only
    split
    · exact forSockets_carried (lowerLimit_carried k _) _ _
    · exact .refl k u
  have hpolicy (u : State) (p : FailPolicy) : Carried k u (applyPolicy k p u) := by
    unfold applyPolicy
    split
    · split
      · exact forSockets_carried (switchOn_carried k) _ _
      · exact .refl k u
    · exact forSockets_carried (dropFailed_carried k) _ _
    · exact .refl k u
  have hcopy : Carried k s (copyStaged k s) := Unmarked.carried (.of_eq (by simp)) fun _ => by simp
  exact (hcopy.trans (hlimit _ _)).trans (hpolicy _ _)

theorem endDeferred_carried (k : Slot) (cancel : Bool) (s : State) : Carried k s (endDeferred k cancel s) := by
  obtain ⟨_, e⟩ | ⟨_, _, e⟩ | ⟨_, _, e⟩ := endDeferred_cases k cancel s <;> rw [e]
  · exact .refl k s
  · exact Unmarked.carried (.of_eq (by simp)) fun _ => by simp
  · exact takeApply_carried k s

theorem closingWaits_congr {k : Slot} {s t : State} (h : (t.compare k).closing = (s.compare k).closing) :
    ClosingWaits k t ↔ ClosingWaits k s := by
  unfold ClosingWaits
  rw [h]

/-- A closing record waits as before where the compare unit loses only members and counts. -/
theorem Unmarked.waits {k : Slot} {s t : State} (h : Unmarked k s t) : ClosingWaits k t ↔ ClosingWaits k s :=
  closingWaits_congr (by rw [h.unit])

/-! ## The finish of a profile record -/

/-- What the deliveries to the profile records, and the verdicts that these can end in, keep (R97, R99, R102). -/
structure Profiled (k : Slot) (s t : State) : Prop where
  chan : t.chan = s.chan
  store : t.store = s.store
  throttle : t.throttle k = s.throttle k
  active : (t.slot k).active = (s.slot k).active
  record : ∀ i, (s.record k i).Keeps (t.record k i)
  phases : (t.compare k).phases = (s.compare k).phases
  collecting : (t.compare k).collecting.isSome = (s.compare k).collecting.isSome
  mismatch : ∀ i, (s.compare k).mismatch.get i = 0 → (t.compare k).mismatch.get i = 0
  member : ∀ i, (s.compare k).member.get i = decide ((s.socket k i).power = .on) →
    (t.compare k).member.get i = decide ((t.socket k i).power = .on)

theorem Profiled.refl (k : Slot) (s : State) : Profiled k s s :=
  ⟨rfl, rfl, rfl, rfl, fun _ => .refl _, rfl, rfl, fun _ => id, fun _ => id⟩

theorem Profiled.trans {k : Slot} {s t u : State} (h : Profiled k s t) (g : Profiled k t u) : Profiled k s u where
  chan := g.chan.trans h.chan
  store := g.store.trans h.store
  throttle := g.throttle.trans h.throttle
  active := g.active.trans h.active
  record := fun i => (h.record i).trans (g.record i)
  phases := g.phases.trans h.phases
  collecting := g.collecting.trans h.collecting
  mismatch := fun i e => g.mismatch i (h.mismatch i e)
  member := fun i e => g.member i (h.member i e)

theorem Profiled.scanner (k : Slot) (x : Scanner) (s : State) : Profiled k s (s.setScanner k x) :=
  ⟨rfl, rfl, rfl, rfl, fun _ => .refl _, rfl, rfl, fun _ => id, fun _ => id⟩

/-- The compare unit with other strikes and other profile records, one collecting where one was. -/
theorem Profiled.unit (k : Slot) (d : Table 32 Nat) {a b : Option ProfileRecord} {s : State}
    (ha : a.isSome = (s.compare k).collecting.isSome) :
    Profiled k s (s.setCompare k { s.compare k with devStrikes := d, collecting := a, closing := b }) := by
  exact ⟨rfl, rfl, rfl, rfl, fun _ => .refl _, by simp, by simpa using ha, fun i e => by simpa using e,
    fun i e => by simpa using e⟩

theorem reportFailure_profiled (k : Slot) (i : Socket) (d : List Byte) (s : State) :
    Profiled k s (reportFailure k i .currentProfile d s) where
  chan := by simp
  store := by simp
  throttle := by simp
  active := by simp
  record := reportFailure_keeps (by decide) k i d s
  phases := by rw [(reportFailure_unmarked k i _ d s).unit]
  collecting := by rw [(reportFailure_unmarked k i _ d s).unit]
  mismatch := (reportFailure_unmarked k i _ d s).mismatch
  member := fun n e => by
    rw [reportFailure_compare, reportFailure_socket]
    by_cases hn : n = i
    · subst hn
      simp only [true_and]
      split
      · simp
      · exact e
    · simp only [hn, and_false, false_and, if_false]
      split
      · rw [Table.get_set_ne _ _ hn, e]
      · exact e

theorem judgeSocket_profiled (k : Slot) (p : ProfileRecord) (i : Socket) (s : State) :
    Profiled k s (judgeSocket k p i s) := by
  have hunit := Profiled.unit (s := s) k ((s.compare k).devStrikes.set i (satInc 15 ((s.compare k).devStrikes.get i)))
    (b := (s.compare k).closing) rfl
  unfold judgeSocket
  split
  · dsimp only
    split
    · split
      · exact hunit.trans (reportFailure_profiled _ _ _ _)
      · exact hunit
    · exact .refl k s
  · exact .refl k s

theorem profileVerdict_profiled (k : Slot) (p : ProfileRecord) (s : State) : Profiled k s (profileVerdict k p s) := by
  unfold profileVerdict
  split
  · exact .refl k s
  · exact forSockets_invariant (Profiled k s) _ (fun i u h => h.trans (judgeSocket_profiled k p i u)) _ _ (.refl k s)

theorem finishClosing_profiled (k : Slot) (s : State) : Profiled k s (finishClosing k s) := by
  unfold finishClosing
  split
  · split
    · exact (Profiled.unit k (s.compare k).devStrikes rfl).trans (profileVerdict_profiled _ _ _)
    · exact .refl k s
  · exact .refl k s

theorem deliver_profiled (k : Slot) (n : Nat) (f : ProfileRecord → ProfileRecord) (s : State) :
    Profiled k s (deliver k n f s) :=
  (Profiled.unit k (s.compare k).devStrikes (by simp)).trans (finishClosing_profiled _ _)

theorem requestCapture_profiled (k : Slot) (p : Fin 8) (n : Nat) (s : State) :
    Profiled k s (requestCapture k p n s) := by
  have hlist : Profiled k s (captureIntoList k p n s) :=
    captureLoss_keeps (Profiled k s) k (fun n f u h => h.trans (deliver_profiled k n f u)) _ _ (.scanner k _ s)
  unfold requestCapture
  split
  · split
    · exact (Profiled.scanner k _ s).trans (deliver_profiled _ _ _ _)
    · exact hlist
  · exact hlist

/-! ## A capture request while a closing record waits -/

/-- What a capture request keeps where no profile verdict comes of it (R46, R97, R99). -/
structure Unjudged (k : Slot) (s t : State) : Prop where
  slots : t.slots = s.slots
  chan : t.chan = s.chan
  acct : t.acct = s.acct
  log : t.log = s.log
  alert : t.alert = s.alert
  unit : t.compare k = { s.compare k with collecting := (t.compare k).collecting, closing := (t.compare k).closing }
  collecting : (t.compare k).collecting.isSome = (s.compare k).collecting.isSome
  closing : (s.compare k).closing = none → (t.compare k).closing = none
  waits : ClosingWaits k t

theorem Unjudged.refl {k : Slot} {s : State} (h : ClosingWaits k s) : Unjudged k s s :=
  ⟨rfl, rfl, rfl, rfl, rfl, rfl, rfl, id, h⟩

theorem Unjudged.trans {k : Slot} {s t u : State} (h : Unjudged k s t) (g : Unjudged k t u) : Unjudged k s u where
  slots := g.slots.trans h.slots
  chan := g.chan.trans h.chan
  acct := g.acct.trans h.acct
  log := g.log.trans h.log
  alert := g.alert.trans h.alert
  unit := by rw [g.unit, h.unit]
  collecting := g.collecting.trans h.collecting
  closing := fun e => g.closing (h.closing e)
  waits := g.waits

theorem Unjudged.scanner {k : Slot} (x : Scanner) {s : State} (h : ClosingWaits k s) : Unjudged k s (s.setScanner k x) :=
  ⟨rfl, rfl, rfl, rfl, rfl, rfl, rfl, id, h⟩

theorem Table.mem_toList {n : Nat} {α : Type} (t : Table n α) (x : α) : x ∈ t.toList ↔ ∃ i, t.get i = x := by
  rw [List.mem_iff_getElem]
  constructor
  · rintro ⟨i, hi, e⟩
    exact ⟨⟨i, t.length_eq ▸ hi⟩, e⟩
  · rintro ⟨i, e⟩
    exact ⟨i.val, t.length_eq.symm ▸ i.isLt, e⟩

theorem finished_iff (r : ProfileRecord) : r.finished = true ↔ ∀ j : Fin 8, r.points.get j ≠ .awaited := by
  simp [ProfileRecord.finished, Table.mem_toList]

theorem anyLost_iff (r : ProfileRecord) : r.anyLost = true ↔ ∃ j : Fin 8, r.points.get j = .lost := by
  simp [ProfileRecord.anyLost, Table.mem_toList]

theorem lose_anyLost (p : Fin 8) (r : ProfileRecord) : (r.lose p).anyLost = true :=
  (anyLost_iff _).mpr ⟨p, Table.get_set_same _ _ _⟩

theorem profileVerdict_of_lost (k : Slot) {r : ProfileRecord} (h : r.anyLost = true) (s : State) :
    profileVerdict k r s = s := by
  rw [profileVerdict, if_pos h]

theorem finishClosing_none {k : Slot} {s : State} (h : (s.compare k).closing = none) : finishClosing k s = s := by
  simp only [finishClosing, h]

theorem finishClosing_some {k : Slot} {r : ProfileRecord} {s : State} (h : (s.compare k).closing = some r) :
    finishClosing k s = if r.finished then profileVerdict k r (s.setCompare k { s.compare k with closing := none })
      else s := by
  simp only [finishClosing, h]

theorem closingWaits_of_none {k : Slot} {s : State} (h : (s.compare k).closing = none) : ClosingWaits k s := by
  simp only [ClosingWaits, h]

theorem closingWaits_of_some {k : Slot} {r : ProfileRecord} {s : State} (h : (s.compare k).closing = some r) :
    ClosingWaits k s ↔ r.finished = false := by
  simp only [ClosingWaits, h]

/-- The compare unit with other profile records. -/
theorem Unjudged.records {k : Slot} {s : State} {a b : Option ProfileRecord}
    (ha : a.isSome = (s.compare k).collecting.isSome) (hb : (s.compare k).closing = none → b = none)
    (hw : ∀ r, b = some r → r.finished = false) :
    Unjudged k s (s.setCompare k { s.compare k with collecting := a, closing := b }) := by
  refine ⟨rfl, rfl, rfl, rfl, rfl, by simp, by simpa using ha, fun e => by simpa using hb e, ?_⟩
  cases b with
  | none => exact closingWaits_of_none (by simp)
  | some r => exact (closingWaits_of_some (by simp)).mpr (hw r rfl)

/-- R97, R99, R100: a point LOST of a closing record that waits ends in no verdict: the record waits on, or is discarded. -/
theorem deliver_lose_unjudged {k : Slot} (n : Nat) (p : Fin 8) {s : State} (h : ClosingWaits k s) :
    Unjudged k s (deliver k n (ProfileRecord.lose p) s) := by
  have hcollecting {o : Option ProfileRecord} (f : ProfileRecord → ProfileRecord) : (o.map f).isSome = o.isSome := by simp
  unfold deliver
  cases hc : (s.compare k).closing with
  | none =>
    rw [finishClosing_none (by simp [Compare.onBurst, hc])]
    refine .records (hcollecting _) (fun _ => ?_) fun r e => ?_
    · rw [hc]; rfl
    · rw [hc] at e; cases e
  | some r =>
    have hr := (closingWaits_of_some hc).mp h
    rw [finishClosing_some (r := if r.burst = n then r.lose p else r) (by simp [Compare.onBurst, hc])]
    by_cases hn : r.burst = n
    · rw [if_pos hn]
      split
      · rw [profileVerdict_of_lost k (lose_anyLost p r), State.setCompare_setCompare, State.setCompare_compare_same]
        exact .records (hcollecting _) (fun _ => rfl) fun _ e => by cases e
      · next hf =>
        refine .records (hcollecting _) (fun e => by rw [hc] at e; cases e) fun r' e => ?_
        simp only [hc, Option.map_some, hn, if_true, Option.some_inj] at e
        rw [← e]
        simpa using hf
    · rw [if_neg hn, if_neg (by rw [hr]; decide)]
      refine .records (hcollecting _) (fun e => by rw [hc] at e; cases e) fun r' e => ?_
      simp only [hc, Option.map_some, hn, if_false, Option.some_inj] at e
      rw [← e, hr]

/-- R46, R99: a capture request takes no profile verdict where a closing record waits for a point. -/
theorem requestCapture_unjudged {k : Slot} (p : Fin 8) (n : Nat) {s : State} (h : ClosingWaits k s) :
    Unjudged k s (requestCapture k p n s) := by
  have hlist (l : List CaptureEntry) (u : State) (hu : Unjudged k s u) :
      Unjudged k s (l.foldl (fun s e => deliver k e.burst (ProfileRecord.lose e.point) s) u) := by
    induction l generalizing u with
    | nil => exact hu
    | cons e l ih => exact ih _ (hu.trans (deliver_lose_unjudged _ _ hu.waits))
  unfold requestCapture
  split
  · split
    · exact (Unjudged.scanner _ h).trans (deliver_lose_unjudged _ _ h)
    · exact hlist _ _ (.scanner _ h)
  · exact hlist _ _ (.scanner _ h)

/-! ## The state a burst starts in -/

/-- R79: the state a burst of a record starts in, before a capture that its first vector asks for. -/
def begun (k : Slot) (b : BurstConfig) (rec : PatternRecord) (s : State) : State :=
  let v := s.store.read rec.start
  let n := (s.channel k).burst + 1
  (s.setChannel k
    { s.channel k with state := .burst, active := some b, pending := none, burst := n, rateStep := (s.throttle k).step
                       play := some ⟨rec, 1, rec.start, v⟩
                       pulses := (s.channel k).pulses.map fun q => q ++ [⟨v.expect, v.strobe⟩] }).setCompare k
    ((s.compare k).begin ((s.slot k).sockets.map fun p => decide (p.power = .on)) (s.slot k).active.phases n rec)

/-- R81: the first vector of a burst is the capture point 0 of a record with a profile. -/
theorem capturePoint_first (rec : PatternRecord) :
    capturePoint rec 1 rec.start = if rec.profile.isSome then some 0 else none := by
  cases h : rec.profile.isSome <;> simp [capturePoint, h]

theorem adopt_eq (c : Channel) : c.adopt = { c with active := c.adopt.active, pending := none } := by
  obtain ⟨_, _, p, _, _, _, _, _⟩ := c
  cases p <;> rfl

theorem startBurst_eq {k : Slot} {b : BurstConfig} {rec : PatternRecord} {s : State}
    (hb : (s.channel k).adopt.active = some b) (hr : s.store.records.get b.pattern = some rec) :
    startBurst k s = if rec.profile.isSome then requestCapture k 0 ((s.channel k).burst + 1) (begun k b rec s)
      else begun k b rec s := by
  have hrec : s.recordOf (s.channel k).adopt.active = some rec := by rw [hb]; exact hr
  have hadopt := adopt_eq (s.channel k)
  rw [hb] at hadopt
  have hdrive : startBurst k s = match capturePoint rec 1 rec.start with
      | some point => requestCapture k point ((s.channel k).burst + 1) (begun k b rec s)
      | none => begun k b rec s := by
    simp only [startBurst, hrec]
    rw [hadopt]
    cases k <;> rfl
  rw [hdrive, capturePoint_first]
  cases rec.profile.isSome <;> rfl

theorem begun_started (k : Slot) (b : BurstConfig) (rec : PatternRecord) (s : State) :
    BurstStarted k b rec s (begun k b rec s) := by
  refine ⟨?_, ?_, ?_, ?_, ?_, fun i => ?_, fun i => ?_, ?_, ?_⟩
  case refine_7 =>
    simp only [begun, State.setCompare_compare_same]
    exact Table.get_map _ _ _
  all_goals simp [begun, Compare.begin, openRecord]

/-- R46, R99: a burst starts from `begun`, with the deliveries of its first capture request. -/
theorem startBurst_profiled {k : Slot} {b : BurstConfig} {rec : PatternRecord} {s : State}
    (hb : (s.channel k).adopt.active = some b) (hr : s.store.records.get b.pattern = some rec) :
    Profiled k (begun k b rec s) (startBurst k s) := by
  rw [startBurst_eq hb hr]
  split
  · exact requestCapture_profiled _ _ _ _
  · exact .refl _ _

theorem startBurst_unjudged {k : Slot} {b : BurstConfig} {rec : PatternRecord} {s : State}
    (hb : (s.channel k).adopt.active = some b) (hr : s.store.records.get b.pattern = some rec) (hw : ClosingWaits k s) :
    Unjudged k (begun k b rec s) (startBurst k s)
      ∧ (rec.profile = none → ((startBurst k s).compare k).closing = (s.compare k).closing) := by
  have hclosing : ((begun k b rec s).compare k).closing = (s.compare k).closing := by simp [begun, Compare.begin]
  have hbegun : ClosingWaits k (begun k b rec s) := (closingWaits_congr hclosing).mpr hw
  rw [startBurst_eq hb hr]
  split
  · next h => exact ⟨requestCapture_unjudged _ _ hbegun, fun e => by rw [e] at h; cases h⟩
  · exact ⟨.refl hbegun, fun _ => hclosing⟩

/-- R79: a start under a waiting closing record shows the sockets, the phase order and the rate step of the state before
it. -/
theorem Unjudged.started {k : Slot} {b : BurstConfig} {rec : PatternRecord} {s u t : State} (h : Unjudged k u t)
    (hs : BurstStarted k b rec s u) : BurstStarted k b rec s t := by
  obtain ⟨hstate, hactive, hpending, hplay, hrate, hmismatch, hmember, hphases, hcollecting⟩ := hs
  have hch : t.channel k = u.channel k := congrArg (·.get k) h.chan
  refine ⟨?_, ?_, ?_, ?_, ?_, fun i => ?_, fun i => ?_, ?_, h.collecting.trans hcollecting⟩
  · rw [hch, hstate]
  · rw [hch, hactive]
  · rw [hch, hpending]
  · rw [hch, hplay]
  · rw [hch, hrate]
  · rw [h.unit]
    exact hmismatch i
  · rw [h.unit]
    exact hmember i
  · rw [h.unit]
    exact hphases

/-- R79: a started burst, seen from a state with the same store, rate step, sockets and active copy. -/
theorem burstStarted_congr {k : Slot} {b : BurstConfig} {rec : PatternRecord} {s u t : State}
    (h : BurstStarted k b rec s t) (hstore : u.store = s.store) (hthrottle : u.throttle k = s.throttle k)
    (hsocket : ∀ i, u.socket k i = s.socket k i) (hactive : (u.slot k).active = (s.slot k).active) :
    BurstStarted k b rec u t := by
  unfold BurstStarted at h ⊢
  simp only [hstore, hthrottle, hsocket, hactive]
  exact h

/-- R79, R91: after a start the members are the ON sockets, also where a verdict of its first capture request has opened a
switch. -/
theorem startBurst_started {k : Slot} {b : BurstConfig} {rec : PatternRecord} {s : State}
    (hb : (s.channel k).adopt.active = some b) (hr : s.store.records.get b.pattern = some rec) :
    BurstStarted k b rec (startBurst k s) (startBurst k s) := by
  have h := startBurst_profiled hb hr
  have hch : (startBurst k s).channel k = (begun k b rec s).channel k := congrArg (·.get k) h.chan
  have hbegun : BurstStarted k b rec (begun k b rec s) (begun k b rec s) :=
    burstStarted_congr (begun_started k b rec s) rfl rfl (fun _ => rfl) rfl
  obtain ⟨hstate, hactive, hpending, hplay, hrate, hmismatch, hmember, hphases, hcollecting⟩ := hbegun
  refine ⟨?_, ?_, ?_, ?_, ?_, fun i => h.mismatch i (hmismatch i), fun i => h.member i (hmember i), ?_,
    h.collecting.trans hcollecting⟩
  · rw [hch, hstate]
  · rw [hch, hactive]
  · rw [hch, hpending]
  · rw [hch, hplay, h.store]
  · rw [hch, hrate, h.throttle]
  · rw [h.phases, hphases, h.active]

/-- R69: a start adds one pulse to each clock group's queue. -/
theorem startBurst_pulses {k : Slot} {b : BurstConfig} {rec : PatternRecord} {s : State}
    (hb : (s.channel k).adopt.active = some b) (hr : s.store.records.get b.pattern = some rec) (g : Fin 4) :
    (((startBurst k s).channel k).pulses.get g).length = ((s.channel k).pulses.get g).length + 1 := by
  have hch : (startBurst k s).channel k = (begun k b rec s).channel k :=
    congrArg (·.get k) (startBurst_profiled hb hr).chan
  rw [hch]
  simp [begun]

/-! ## BURST-TRIGGER -/

theorem adopt_pending {c : Channel} {b : BurstConfig} (h : c.pending = some b) : c.adopt.active = some b := by
  rw [Channel.adopt, h]

theorem adopt_none {c : Channel} (h : c.pending = none) : c.adopt.active = c.active := by
  rw [Channel.adopt, h]

/-- R77: a trigger in WAIT takes the pending configuration where its record is defined, and otherwise the active one. -/
theorem dropUndefined_adopt {k : Slot} {b : BurstConfig} {rec : PatternRecord} {s : State}
    (hb : (s.channel k).pending = some b
      ∨ ((s.channel k).active = some b ∧ ((s.channel k).pending = none
        ∨ ∃ c, (s.channel k).pending = some c ∧ s.store.records.get c.pattern = none)))
    (hr : s.store.records.get b.pattern = some rec) : ((dropUndefined k s).channel k).adopt.active = some b := by
  unfold dropUndefined
  split
  · next hn =>
    rw [State.setChannel_channel_same, adopt_none rfl]
    obtain hp | ⟨ha, _⟩ := hb
    · rw [hp, State.recordOf, hr] at hn
      cases hn
    · exact ha
  · next hn =>
    obtain hp | ⟨_, hp | ⟨c, hp, hc⟩⟩ := hb
    · exact adopt_pending hp
    · exact absurd (by rw [hp]; rfl) hn
    · exact absurd (by rw [hp]; exact hc) hn

/-- R77: what is dropped is a configuration alone. -/
theorem dropUndefined_kept (k : Slot) (s : State) : ∃ c, dropUndefined k s = s.setChannel k c := by
  unfold dropUndefined
  split
  · exact ⟨_, rfl⟩
  · exact ⟨s.channel k, (State.setChannel_self s k).symm⟩

/-- R79: a start changes the slot's scanner, channel and compare unit alone, where no profile verdict comes of it. -/
theorem startBurst_burstFrame {k : Slot} {b : BurstConfig} {rec : PatternRecord} {s : State}
    (hb : (s.channel k).adopt.active = some b) (hr : s.store.records.get b.pattern = some rec) (hw : ClosingWaits k s) :
    (startBurst k s).slots = s.slots ∧ RecordsKept s (startBurst k s) := by
  have h := (startBurst_unjudged hb hr hw).1
  exact ⟨h.slots, h.log, h.acct, h.alert⟩

/-- R88: the abandonment of a burst in flight keeps the wait of a closing record, and empties the pulse queues. -/
theorem abandonBurst_restart {k : Slot} {s : State} (hs : (s.channel k).state = .burst) :
    (abandonBurst k false s).channel k
        = { s.channel k with state := .idle, play := none, pulses := Table.fill 4 [] }
      ∧ (ClosingWaits k s → ClosingWaits k (abandonBurst k false s))
      ∧ ((abandonBurst k false s).slot k).abandoned = satInc 255 (s.slot k).abandoned
      ∧ ((abandonBurst k false s).slot k).burstDone = (s.slot k).burstDone
      ∧ ((s.slot k).applyDeferred = false → abandonBurst k false s = discardBurst k s)
      ∧ ((s.slot k).applyDeferred = true → abandonBurst k false s = takeApply k (discardBurst k s)) := by
  obtain ⟨hn, _⟩ | ⟨_, e⟩ := abandonBurst_cases k false s
  · exact absurd hs hn
  have hd : ((discardBurst k s).slot k).applyDeferred = (s.slot k).applyDeferred := by simp
  rw [e]
  refine ⟨by simp, fun hw => ?_, by simp, by simp, fun hf => ?_, fun ht => ?_⟩
  · rw [(endDeferred_carried k false (discardBurst k s)).marks.waits]
    exact (closingWaits_congr (by simp [Compare.clearBurst])).mpr hw
  · rw [endDeferred, hd, hf]
    rfl
  · rw [endDeferred, hd, ht]
    rfl

/-- R86, R88: a TRIGGERED burst in flight is abandoned and started anew. -/
theorem restart_started {k : Slot} {b : BurstConfig} {rec : PatternRecord} {s : State}
    (hs : (s.channel k).state = .burst) (hw : ClosingWaits k s)
    (hb : (s.channel k).adopt.active = some b) (hr : s.store.records.get b.pattern = some rec) :
    let t := startBurst k (abandonBurst k false s)
    BurstStarted k b rec t t ∧ SlotFrame k s t ∧ t.zone = s.zone ∧ (∀ g, ((t.channel k).pulses.get g).length = 1)
      ∧ (t.slot k).abandoned = satInc 255 (s.slot k).abandoned ∧ (t.slot k).burstDone = (s.slot k).burstDone
      ∧ ((s.slot k).applyDeferred = false → BurstStarted k b rec s t ∧ RecordsKept s t
          ∧ t.slot k = { s.slot k with abandoned := (t.slot k).abandoned })
      ∧ ((s.slot k).applyDeferred = true → (t.slot k).active = (s.slot k).staged
          ∧ (t.slot k).staged = (s.slot k).staged ∧ (t.slot k).applyDone = true ∧ (t.slot k).applyDeferred = false
          ∧ (t.slot k).board = (s.slot k).board) := by
  obtain ⟨hch, hwait, habandoned, hdone, hplain, hdeferred⟩ := abandonBurst_restart hs
  have hadopt : ((abandonBurst k false s).channel k).adopt.active = some b := by
    rw [← hb, hch]
    simp only [Channel.adopt]
    split <;> rfl
  have hrec : (abandonBurst k false s).store.records.get b.pattern = some rec := by simpa using hr
  refine ⟨startBurst_started hadopt hrec, (abandonBurst_slotFrame k false s).trans (startBurst_slotFrame k _), by simp,
    fun g => ?_, by simpa using habandoned, by simpa using hdone, fun hf => ?_, fun ht => ?_⟩
  · rw [startBurst_pulses hadopt hrec, hch]
    simp
  · obtain ⟨hslots, hlog, hacct, halert⟩ := startBurst_burstFrame hadopt hrec (hwait hw)
    have hstart := (startBurst_unjudged hadopt hrec (hwait hw)).1.started (begun_started k b rec _)
    have hslot : (startBurst k (abandonBurst k false s)).slot k = (abandonBurst k false s).slot k :=
      congrArg (·.get k) hslots
    rw [hplain hf] at hslot hlog hacct halert hstart ⊢
    refine ⟨burstStarted_congr hstart (by simp) (by simp) (fun i => by simp) (by simp), ⟨?_, ?_, ?_⟩, ?_⟩
    · simpa using hlog
    · simpa using hacct
    · simpa using halert
    · rw [hslot]
      simp
  · rw [hdeferred ht]
    simp [takeApply_slot]

section Served
variable {k : Slot} {s : State}

theorem serveBurstTrigger_empty (he : (s.slot k).board = .empty) : serveBurstTrigger k.code s = answer s .noBoard := by
  simp [serveBurstTrigger, he]

theorem serveBurstTrigger_safe (he : (s.slot k).board ≠ .empty) (hz : s.zone.state = .safe) :
    serveBurstTrigger k.code s = answer s .refusedSafe := by
  simp [serveBurstTrigger, he, hz]

theorem serveBurstTrigger_wait (he : (s.slot k).board ≠ .empty) (hz : s.zone.state ≠ .safe)
    (hs : (s.channel k).state = .wait) :
    serveBurstTrigger k.code s = answer (startBurst k (dropUndefined k s)) .ok := by
  simp [serveBurstTrigger, he, hz, hs]

theorem serveBurstTrigger_burst {a : BurstConfig} (he : (s.slot k).board ≠ .empty) (hz : s.zone.state ≠ .safe)
    (hs : (s.channel k).state = .burst) (ha : (s.channel k).active = some a) :
    serveBurstTrigger k.code s = if a.mode = .triggered then answer (startBurst k (abandonBurst k false s)) .ok
      else answer s .refusedState := by
  simp [serveBurstTrigger, he, hz, hs, ha]

theorem serveBurstTrigger_refused (he : (s.slot k).board ≠ .empty) (hz : s.zone.state ≠ .safe)
    (hs : (s.channel k).state = .idle ∨ (s.channel k).state = .gap ∨ (s.channel k).state = .done) :
    serveBurstTrigger k.code s = answer s .refusedState := by
  obtain hs | hs | hs := hs <;> simp [serveBurstTrigger, he, hz, hs]

end Served

/-- Settles O23: a start from WAIT is `startBurst` under the configuration that `dropUndefined_adopt` names, a restart the
same start after the abandonment. -/
theorem burstTriggerStartsOrRestarts : Obligations.BurstTriggerStartsOrRestarts := by
  intro s k h c ch trigger
  have hrefuse {r : Status} (hs : serveBurstTrigger k.code (received s) = answer (received s) r) :
      trigger = .next (replied 0x25 [BitVec.ofNat 8 r.code] s) :=
    congrArg Host.Outcome.next (takeRequest_refused h hs)
  have hserve {u : State} (hs : serveBurstTrigger k.code (received s) = answer u .ok)
      (hl : u.link = (received s).link) : trigger = .next (replied 0x25 [0] u) := by
    have e : (serveBurstTrigger k.code (received s)).state.link = (received s).link := by rw [hs]; exact hl
    have ht := takeRequest_next 0x25 (serveBurstTrigger k.code) s h e
    rw [hs] at ht
    exact congrArg Host.Outcome.next ht
  refine ⟨fun he => hrefuse (r := .noBoard) (serveBurstTrigger_empty he),
    fun he hz => hrefuse (r := .refusedSafe) (serveBurstTrigger_safe he hz),
    congrArg Host.Outcome.next (takeRequest_refused (r := .refusedRange) h (withSlot_four _ _)),
    fun he hz => ⟨fun hs => hrefuse (r := .refusedState) (serveBurstTrigger_refused he hz hs),
      fun b rec hs hw hb hr => ?_, fun a b rec hs hw ha hm hb hr => ?_, fun a hs ha hm =>
      hrefuse (r := .refusedState) ((serveBurstTrigger_burst (s := received s) he hz hs ha).trans (if_neg hm))⟩⟩
  · have hadopt := dropUndefined_adopt (s := received s) hb hr
    obtain ⟨x, hx⟩ := dropUndefined_kept k (received s)
    have hserved := serveBurstTrigger_wait (s := received s) he hz hs
    rw [hx] at hadopt hserved
    obtain ⟨hslots, hlog, hacct, halert⟩ := startBurst_burstFrame (s := (received s).setChannel k x) hadopt hr hw
    refine ⟨_, hserve hserved (by simp), ?_, ?_, by simp, fun _ => ⟨congrArg (·.get k) hslots, hacct, hlog, halert⟩⟩
    · exact burstStarted_congr ((startBurst_unjudged hadopt hr hw).1.started (begun_started k b rec _)) rfl rfl
        (fun _ => rfl) rfl
    · exact (received_slotFrame k s).trans ((State.setChannel_slotFrame _ _ _).trans (startBurst_slotFrame _ _))
  · have hadopt : (s.channel k).adopt.active = some b := by
      obtain hp | ⟨hp, e⟩ := hb
      · exact adopt_pending hp
      · rw [adopt_none hp, e]
        exact ha
    have hserved := serveBurstTrigger_burst (s := received s) he hz hs ha
    rw [if_pos hm] at hserved
    obtain ⟨h1, h2, h3, h4, h5, h6, h7, h8⟩ := restart_started (s := received s) hs hw hadopt hr
    refine ⟨_, hserve hserved (by simp), h1, (received_slotFrame k s).trans h2, h3, h4, h5, h6, fun hf => ?_, h8⟩
    obtain ⟨hstart, hkept, hslot⟩ := h7 hf
    exact ⟨burstStarted_congr hstart rfl rfl (fun _ => rfl) rfl, hkept, hslot⟩

end Sys2Proof.Machine
end


section
/-!
PROOFS. Burst ends (R82 to R84, R92, R98 to R102).
-/

namespace Sys2Proof.Machine

open Safety

/-! ## The functional verdicts -/

/-- R92: a member of the verdict set whose count exceeds the tolerance. -/
def Fails (k : Slot) (n : Nat) (i : Socket) (s : State) : Prop :=
  (s.compare k).member.get i = true ∧ n < (s.compare k).mismatch.get i

/-- R92: the functional verdicts of all sockets. -/
def judged (k : Slot) (n : Nat) (p : Fin 32) (s : State) : State :=
  forSockets Socket.all (functionalVerdict k (s.compare k).member n p) s

theorem functionalVerdict_cases (k : Slot) (m : Table 32 Bool) (n : Nat) (p : Fin 32) (i : Socket) (s : State) :
    (¬ (m.get i = true ∧ n < (s.compare k).mismatch.get i) ∧ functionalVerdict k m n p i s = s)
      ∨ ((m.get i = true ∧ n < (s.compare k).mismatch.get i)
        ∧ ∃ d, functionalVerdict k m n p i s = reportFailure k i .functional d s) := by
  unfold functionalVerdict
  dsimp only
  split
  · next h => exact .inr ⟨h, _, rfl⟩
  · next h => exact .inl ⟨h, rfl⟩

theorem functionalVerdict_view (k : Slot) (m : Table 32 Bool) (n : Nat) (p : Fin 32) (i j : Socket) (s : State)
    (h : j ≠ i) : socketView k j (functionalVerdict k m n p i s) = socketView k j s := by
  obtain ⟨_, e⟩ | ⟨_, d, e⟩ := functionalVerdict_cases k m n p i s <;> rw [e]
  exact reportFailure_view k i j _ d s h

/-- R92, R139: the record of a FUNCTIONAL report. -/
theorem reportFailure_functional (k : Slot) (i : Socket) (d : List Byte) (s : State) :
    let r := (reportFailure k i .functional d s).record k i
    r.verdict = .failed ∧ r.loggedFunctional = true ∧ r.failing = satInc 65535 (s.record k i).failing
      ∧ r.reports = (s.record k i).reports := by
  refine ⟨reportFailure_failed k i _ d s, ?_⟩
  rw [reportFailure_record_same]
  dsimp only
  split <;> exact ⟨rfl, rfl, rfl⟩

/-- R92: the record of each socket after the functional verdicts. -/
theorem judged_record (k : Slot) (n : Nat) (p : Fin 32) (s : State) (i : Socket) :
    let r := (judged k n p s).record k i
    (Fails k n i s → r.verdict = .failed ∧ r.loggedFunctional = true
        ∧ r.failing = satInc 65535 (s.record k i).failing)
      ∧ (¬ Fails k n i s → r = s.record k i) ∧ r.reports = (s.record k i).reports := by
  obtain ⟨_, hat⟩ := forSockets_at (fun i => socketView k i) (fun _ => True)
    (functionalVerdict k (s.compare k).member n p) (fun i j u h => functionalVerdict_view k _ n p i j u h)
    (fun _ _ _ => trivial) Socket.all (List.nodup_finRange 32) s trivial i
  obtain ⟨u, _, hu, ht, _⟩ := hat (Socket.mem_all i)
  simp only [socketView, Prod.mk.injEq] at hu ht
  obtain ⟨_, hrec, _, hcount⟩ := hu
  obtain ⟨_, htrec, _, _⟩ := ht
  dsimp only
  rw [judged, htrec, ← hrec]
  obtain ⟨hn, e⟩ | ⟨hf, d, e⟩ := functionalVerdict_cases k (s.compare k).member n p i u <;> rw [e]
  · rw [hcount] at hn
    exact ⟨fun h => absurd h hn, fun _ => rfl, rfl⟩
  · rw [hcount] at hf
    obtain ⟨h1, h2, h3, h4⟩ := reportFailure_functional k i d u
    exact ⟨fun _ => ⟨h1, h2, h3⟩, fun h => absurd hf h, h4⟩

theorem judged_unmarked (k : Slot) (n : Nat) (p : Fin 32) (s : State) : Unmarked k s (judged k n p s) := by
  refine forSockets_invariant (Unmarked k s) _ (fun i u hu => ?_) _ _ (.of_eq rfl)
  obtain ⟨_, e⟩ | ⟨_, d, e⟩ := functionalVerdict_cases k (s.compare k).member n p i u <;> rw [e]
  · exact hu
  · exact hu.trans (reportFailure_unmarked k i _ d u)

theorem judged_of_none {k : Slot} {n : Nat} {p : Fin 32} {s : State} (h : ∀ i, ¬ Fails k n i s) : judged k n p s = s := by
  refine forSockets_invariant (· = s) _ (fun i u hu => ?_) _ _ rfl
  rw [hu]
  obtain ⟨_, e⟩ | ⟨hf, _, _⟩ := functionalVerdict_cases k (s.compare k).member n p i s
  · exact e
  · exact absurd hf (h i)

/-! ## The profile record of a completed burst -/

/-- R98: no record collects, and another one, or none, is closing. -/
def closes (k : Slot) (o : Option ProfileRecord) (s : State) : State :=
  s.setCompare k { s.compare k with collecting := none, closing := o }

/-- R98: the closing record of a burst with the members `m`. -/
def closingRecord (k : Slot) (m : Table 32 Bool) (r : ProfileRecord) (s : State) : ProfileRecord :=
  { r with members := m, strikeLimit := some (s.slot k).active.devLimit }

theorem completeRecord_discarded {k : Slot} {n : Nat} {m : Table 32 Bool} {s : State}
    (h : (s.compare k).collecting = none ∨ n < 8) :
    completeRecord k n m s = closes k (s.compare k).closing s := by
  unfold completeRecord
  cases hc : (s.compare k).collecting with
  | none =>
    have e : s.compare k = { s.compare k with collecting := none } := by rw [← hc]
    simp only [closes]
    rw [← e, State.setCompare_self]
  | some r =>
    rw [hc] at h
    obtain h | h := h
    · cases h
    · simp only [if_pos h]
      rfl

theorem completeRecord_closes {k : Slot} {n : Nat} {m : Table 32 Bool} {r : ProfileRecord} {s : State}
    (hc : (s.compare k).collecting = some r) (hn : 8 ≤ n) :
    completeRecord k n m s = if r.finished then profileVerdict k (closingRecord k m r s) (closes k none s)
      else closes k (some (closingRecord k m r s)) s := by
  unfold completeRecord
  rw [hc]
  simp only [if_neg (Nat.not_lt.mpr hn)]
  rw [finishClosing_some (r := closingRecord k m r s) (by simp [closingRecord])]
  have hf : (closingRecord k m r s).finished = r.finished := rfl
  rw [hf]
  simp [closes, closingRecord]

/-- R98: a burst's record is discarded, or closes, and may take its verdict at once. -/
theorem completeRecord_profiled (k : Slot) (n : Nat) (m : Table 32 Bool) (s : State) :
    ∃ o, Profiled k (closes k o s) (completeRecord k n m s) := by
  by_cases h : (s.compare k).collecting = none ∨ n < 8
  · rw [completeRecord_discarded h]
    exact ⟨_, .refl _ _⟩
  · rw [not_or, Nat.not_lt] at h
    obtain ⟨r, hr⟩ := Option.ne_none_iff_exists'.mp h.1
    rw [completeRecord_closes hr h.2]
    split
    · exact ⟨_, profileVerdict_profiled _ _ _⟩
    · exact ⟨_, .refl _ _⟩

/-! ## The profile verdict of a socket -/

theorem absDiff_eq (a b : Nat) : absDiff a b = ((a : Int) - b).natAbs := by
  unfold absDiff
  omega

/-- R100, R101: the ratio that a socket is judged by. -/
theorem deviationRatio_eq (r : ProfileRecord) (i : Socket) (smp : Table 8 Nat) :
    deviationRatio (halfOne smp r.codes (r.phases.get (clockGroup i)) + halfTwo smp r.codes (r.phases.get (clockGroup i)))
      r.codes.toList.sum = profileRatio r i smp := by
  have hg : clockGroup i = ⟨i.val / 8, by have := i.isLt; omega⟩ := by
    apply Fin.ext
    have := i.isLt
    simp only [clockGroup, Fin.ofNat]
    omega
  have hd (j : Fin 8) : absDiff (smp.get j) (rotated r.codes (r.phases.get (clockGroup i)) j) = profileDiff r i smp j := by
    rw [absDiff_eq, hg]
    rfl
  simp only [halfOne, halfTwo, sumDiff, hd, List.map_cons, List.map_nil, List.sum_cons, List.sum_nil, deviationRatio,
    profileRatio, profileH1, profileH2, Nat.add_zero, Nat.add_assoc]

theorem codesOf_some {r : ProfileRecord} {i : Socket} {smp : Table 8 Nat}
    (h : ∀ j : Fin 8, (r.samples.get i).get j = some (smp.get j)) : r.codesOf i = some smp := by
  have hall : (r.samples.get i).toList.all Option.isSome = true := by
    simp [Table.mem_toList, h]
  rw [ProfileRecord.codesOf, if_pos hall, Option.some_inj]
  exact Table.ext_get fun j => by simp [h]

theorem codesOf_none {r : ProfileRecord} {i : Socket} (h : ∃ j : Fin 8, (r.samples.get i).get j = none) :
    r.codesOf i = none := by
  rw [ProfileRecord.codesOf, if_neg]
  simpa [Table.mem_toList] using h

/-- R102: a socket that is judged. -/
theorem judgeSocket_member {k : Slot} {r : ProfileRecord} {i : Socket} {smp : Table 8 Nat} (s : State)
    (hm : r.members.get i = true) (hs : ∀ j : Fin 8, (r.samples.get i).get j = some (smp.get j)) :
    let struck := satInc 15 ((s.compare k).devStrikes.get i)
    let u := s.setCompare k { s.compare k with devStrikes := (s.compare k).devStrikes.set i struck }
    (profileRatio r i smp ≤ r.limit → judgeSocket k r i s = s)
      ∧ (r.limit < profileRatio r i smp → struck < r.strikeLimit.getD 0 → judgeSocket k r i s = u)
      ∧ (r.limit < profileRatio r i smp → r.strikeLimit.getD 0 ≤ struck →
          ∃ d, judgeSocket k r i s = reportFailure k i .currentProfile d u) := by
  simp only [judgeSocket, hm, codesOf_some hs, deviationRatio_eq]
  refine ⟨fun h => if_neg (Nat.not_lt.mpr h), fun h hl => ?_, fun h hl => ?_⟩ <;> rw [if_pos h]
  · exact if_neg (Nat.not_le.mpr hl)
  · exact ⟨_, if_pos hl⟩

/-- R100: a socket that is not judged. -/
theorem judgeSocket_unjudged {k : Slot} {r : ProfileRecord} {i : Socket} (s : State)
    (h : r.members.get i = false ∨ ∃ j : Fin 8, (r.samples.get i).get j = none) : judgeSocket k r i s = s := by
  obtain h | h := h
  · simp only [judgeSocket, h]
  · cases hm : r.members.get i <;> simp only [judgeSocket, hm, codesOf_none h]

/-- R103, R139: what a profile verdict can change of a socket. -/
def verdictView (k : Slot) (i : Socket) (s : State) : Nat × AcctRecord :=
  ((s.compare k).devStrikes.get i, s.record k i)

theorem judgeSocket_view (k : Slot) (r : ProfileRecord) (i j : Socket) (s : State) (h : j ≠ i) :
    verdictView k j (judgeSocket k r i s) = verdictView k j s := by
  have hstruck (n : Nat) : verdictView k j
      (s.setCompare k { s.compare k with devStrikes := (s.compare k).devStrikes.set i n }) = verdictView k j s := by
    simp [verdictView, Table.get_set_ne _ _ h]
  unfold judgeSocket
  split
  · dsimp only
    split
    · split
      · rw [← hstruck (satInc 15 ((s.compare k).devStrikes.get i))]
        rw [verdictView, reportFailure_record_ne k i _ _ _ fun e => h e.2, (reportFailure_unmarked k i _ _ _).unit]
        rfl
      · exact hstruck _
    · rfl
  · rfl

theorem judgeSocket_closing (k : Slot) (r : ProfileRecord) (i : Socket) (s : State) :
    ((judgeSocket k r i s).compare k).closing = (s.compare k).closing := by
  unfold judgeSocket
  split
  · dsimp only
    split
    · split
      · rw [(reportFailure_unmarked k i _ _ _).unit]
        simp
      · simp
    · rfl
  · rfl

theorem profileVerdict_closing (k : Slot) (r : ProfileRecord) (s : State) :
    ((profileVerdict k r s).compare k).closing = (s.compare k).closing := by
  unfold profileVerdict
  split
  · rfl
  · exact forSockets_keeps (fun u => (u.compare k).closing) _ (judgeSocket_closing k r) _ _

theorem profileJudged_congr {k : Slot} {r : ProfileRecord} {n : Nat} {i : Socket} {s t u v : State}
    (h : ProfileJudged k r n i s t) (hs : (u.compare k).devStrikes.get i = (s.compare k).devStrikes.get i)
    (hsr : (u.record k i).reports = (s.record k i).reports)
    (ht : (v.compare k).devStrikes.get i = (t.compare k).devStrikes.get i)
    (htr : (v.record k i).reports = (t.record k i).reports)
    (hv : (t.record k i).verdict = .failed → (v.record k i).verdict = .failed) : ProfileJudged k r n i u v := by
  unfold ProfileJudged at h ⊢
  simp only [hs, hsr, ht, htr]
  obtain ⟨hjudged, hnot⟩ := h
  refine ⟨fun smp hm hsmp hlost => ?_, hnot⟩
  obtain ⟨h1, h2, h3⟩ := hjudged smp hm hsmp hlost
  refine ⟨h1, h2, fun hr hl => ?_⟩
  obtain ⟨g1, g2, g3⟩ := h3 hr hl
  exact ⟨g1, hv g2, g3⟩

/-- R102: the verdict that one socket's turn takes. -/
theorem judgeSocket_judged {k : Slot} {r : ProfileRecord} {n : Nat} (i : Socket) (s : State)
    (hn : r.strikeLimit = some n) (hl : ∀ j : Fin 8, r.points.get j ≠ .lost) :
    ProfileJudged k r n i s (judgeSocket k r i s) := by
  have hstruck : min 15 ((s.compare k).devStrikes.get i + 1) = satInc 15 ((s.compare k).devStrikes.get i) := by
    unfold satInc
    split <;> omega
  have hlimit : r.strikeLimit.getD 0 = n := by rw [hn]; rfl
  unfold ProfileJudged
  dsimp only
  rw [hstruck]
  refine ⟨fun smp hm hs _ => ?_, fun h => ?_⟩
  · obtain ⟨h1, h2, h3⟩ := judgeSocket_member (k := k) s hm hs
    rw [hlimit] at h2 h3
    refine ⟨fun hr => ?_, fun hr hb => ?_, fun hr hb => ?_⟩
    · rw [h1 hr]
      exact ⟨rfl, rfl⟩
    · rw [h2 hr hb]
      simp
    · obtain ⟨d, e⟩ := h3 hr hb
      rw [e]
      refine ⟨?_, reportFailure_failed _ _ _ _ _, ?_⟩
      · rw [(reportFailure_unmarked k i _ d _).unit]
        simp
      · rw [reportFailure_record_same]
        dsimp only
        split <;> simp [AcctRecord.markLogged, AcctRecord.countReport]
  · rw [judgeSocket_unjudged s (by
      obtain h | h | ⟨j, h⟩ := h
      · exact .inl h
      · exact .inr h
      · exact absurd h (hl j))]
    exact ⟨rfl, rfl⟩

/-- R100 to R102: the verdicts of a finished profile record. -/
theorem profileVerdict_judged {k : Slot} {r : ProfileRecord} {n : Nat} (i : Socket) (s : State)
    (hn : r.strikeLimit = some n) : ProfileJudged k r n i s (profileVerdict k r s) := by
  by_cases hl : ∃ j : Fin 8, r.points.get j = .lost
  · rw [profileVerdict_of_lost k ((anyLost_iff r).mpr hl)]
    obtain ⟨j, hj⟩ := hl
    exact ⟨fun _ _ _ h => absurd hj (h j), fun _ => ⟨rfl, rfl⟩⟩
  · rw [profileVerdict, if_neg (mt (anyLost_iff r).mp hl)]
    rw [not_exists] at hl
    obtain ⟨_, hat⟩ := forSockets_at (verdictView k) (fun _ => True) (judgeSocket k r)
      (fun i j u h => judgeSocket_view k r i j u h) (fun _ _ _ => trivial) Socket.all (List.nodup_finRange 32) s trivial i
    obtain ⟨u, _, hu, ht, _⟩ := hat (Socket.mem_all i)
    simp only [verdictView, Prod.mk.injEq] at hu ht
    exact profileJudged_congr (judgeSocket_judged i u hn hl) hu.1.symm (by rw [hu.2]) ht.1 (by rw [ht.2])
      fun h => by rw [ht.2]; exact h

/-! ## The state after a burst -/

theorem adopt_adopt (c : Channel) : c.adopt.adopt = c.adopt := by
  obtain ⟨_, _, p, _, _, _, _, _⟩ := c
  cases p <;> rfl

/-- R77: a burst-start point under a configuration that is not TRIGGERED and whose record is defined is a start. -/
theorem burstPoint_start {k : Slot} {n : BurstConfig} {s : State} (hn : (s.channel k).adopt.active = some n)
    (hm : n.mode ≠ .triggered) : burstPoint k s = startBurst k (s.setChannel k (s.channel k).adopt) := by
  simp only [burstPoint, hn, if_neg hm]

theorem burstPoint_triggered {k : Slot} {n : BurstConfig} {s : State} (hn : (s.channel k).adopt.active = some n)
    (hm : n.mode = .triggered) :
    burstPoint k s = s.setChannel k { s.channel k with state := .wait, active := some n, pending := none } := by
  simp only [burstPoint, hn, if_pos hm, State.setChannel_setChannel]
  rw [adopt_eq, hn]

theorem burstPoint_none {k : Slot} {s : State} (hn : (s.channel k).adopt.active = none) :
    burstPoint k s = s.setChannel k (s.channel k).adopt := by
  simp only [burstPoint, hn]

/-- R79: a start with an undefined record changes nothing. -/
theorem startBurst_undefined {k : Slot} {n : BurstConfig} {s : State} (hn : (s.channel k).adopt.active = some n)
    (hr : s.store.records.get n.pattern = none) : startBurst k s = s := by
  have hrec : s.recordOf (s.channel k).adopt.active = none := by rw [hn]; exact hr
  simp only [startBurst, hrec]

section Modes
variable {k : Slot} {b : BurstConfig} {s : State}

theorem afterBurst_periodic (h : b.mode = .periodic) : afterBurst k b s
    = s.setChannel k { s.channel k with state := .gap, play := none, gap := some b.gap } := by
  simp only [afterBurst, h]

theorem afterBurst_triggered (h : b.mode = .triggered) : afterBurst k b s
    = s.setChannel k { s.channel k with state := .wait, play := none } := by
  simp only [afterBurst, h]

theorem afterBurst_single (h : b.mode = .single) : afterBurst k b s
    = raiseSource .burst ((s.setChannel k { s.channel k with state := .done, play := none }).setSlot k
        { s.slot k with burstDone := true }) := by
  simp only [afterBurst, h]
  simp

theorem afterBurst_continuous (h : b.mode = .continuous) : afterBurst k b s
    = burstPoint k (s.setChannel k { s.channel k with state := .idle, play := none }) := by
  simp only [afterBurst, h]

/-- R82, step 3: after a burst the channel rests, SINGLE leaves its note, or the next burst starts. -/
theorem afterBurst_cases (k : Slot) (b : BurstConfig) (s : State) :
    (b.mode ≠ .single ∧ ∃ x, x.state ≠ .burst ∧ afterBurst k b s = s.setChannel k x)
      ∨ (b.mode = .single ∧ ∃ x, x.state ≠ .burst ∧ afterBurst k b s
          = raiseSource .burst ((s.setChannel k x).setSlot k { s.slot k with burstDone := true }))
      ∨ (b.mode ≠ .single ∧ ∃ n rec x, (Channel.adopt x).active = some n
          ∧ s.store.records.get n.pattern = some rec ∧ afterBurst k b s = startBurst k (s.setChannel k x)) := by
  cases hm : b.mode
  case periodic => exact .inl ⟨by decide, _, by simp, afterBurst_periodic hm⟩
  case triggered => exact .inl ⟨by decide, _, by simp, afterBurst_triggered hm⟩
  case single => exact .inr (.inl ⟨rfl, _, by simp, afterBurst_single hm⟩)
  case continuous =>
    rw [afterBurst_continuous hm]
    generalize hc : Channel.adopt { s.channel k with state := .idle, play := none } = c
    have hidle : c.state ≠ .burst := by
      rw [← hc, adopt_eq]
      simp
    have hch : ((s.setChannel k { s.channel k with state := .idle, play := none }).channel k).adopt = c := by
      rw [State.setChannel_channel_same, hc]
    cases hn : c.active with
    | none =>
      refine .inl ⟨by decide, c, hidle, ?_⟩
      rw [burstPoint_none (by rw [hch, hn]), hch, State.setChannel_setChannel]
    | some n =>
      by_cases ht : n.mode = .triggered
      · refine .inl ⟨by decide, { c with state := .wait }, by simp, ?_⟩
        rw [burstPoint_triggered (by rw [hch, hn]) ht, State.setChannel_setChannel, State.setChannel_channel_same, ← hn,
          ← hc]
        rw [adopt_eq]
      · have hcc : c.adopt.active = some n := by rw [← hc, adopt_adopt, hc, hn]
        have hstart := burstPoint_start (s := s.setChannel k { s.channel k with state := .idle, play := none })
          (by rw [hch, hn]) ht
        rw [hch, State.setChannel_setChannel] at hstart
        rw [hstart]
        cases hr : s.store.records.get n.pattern with
        | none =>
          refine .inl ⟨by decide, c, hidle, ?_⟩
          rw [startBurst_undefined (n := n) (by rw [State.setChannel_channel_same]; exact hcc) (by simpa using hr)]
        | some rec => exact .inr (.inr ⟨by decide, n, rec, c, hcc, hr, rfl⟩)

/-- R82: what the state after a burst keeps, also where the next burst's first capture request ends in a verdict. -/
structure Ended (k : Slot) (s t : State) : Prop where
  record : ∀ i, (s.record k i).Keeps (t.record k i)
  compare : (t.channel k).state ≠ .burst → t.compare k = s.compare k
  board : (t.slot k).board = (s.slot k).board
  active : (t.slot k).active = (s.slot k).active
  staged : (t.slot k).staged = (s.slot k).staged
  done : (t.slot k).applyDone = (s.slot k).applyDone
  deferred : (t.slot k).applyDeferred = (s.slot k).applyDeferred

theorem afterBurst_ended (k : Slot) (b : BurstConfig) (s : State) :
    Ended k s (afterBurst k b s) ∧ (b.mode ≠ .single → ((afterBurst k b s).slot k).burstDone = (s.slot k).burstDone) := by
  obtain ⟨_, x, _, e⟩ | ⟨hm, x, _, e⟩ | ⟨_, n, rec, x, hn, hr, e⟩ := afterBurst_cases k b s <;> rw [e]
  · exact ⟨⟨fun i => .refl _, fun _ => by simp, by simp, by simp, by simp, by simp, by simp⟩, fun _ => by simp⟩
  · refine ⟨⟨fun i => ?_, fun _ => by simp, by simp, by simp, by simp, by simp, by simp⟩, fun h => absurd hm h⟩
    simp only [raiseSource_frame, State.setSlot_frame, State.setChannel_frame]
    exact .refl _
  · have hn' : ((s.setChannel k x).channel k).adopt.active = some n := by rw [State.setChannel_channel_same, hn]
    have hr' : (s.setChannel k x).store.records.get n.pattern = some rec := hr
    have hstate := (startBurst_started hn' hr').1
    exact ⟨⟨fun i => (startBurst_profiled hn' hr').record i, fun h => absurd hstate h, by simp, by simp, by simp, by simp,
      by simp⟩, fun _ => by simp⟩

/-- What the state after a burst keeps where a closing record waits (R82, R99). -/
structure EndedUnjudged (k : Slot) (s t : State) : Prop where
  record : ∀ i, t.record k i = s.record k i
  log : t.log = s.log
  slot : t.slot k = { s.slot k with burstDone := (t.slot k).burstDone }
  strikes : (t.compare k).devStrikes = (s.compare k).devStrikes
  absent : (s.compare k).closing = none → (t.compare k).closing = none
  closing : (t.channel k).state ≠ .burst ∨ (t.compare k).collecting = none →
    (t.compare k).closing = (s.compare k).closing

theorem afterBurst_unjudged (hw : ClosingWaits k s) : EndedUnjudged k s (afterBurst k b s) := by
  obtain ⟨_, x, _, e⟩ | ⟨_, x, _, e⟩ | ⟨_, n, rec, x, hn, hr, e⟩ := afterBurst_cases k b s <;> rw [e]
  · exact ⟨fun i => by simp, by simp, by simp, by simp, fun h => by simpa using h, fun _ => by simp⟩
  · exact ⟨fun i => by simp, by simp, by simp, by simp, fun h => by simpa using h, fun _ => by simp⟩
  · have hn' : ((s.setChannel k x).channel k).adopt.active = some n := by rw [State.setChannel_channel_same, hn]
    have hr' : (s.setChannel k x).store.records.get n.pattern = some rec := hr
    obtain ⟨h, hkept⟩ := startBurst_unjudged hn' hr' hw
    obtain ⟨hstate, _, _, _, _, _, _, _, hcollecting⟩ := startBurst_started hn' hr'
    have hslot : (startBurst k (s.setChannel k x)).slot k = s.slot k := congrArg (·.get k) h.slots
    refine ⟨fun i => ?_, h.log, ?_, ?_, fun hc => h.closing ?_, fun hc => ?_⟩
    · rw [State.record, h.acct]
      rfl
    · rw [hslot]
    · rw [h.unit]
      simp [begun, Compare.begin]
    · simpa [begun, Compare.begin] using hc
    · obtain hc | hc := hc
      · exact absurd hstate hc
      · rw [hc] at hcollecting
        have hprofile : rec.profile = none := by simpa using hcollecting.symm
        simpa using hkept hprofile

end Modes

/-! ## The end of a burst -/

/-- R80, R82: a burst at its end. -/
theorem burstEnd_eq {k : Slot} {p : Play} {b : BurstConfig} {s : State} (hs : (s.channel k).state = .burst)
    (hp : (s.channel k).play = some p) (hb : (s.channel k).active = some b)
    (hover : p.record.start + p.record.length ≤ p.position + 1) (hpass : b.passes ≤ p.pass)
    (hq : ∀ g, (s.channel k).pulses.get g = []) :
    burstEnd k s = afterBurst k b (endDeferred k false (burstVerdicts k p.record b s)) := by
  have hend : (s.channel k).atEnd = true := by
    have hpulses : (s.channel k).pulses.toList.all List.isEmpty = true := by simp [Table.mem_toList, hq]
    simp [Channel.atEnd, Channel.passes, Play.passOver, hs, hp, hb, hover, hpass, hpulses]
  simp only [burstEnd, hend, hp, hb]

section End
variable (k : Slot) (rec : PatternRecord) (b : BurstConfig) (s : State)

/-- R98: a burst's record as it is completed, before the counts and marks are cleared. -/
def completed : State := completeRecord k b.passes (s.compare k).member (judged k rec.tolerance b.pattern s)

theorem burstVerdicts_eq : burstVerdicts k rec b s
    = (completed k rec b s).setCompare k ((completed k rec b s).compare k).clearBurst := rfl

/-- R82: a burst's end. -/
def ended : State := afterBurst k b (endDeferred k false (burstVerdicts k rec b s))

theorem ended_keeps (i : Socket) :
    ((judged k rec.tolerance b.pattern s).record k i).Keeps ((ended k rec b s).record k i) := by
  obtain ⟨o, hcompleted⟩ := completeRecord_profiled k b.passes (s.compare k).member (judged k rec.tolerance b.pattern s)
  have happly := (endDeferred_carried k false (burstVerdicts k rec b s)).record i
  have hafter := (afterBurst_ended k b (endDeferred k false (burstVerdicts k rec b s))).1.record i
  exact ((hcompleted.record i).trans happly).trans hafter

/-- R74, R82, R98: where no next burst starts, no record collects and the counts and marks are cleared. -/
theorem ended_cleared (h : ((ended k rec b s).channel k).state ≠ .burst) :
    ((ended k rec b s).compare k).collecting = none
      ∧ ∀ i, ((ended k rec b s).compare k).mismatch.get i = 0 ∧ ((ended k rec b s).compare k).member.get i = false := by
  obtain ⟨o, hcompleted⟩ := completeRecord_profiled k b.passes (s.compare k).member (judged k rec.tolerance b.pattern s)
  have hcollecting : ((completed k rec b s).compare k).collecting = none := by
    simpa [closes, completed] using hcompleted.collecting
  have hmarks := (endDeferred_carried k false (burstVerdicts k rec b s)).marks
  have hcompare := (afterBurst_ended k b (endDeferred k false (burstVerdicts k rec b s))).1.compare h
  refine ⟨?_, fun i => ⟨?_, ?_⟩⟩ <;> rw [ended, hcompare]
  · rw [hmarks.unit, burstVerdicts_eq, State.setCompare_compare_same]
    exact hcollecting
  · exact hmarks.mismatch i (by simp [burstVerdicts_eq, Compare.clearBurst])
  · exact hmarks.member i (by simp [burstVerdicts_eq, Compare.clearBurst])

/-- R98, R99: an end at which no profile verdict is taken, with the closing record `o` that waits after it. -/
theorem ended_undecided {o : Option ProfileRecord}
    (ho : completed k rec b s = closes k o (judged k rec.tolerance b.pattern s))
    (hw : ∀ r, o = some r → r.finished = false) :
    (∀ i, NotJudged k i s (ended k rec b s))
      ∧ (o = none → ((ended k rec b s).compare k).closing = none)
      ∧ (((ended k rec b s).channel k).state ≠ .burst ∨ ((ended k rec b s).compare k).collecting = none →
          ((ended k rec b s).compare k).closing = o)
      ∧ ((s.slot k).applyDeferred = false →
          (∀ i, ¬ Fails k rec.tolerance i s → (ended k rec b s).record k i = s.record k i)
          ∧ ((∀ i, ¬ Fails k rec.tolerance i s) → (ended k rec b s).log = s.log
              ∧ (ended k rec b s).slot k = { s.slot k with burstDone := ((ended k rec b s).slot k).burstDone })) := by
  have hjudged := judged_unmarked k rec.tolerance b.pattern s
  have hcarried := endDeferred_carried k false (burstVerdicts k rec b s)
  have hverdicts : (burstVerdicts k rec b s).compare k
      = { (judged k rec.tolerance b.pattern s).compare k with
            mismatch := Table.fill 32 0, member := Table.fill 32 false, collecting := none, closing := o } := by
    rw [burstVerdicts_eq, ho]
    simp [closes, Compare.clearBurst]
  have hrecord (i : Socket) : (burstVerdicts k rec b s).record k i
      = (judged k rec.tolerance b.pattern s).record k i := by
    rw [burstVerdicts_eq, ho]
    rfl
  have hclosing : ((endDeferred k false (burstVerdicts k rec b s)).compare k).closing = o := by
    rw [hcarried.marks.unit, hverdicts]
  have hwait : ClosingWaits k (endDeferred k false (burstVerdicts k rec b s)) := by
    cases o with
    | none => exact closingWaits_of_none hclosing
    | some r => exact (closingWaits_of_some hclosing).mpr (hw r rfl)
  have h := afterBurst_unjudged (b := b) hwait
  refine ⟨fun i => ⟨?_, ?_⟩, fun e => h.absent (hclosing.trans e), fun e => (h.closing e).trans hclosing, fun hf => ?_⟩
  · rw [ended, h.strikes, hcarried.marks.unit, hverdicts, hjudged.unit]
  · rw [ended, h.record, hcarried.reports, hrecord]
    exact (judged_record k rec.tolerance b.pattern s i).2.2
  · have hplain : endDeferred k false (burstVerdicts k rec b s) = burstVerdicts k rec b s := by
      rw [endDeferred, if_neg (by simp [hf])]
    rw [hplain] at h
    refine ⟨fun i hi => ?_, fun hi => ?_⟩
    · rw [ended, hplain, h.record, hrecord]
      exact (judged_record k rec.tolerance b.pattern s i).2.1 hi
    · have hnone : judged k rec.tolerance b.pattern s = s := judged_of_none hi
      rw [ended, hplain, h.log]
      refine ⟨?_, h.slot.trans ?_⟩
      · rw [burstVerdicts_eq, ho, hnone]
        rfl
      · rw [burstVerdicts_eq, ho, hnone]
        simp [closes]

/-- R98, R100: an end at which the burst's own record, with no point AWAITED, takes its verdict. -/
theorem ended_judged {r : ProfileRecord} (hr : (s.compare k).collecting = some r) (hn : 8 ≤ b.passes)
    (hf : ∀ j : Fin 8, r.points.get j ≠ .awaited) :
    ((ended k rec b s).compare k).closing = none
      ∧ ∀ i, ProfileJudged k { r with members := (s.compare k).member } (s.slot k).active.devLimit i s
          (ended k rec b s) := by
  have hjudged := judged_unmarked k rec.tolerance b.pattern s
  have hcarried := endDeferred_carried k false (burstVerdicts k rec b s)
  generalize hfun : judged k rec.tolerance b.pattern s = f at hjudged
  have hcompleted : completed k rec b s
      = profileVerdict k (closingRecord k (s.compare k).member r f) (closes k none f) := by
    rw [completed, hfun, completeRecord_closes (by rw [hjudged.unit]; exact hr) hn, if_pos ((finished_iff r).mpr hf)]
  have hverdicts : (burstVerdicts k rec b s).compare k = ((completed k rec b s).compare k).clearBurst := by
    rw [burstVerdicts_eq, State.setCompare_compare_same]
  have hclosing : ((endDeferred k false (burstVerdicts k rec b s)).compare k).closing = none := by
    rw [hcarried.marks.unit, hverdicts]
    change ((completed k rec b s).compare k).closing = none
    rw [hcompleted, profileVerdict_closing]
    simp [closes]
  have h := afterBurst_unjudged (b := b) (closingWaits_of_none hclosing)
  refine ⟨h.absent hclosing, fun i => ?_⟩
  have hlimit : (closingRecord k (s.compare k).member r f).strikeLimit = some (s.slot k).active.devLimit := by
    rw [← hfun, closingRecord, judged]
    simp only [functionalVerdicts_slotFields]
  have hverdict := profileVerdict_judged (k := k) i (closes k none f) hlimit
  rw [← hcompleted] at hverdict
  refine profileJudged_congr (r := closingRecord k (s.compare k).member r f) hverdict ?_ ?_ ?_ ?_ fun hv => ?_
  · rw [closes, State.setCompare_compare_same]
    dsimp only
    rw [hjudged.unit]
  · rw [← hfun]
    exact (judged_record k rec.tolerance b.pattern s i).2.2.symm
  · rw [ended, h.strikes, hcarried.marks.unit, hverdicts]
    rfl
  · rw [ended, h.record, hcarried.reports]
    rfl
  · rw [ended, h.record]
    exact (hcarried.record i).verdict hv

end End

/-- R40: an apply taken at a burst's end. -/
theorem ended_applied (k : Slot) (rec : PatternRecord) (b : BurstConfig) (s : State)
    (hd : (s.slot k).applyDeferred = true) :
    let t := ended k rec b s
    (t.slot k).active = (s.slot k).staged ∧ (t.slot k).staged = (s.slot k).staged ∧ (t.slot k).applyDone = true
      ∧ (t.slot k).applyDeferred = false ∧ (t.slot k).board = (s.slot k).board := by
  have happly : endDeferred k false (burstVerdicts k rec b s) = takeApply k (burstVerdicts k rec b s) := by
    rw [endDeferred, if_pos (by simp [hd])]
    rfl
  have h := (afterBurst_ended k b (endDeferred k false (burstVerdicts k rec b s))).1
  dsimp only [ended]
  rw [h.active, h.staged, h.done, h.deferred, h.board, happly]
  simp [takeApply_slot]

theorem ended_channel {k : Slot} {rec : PatternRecord} {b : BurstConfig} {s : State} :
    (b.mode = .periodic → (ended k rec b s).channel k = { s.channel k with state := .gap, play := none, gap := some b.gap })
      ∧ (b.mode = .triggered → (ended k rec b s).channel k = { s.channel k with state := .wait, play := none })
      ∧ (b.mode = .single → (ended k rec b s).channel k = { s.channel k with state := .done, play := none }
        ∧ ((ended k rec b s).slot k).burstDone = true ∧ (ended k rec b s).alert.raised.getLsbD 7 = true)
      ∧ (b.mode ≠ .single → ((ended k rec b s).slot k).burstDone = (s.slot k).burstDone) := by
  refine ⟨fun hm => ?_, fun hm => ?_, fun hm => ?_, fun hm => ?_⟩
  · rw [ended, afterBurst_periodic hm]
    simp
  · rw [ended, afterBurst_triggered hm]
    simp
  · rw [ended, afterBurst_single hm]
    simp [sourceBit, Source.number]
  · rw [ended, (afterBurst_ended k b _).2 hm]
    simp

/-- R77: the next burst of a CONTINUOUS channel. -/
theorem ended_continuous {k : Slot} {rec next : PatternRecord} {b n : BurstConfig} {s : State} (hm : b.mode = .continuous)
    (ha : (s.channel k).adopt.active = some n) (hr : s.store.records.get n.pattern = some next) :
    (n.mode = .triggered → (ended k rec b s).channel k
        = { s.channel k with state := .wait, play := none, active := some n, pending := none })
      ∧ (n.mode ≠ .triggered → BurstStarted k n next (ended k rec b s) (ended k rec b s)) := by
  have hadopt : (((endDeferred k false (burstVerdicts k rec b s)).setChannel k
      { (endDeferred k false (burstVerdicts k rec b s)).channel k with state := .idle, play := none }).channel
      k).adopt.active = some n := by
    rw [State.setChannel_channel_same, ← ha]
    have hch : (endDeferred k false (burstVerdicts k rec b s)).channel k = s.channel k := by simp
    rw [hch]
    simp only [Channel.adopt]
    split <;> rfl
  rw [ended, afterBurst_continuous hm]
  refine ⟨fun ht => ?_, fun ht => ?_⟩
  · rw [burstPoint_triggered hadopt ht]
    simp
  · rw [burstPoint_start hadopt ht]
    refine startBurst_started ?_ ?_
    · rw [State.setChannel_channel_same, adopt_adopt]
      exact hadopt
    · simpa using hr

/-- Settles O26: the end is `ended`; its records are those of the functional verdicts (`judged_record`) and what the rest of
the step keeps of them, and the profile record is undecided (`ended_undecided`) or judged (`ended_judged`). -/
theorem burstEndTakesVerdictsAndFollowsItsMode : Obligations.BurstEndTakesVerdictsAndFollowsItsMode := by
  intro s k p b hrun hs hp hb hover hpass hq c ch failing discarded unjudged
  have hexec : exec (.burstEnd k) s = .next (ended k p.record b s) :=
    congrArg Host.Outcome.next ((whenRunning_of_running _ s hrun).trans (burstEnd_eq hs hp hb hover hpass hq))
  have hmarks := judged_unmarked k p.record.tolerance b.pattern s
  have hcollecting : ((judged k p.record.tolerance b.pattern s).compare k).collecting = (s.compare k).collecting := by
    rw [hmarks.unit]
  have hclosing : ((judged k p.record.tolerance b.pattern s).compare k).closing = (s.compare k).closing := by
    rw [hmarks.unit]
  have hdiscarded (hd : discarded) :
      completed k p.record b s = closes k (s.compare k).closing (judged k p.record.tolerance b.pattern s) := by
    rw [completed, completeRecord_discarded (by rw [hcollecting]; exact hd), hclosing]
  have hwaits (hw : ClosingWaits k s) (r : ProfileRecord) (hr : (s.compare k).closing = some r) : r.finished = false :=
    (closingWaits_of_some hr).mp hw
  have hawaits {r : ProfileRecord} (hr : (s.compare k).collecting = some r) (h8 : 8 ≤ b.passes)
      (hj : ∃ j : Fin 8, r.points.get j = .awaited) :
      r.finished = false ∧ completed k p.record b s = closes k
        (some { r with members := (s.compare k).member, strikeLimit := some (s.slot k).active.devLimit })
        (judged k p.record.tolerance b.pattern s) := by
    have hr0 : r.finished = false := by
      rw [← Bool.not_eq_true, finished_iff]
      simpa using hj
    refine ⟨hr0, ?_⟩
    rw [completed, completeRecord_closes (hcollecting.trans hr) h8, if_neg (by rw [hr0]; decide), closingRecord, judged]
    simp only [functionalVerdicts_slotFields]
  refine ⟨_, hexec, ?_, by simp [ended], by simp [ended], fun i => ⟨fun hf => ?_, fun hf => ?_⟩,
    ended_cleared k p.record b s, ended_channel.1, ended_channel.2.1, ended_channel.2.2.1, ended_channel.2.2.2,
    fun n rec hm hn hr => ended_continuous hm ?_ hr, fun hd hw => ?_,
    fun r hr h8 hnone => ⟨fun hj => ?_, fun hj => ended_judged k p.record b s hr h8 hj⟩, ended_applied k p.record b s,
    fun hd hu hw => ?_⟩
  · exact (burstVerdicts_slotFrame k _ b s).trans ((endDeferred_slotFrame k _ _).trans (afterBurst_slotFrame k b _))
  · obtain ⟨hverdict, hlogged, hfailing⟩ := (judged_record k p.record.tolerance b.pattern s i).1 hf
    obtain ⟨h1, h2, h3⟩ := ended_keeps k p.record b s i
    exact ⟨h2 hverdict, h3 hlogged, h1.trans hfailing⟩
  · have hrecord := (judged_record k p.record.tolerance b.pattern s i).2.1 hf
    exact (ended_keeps k p.record b s i).failing.trans (by rw [hrecord])
  · obtain hn | ⟨hn, rfl⟩ := hn
    · exact adopt_pending hn
    · exact (adopt_none hn).trans hb
  · obtain ⟨hnot, hnone, hkept, _⟩ := ended_undecided k p.record b s (hdiscarded hd) (hwaits hw)
    exact ⟨hnot, hnone, hkept⟩
  · obtain ⟨hr0, hcompleted⟩ := hawaits hr h8 hj
    obtain ⟨hnot, _, hkept, _⟩ := ended_undecided k p.record b s hcompleted fun x hx => by cases hx; exact hr0
    exact ⟨hnot, hkept⟩
  · by_cases hdis : discarded
    · exact (ended_undecided k p.record b s (hdiscarded hdis) (hwaits hw)).2.2.2 hd
    · obtain hdis' | ⟨r, hr, hj⟩ := hu
      · exact absurd hdis' hdis
      · have h8 : 8 ≤ b.passes := Nat.not_lt.mp fun h => hdis (.inr h)
        obtain ⟨hr0, hcompleted⟩ := hawaits hr h8 hj
        exact (ended_undecided k p.record b s hcompleted fun x hx => by cases hx; exact hr0).2.2.2 hd

end Sys2Proof.Machine
end


section
/-!
PROOFS. The choice of the next conversion (R44, R45), and the throttle timers and the end of a round (R55, R119, R120).
-/

namespace Sys2Proof.Machine

open Safety

/-! ## The choice of the next conversion -/

/-- R45: nothing is chosen before the round's next position where a set is being converted, no capture is listed or the
round has begun two sets. -/
theorem beginSet_routine {k : Slot} {s : State} (h : (s.scanner k).converting ≠ none ∨ (s.scanner k).captures = []
    ∨ 2 ≤ (s.scanner k).setsBegun) : beginSet k s = s := by
  unfold beginSet
  dsimp only
  split
  · next hconv hcap =>
    rw [if_neg]
    obtain h | h | h := h
    · exact absurd hconv h
    · rw [hcap] at h
      cases h
    · exact Nat.not_lt.mpr h
  · rfl

/-- R45, R47: the oldest capture set is begun. -/
theorem beginSet_first {k : Slot} {s : State} {e : CaptureEntry} {rest : List CaptureEntry}
    (hconv : (s.scanner k).converting = none) (hcap : (s.scanner k).captures = e :: rest)
    (hbegun : (s.scanner k).setsBegun < 2) (hcount : 0 < (s.slot k).countInForce) :
    beginSet k s = s.setScanner k { s.scanner k with
      captures := rest, setsBegun := (s.scanner k).setsBegun + 1
      converting := some ⟨e.point, 0, (s.slot k).countInForce, e.burst, false, e.burst, false⟩ } := by
  simp only [beginSet, hconv, hcap, if_pos hbegun, if_neg (Nat.ne_of_gt hcount)]

/-- R45, R47, R48: the fields of a scanner that the choice of the next conversion writes. -/
theorem chooseNext_scanner (k : Slot) (s : State) :
    let c := (chooseNext k s).scanner k
    c = { s.scanner k with captures := c.captures, setsBegun := c.setsBegun, converting := c.converting
                           conversion := c.conversion } := by
  unfold chooseNext beginConversion
  dsimp only
  unfold beginSet
  dsimp only
  split
  · split <;> simp
  · simp

/-! ## The hottest socket of a round -/

/-- What a maximum of temperatures has that one of the two has, such as lying at or above a threshold. -/
theorem foldl_maxTemp {α : Type} (P : Int → Prop) (hP : ∀ a b, P (max a b) ↔ P a ∨ P b) (f : α → Option Int)
    (l : List α) (m : Option Int) :
    (∃ t, l.foldl (fun m i => maxTemp m (f i)) m = some t ∧ P t)
      ↔ (∃ t, m = some t ∧ P t) ∨ ∃ i ∈ l, ∃ t, f i = some t ∧ P t := by
  have hmax (a b : Option Int) : (∃ t, maxTemp a b = some t ∧ P t)
      ↔ (∃ t, a = some t ∧ P t) ∨ ∃ t, b = some t ∧ P t := by
    cases a <;> cases b <;> simp [maxTemp, hP]
  induction l generalizing m with
  | nil => simp
  | cons i l ih =>
    rw [List.foldl_cons, List.exists_mem_cons_iff, ← or_assoc, ← hmax]
    exact ih _

theorem fresh_eq_some (r : SampleRecord) (t : Int) :
    r.fresh = some t ↔ (r.tempValid = true ∧ r.age ≤ 100) ∧ r.temp = t := by
  have hfresh : (r.tempValid && decide (r.age ≤ Config.staleAge)) = true ↔ r.tempValid = true ∧ r.age ≤ 100 := by
    rw [Bool.and_eq_true, decide_eq_true_iff]
    rfl
  rw [← hfresh, SampleRecord.fresh, Option.ite_none_right_eq_some, Option.some_inj]

/-- R54, R119: a socket whose temperature counts at the end of a round. -/
def Counts (k : Slot) (i : Socket) (s : State) : Prop :=
  (s.socket k i).power = .on ∧ ((s.scanner k).records.get i).tempValid = true ∧ ((s.scanner k).records.get i).age ≤ 100

/-- R119: Tmax has what the temperature of one of the sockets that count has. -/
theorem hottest_some (P : Int → Prop) (hP : ∀ a b, P (max a b) ↔ P a ∨ P b) (k : Slot) (s : State) :
    (∃ t, hottest k s = some t ∧ P t) ↔ ∃ i, Counts k i s ∧ P ((s.scanner k).records.get i).temp := by
  have hone (i : Socket) : (∃ t, (if (s.socket k i).power = .on then ((s.scanner k).records.get i).fresh else none) = some t
      ∧ P t) ↔ Counts k i s ∧ P ((s.scanner k).records.get i).temp := by
    unfold Counts
    by_cases h : (s.socket k i).power = .on
    · simp only [h, if_true, fresh_eq_some, true_and]
      exact ⟨fun ⟨_, ⟨hv, ht⟩, hp⟩ => ⟨hv, ht ▸ hp⟩, fun ⟨hv, hp⟩ => ⟨_, ⟨hv, rfl⟩, hp⟩⟩
    · simp [h]
  rw [hottest, foldl_maxTemp P hP]
  simp only [hone, reduceCtorEq, false_and, exists_false, false_or, Socket.mem_all, true_and]

/-! ## The round-end signal -/

/-- R119: some socket that counts is at or above the threshold. -/
def Hot (k : Slot) (threshold : Int) (s : State) : Prop :=
  ∃ i, Counts k i s ∧ threshold ≤ ((s.scanner k).records.get i).temp

/-- R120: a socket counts, and all that count are below the fall level. -/
def Cold (k : Slot) (level : Int) (s : State) : Prop :=
  (∃ i, Counts k i s) ∧ ∀ i, Counts k i s → ((s.scanner k).records.get i).temp < level

theorem Hot.not_cold {k : Slot} {threshold level : Int} {s : State} (h : Hot k threshold s) (hl : level ≤ threshold) :
    ¬ Cold k level s := fun ⟨_, hall⟩ => by
  obtain ⟨i, hi, ht⟩ := h
  have := hall i hi
  omega

/-- R119, R120: the signal of a POWERED board compares the hottest socket with the two levels. -/
theorem roundEndSignal_powered {k : Slot} {s : State} (hb : (s.slot k).board = .powered) :
    ∃ hot cold : Bool, (hot = true ↔ Hot k s.zone.tuning.throttle s)
      ∧ (cold = true ↔ Cold k (s.zone.tuning.throttle - s.zone.tuning.hysteresis) s)
      ∧ (roundEndSignal k s).throttle k = ((s.throttle k).rise hot).cool cold := by
  refine ⟨_, _, ?_, ?_, by rw [roundEndSignal, if_pos hb]; exact State.setThrottle_throttle_same _ _ _⟩
  · rw [Hot, ← hottest_some (s.zone.tuning.throttle ≤ ·) (fun _ _ => le_max_iff)]
    cases hottest k s <;> simp
  · have hall := hottest_some (fun _ => True) (by simp) k s
    have hlevel := hottest_some (s.zone.tuning.throttle - s.zone.tuning.hysteresis ≤ ·) (fun _ _ => le_max_iff) k s
    simp only [and_true] at hall
    have hcold : Cold k (s.zone.tuning.throttle - s.zone.tuning.hysteresis) s ↔ (∃ t, hottest k s = some t)
        ∧ ¬ ∃ t, hottest k s = some t ∧ s.zone.tuning.throttle - s.zone.tuning.hysteresis ≤ t := by
      rw [hall, hlevel, Cold]
      simp only [not_exists, not_and, not_le]
    rw [hcold]
    cases hottest k s with
    | none => simp
    | some t => simp only [decide_eq_true_eq, Option.some.injEq, exists_eq_left', exists_eq', true_and, not_le]

/-- R119, R120: a round-end signal by the step and the timers it finds. -/
theorem rise_cool_cases (w : Throttle) :
    (w.step < 3 → w.hold = none → (w.rise true).cool false = ⟨w.step + 1, some 10000, none⟩)
      ∧ (3 ≤ w.step ∨ w.hold ≠ none → (w.rise true).cool false = { w with fall := none })
      ∧ (0 < w.step → w.fall = none → (w.rise false).cool true = { w with fall := some 10000 })
      ∧ (w.step = 0 ∨ w.fall ≠ none → (w.rise false).cool true = w)
      ∧ (w.rise false).cool false = { w with fall := none } := by
  refine ⟨fun h1 h2 => ?_, fun h => ?_, fun h1 h2 => ?_, fun h => ?_, ?_⟩
  · simp [Throttle.rise, Throttle.cool, h1, h2, Config.throttleTime]
  · have hn : ¬ (w.step < 3 ∧ w.hold = none) := fun ⟨h1, h2⟩ => h.elim (Nat.not_le.mpr h1) fun g => g h2
    simp [Throttle.rise, Throttle.cool, hn]
  · simp [Throttle.rise, Throttle.cool, h1, h2, Config.throttleTime]
  · have hn : ¬ (0 < w.step ∧ w.fall = none) := fun ⟨h1, h2⟩ => h.elim (Nat.ne_of_gt h1) fun g => g h2
    simp [Throttle.rise, Throttle.cool, hn]
  · simp [Throttle.rise, Throttle.cool]

/-! ## The timers at their ends -/

theorem riseHoldExpired_eq (k : Slot) (s : State) :
    riseHoldExpired k s = if (s.throttle k).hold = some 0 then s.setThrottle k { s.throttle k with hold := none } else s := by
  simp only [riseHoldExpired, Timer.due_iff]

theorem fallExpired_eq (k : Slot) (s : State) :
    fallExpired k s = if (s.throttle k).fall = some 0 then s.setThrottle k
      { s.throttle k with step := (s.throttle k).step - 1
                          fall := if 1 < (s.throttle k).step then some 10000 else none } else s := by
  simp only [fallExpired, Timer.due_iff, Nat.sub_pos_iff_lt, Config.throttleTime]

/-! ## The end of a round -/

/-- R50, R51: a socket's arrival writes records and sensor-fault counts of the scanner alone. -/
theorem socketArrival_scanner (k : Slot) (i : Socket) (v : Option Int) (s : State) :
    ∃ r f, (socketArrival k i v s).scanner k = { s.scanner k with records := r, faults := f } := by
  unfold socketArrival
  split
  · next code t _ =>
    refine ⟨((s.scanner k).arrive i (arrivalRecord code t)).records,
      ((s.scanner k).arrive i (arrivalRecord code t)).faults, ?_⟩
    unfold socketSample
    dsimp only
    split <;> simp [Scanner.arrive]
  · exact ⟨_, _, rfl⟩

/-- R44: the last conversion of a round is a socket's temperature conversion. -/
theorem routineResult_last {k : Slot} {n fullScale : Nat} (hn : 1 ≤ n) (reading : Option Int) (s : State) :
    ∃ i, routineResult k (3 + 2 * n) fullScale reading s = keepPartial k none (socketArrival k i reading s) := by
  obtain ⟨m, rfl⟩ : ∃ m, n = m + 1 := ⟨n - 1, by omega⟩
  have hpos : 3 + 2 * (m + 1) = (2 * m + 1) + 4 := by omega
  rw [hpos]
  exact ⟨_, if_neg (by omega)⟩

/-- R44, R55: past its last position a round ends and a new one begins. -/
theorem advanceRound_last {k : Slot} {s : State} (h : 4 + 2 * (s.scanner k).roundCount ≤ (s.scanner k).position + 1) :
    advanceRound k s = beginRound k (roundEndSignal k s) := by
  simp only [advanceRound, if_neg (Nat.not_lt.mpr h)]

/-- R55: after a pair that is the round's last, a new round is at its first position. -/
theorem pairDone_last {k : Slot} {u : State} (h : 4 + 2 * (u.scanner k).roundCount ≤ (u.scanner k).position + 1) :
    let t := pairDone k u
    (t.scanner k).position = 0 ∧ (t.scanner k).partialResult = none
      ∧ (t.scanner k).roundCount = (u.slot k).countInForce
      ∧ t.throttle k = (roundEndSignal k (keepPartial k none u)).throttle k := by
  have hlast : advanceRound k (keepPartial k none u) = beginRound k (roundEndSignal k (keepPartial k none u)) :=
    advanceRound_last (by simpa [keepPartial] using h)
  dsimp only
  rw [pairDone, hlast, chooseNext_scanner]
  simp [beginRound]

/-- R119, R120: the round-end signal of a POWERED board, by the records and the sockets as the pair leaves them. -/
theorem pairDone_signal {k : Slot} {u : State} (h : 4 + 2 * (u.scanner k).roundCount ≤ (u.scanner k).position + 1)
    (hb : (u.slot k).board = .powered) :
    ∃ hot cold : Bool, (hot = true ↔ Hot k u.zone.tuning.throttle (pairDone k u))
      ∧ (cold = true ↔ Cold k (u.zone.tuning.throttle - u.zone.tuning.hysteresis) (pairDone k u))
      ∧ (pairDone k u).throttle k = ((u.throttle k).rise hot).cool cold := by
  have hread := pairDone_readings k u
  simp only [Scanner.readings, Prod.mk.injEq] at hread
  obtain ⟨hrecords, _⟩ := hread
  have hcounts (i : Socket) : Counts k i (pairDone k u) ↔ Counts k i (keepPartial k none u) := by
    simp [Counts, hrecords, keepPartial]
  obtain ⟨hot, cold, hhot, hcold, hsignal⟩ := roundEndSignal_powered (k := k) (s := keepPartial k none u) (by simpa using hb)
  obtain ⟨_, _, _, hthrottle⟩ := pairDone_last h
  refine ⟨hot, cold, hhot.trans ?_, hcold.trans ?_, hthrottle.trans ?_⟩
  · simp only [Hot, hcounts, hrecords]
    simp [keepPartial]
  · simp only [Cold, hcounts, hrecords]
    simp [keepPartial]
  · simpa only [keepPartial_frame] using hsignal

/-- Settles O43: each expiry by its equation (`riseHoldExpired_eq`, `fallExpired_eq`), the end of a round by the signal that
`pairDone_last` leaves and the levels it compares (`roundEndSignal_powered`). -/
theorem throttleTimersEndAndFall : Obligations.ThrottleTimersEndAndFall := by
  refine ⟨?_, ?_⟩
  · intro s k hrun t
    have hhold := (whenRunning_of_running _ s hrun).trans (riseHoldExpired_eq k s)
    have hfall := (whenRunning_of_running _ s hrun).trans (fallExpired_eq k s)
    exact ⟨fun h => congrArg Host.Outcome.next (hhold.trans (if_pos h)),
      fun h => congrArg Host.Outcome.next (hhold.trans (if_neg h)),
      fun h => congrArg Host.Outcome.next (hfall.trans (if_pos h)),
      fun h => congrArg Host.Outcome.next (hfall.trans (if_neg h))⟩
  intro s k cv reading hrun hr hc hd hs hcount hpos hhyst
  obtain ⟨i, hi⟩ := routineResult_last (k := k) (fullScale := cv.fullScale) hcount reading s
  have hexec : exec (.conversionEnd k reading) s = .next (pairDone k (socketArrival k i reading s)) := by
    rw [exec_routineEnd hrun hr hc hd hs, hpos, hi]
    rfl
  have hcountInForce : ((socketArrival k i reading s).slot k).countInForce = (s.slot k).countInForce := by
    simp only [SlotCtl.countInForce, socketArrival_slotFields]
  obtain ⟨r, f, hscan⟩ := socketArrival_scanner k i reading s
  have hlast : 4 + 2 * ((socketArrival k i reading s).scanner k).roundCount
      ≤ ((socketArrival k i reading s).scanner k).position + 1 := by
    rw [hscan]
    dsimp only
    omega
  obtain ⟨hposition, hpartial, hround, hthrottle⟩ := pairDone_last hlast
  refine ⟨_, hexec, (socketArrival_slotFrame _ _ _ _).trans (pairDone_slotFrame _ _), hposition, hpartial,
    hround.trans hcountInForce, fun hb => ?_, fun hb => ?_⟩
  · rw [hthrottle, roundEndSignal, if_neg (by simpa using hb)]
    simp
  obtain ⟨hot, cold, hhot, hcold, hsignal⟩ := pairDone_signal hlast (by simpa using hb)
  simp only [socketArrival_frame] at hhot hcold hsignal
  have hlevel : s.zone.tuning.throttle - s.zone.tuning.hysteresis ≤ s.zone.tuning.throttle := by omega
  intro u w counts temp hot' cold'
  rw [hsignal]
  obtain ⟨hrise, hhold, hfall, hkeep, hstop⟩ := rise_cool_cases (s.throttle k)
  have hhotOnly (h : hot') : hot = true ∧ cold = false :=
    ⟨hhot.mpr h, Bool.eq_false_iff.mpr fun hc => Hot.not_cold h hlevel (hcold.mp hc)⟩
  have hcoldOnly (h : cold') : hot = false ∧ cold = true :=
    ⟨Bool.eq_false_iff.mpr fun hh => Hot.not_cold (hhot.mp hh) hlevel h, hcold.mpr h⟩
  refine ⟨fun h => ?_, fun h => ?_, fun h => ?_, fun h => ?_, fun hnh hnc => ?_⟩
  · rw [(hhotOnly h).1, (hhotOnly h).2]
    exact hrise
  · rw [(hhotOnly h).1, (hhotOnly h).2]
    exact hhold
  · rw [(hcoldOnly h).1, (hcoldOnly h).2]
    exact hfall
  · rw [(hcoldOnly h).1, (hcoldOnly h).2]
    exact hkeep
  · rw [Bool.eq_false_iff.mpr fun h => hnh (hhot.mp h), Bool.eq_false_iff.mpr fun h => hnc (hcold.mp h)]
    exact hstop

end Sys2Proof.Machine
end


section
/-!
PROOFS. EXERCISE-STOP (R87, R88).
-/

namespace Sys2Proof.Machine

open Safety

/-! ## A burst abandoned by a stop -/

/-- R87, R88: a channel that stops in BURST: the burst is discarded, a deferred apply ends, and the channel is IDLE. -/
theorem stopChannel_burst {k : Slot} {cancel : Bool} {s : State} (hs : (s.channel k).state = .burst) :
    stopChannel k cancel s = (endDeferred k cancel (discardBurst k s)).setChannel k
      { s.channel k with state := .idle, play := none, gap := none, pulses := Table.fill 4 [] } := by
  simp [stopChannel, abandonBurst, hs]

/-- R46: no entry of an abandoned burst stays listed. -/
theorem Scanner.forget_captures (c : Scanner) (n : Nat) : ∀ e ∈ (c.forget n).captures, e.burst ≠ n := by
  simp [Scanner.forget]

/-- R46, R74, R95: what a stop in BURST leaves of the burst. -/
theorem stopChannel_burst_discards {k : Slot} {cancel : Bool} {s : State} (hs : (s.channel k).state = .burst) :
    let t := stopChannel k cancel s
    (∀ g, (t.channel k).pulses.get g = [])
      ∧ (∀ i, (t.compare k).mismatch.get i = 0 ∧ (t.compare k).member.get i = false)
      ∧ (t.compare k).collecting = none ∧ (t.compare k).closing = (s.compare k).closing
      ∧ (∀ e ∈ (t.scanner k).captures, e.burst ≠ (s.channel k).burst)
      ∧ (t.slot k).abandoned = satInc 255 (s.slot k).abandoned := by
  have hmarks := (endDeferred_carried k cancel (discardBurst k s)).marks
  have hunit : (stopChannel k cancel s).compare k = (endDeferred k cancel (discardBurst k s)).compare k := by
    rw [stopChannel_burst hs]
    rfl
  dsimp only
  rw [hunit]
  refine ⟨fun g => ?_, fun i => ⟨hmarks.mismatch i ?_, hmarks.member i ?_⟩, ?_, ?_, ?_, ?_⟩
  · simp [stopChannel_burst hs]
  · simp [Compare.clearBurst]
  · simp [Compare.clearBurst]
  · rw [hmarks.unit, discardBurst_compare]
  · rw [hmarks.unit, discardBurst_compare]
    rfl
  · simp only [stopChannel_burst hs, State.setChannel_frame, endDeferred_frame, discardBurst_scanner]
    exact Scanner.forget_captures _ _
  · simp [stopChannel_burst hs]

/-- R88: a stop in BURST without a deferred apply, and with one that it takes. -/
theorem stopChannel_burst_apply {k : Slot} {s : State} (hs : (s.channel k).state = .burst) :
    let t := stopChannel k false s
    ((s.slot k).applyDeferred = false → RecordsKept s t
        ∧ t.slot k = { s.slot k with abandoned := (t.slot k).abandoned })
      ∧ ((s.slot k).applyDeferred = true → (t.slot k).active = (s.slot k).staged
        ∧ (t.slot k).applyDone = true ∧ (t.slot k).applyDeferred = false) := by
  dsimp only
  rw [stopChannel_burst hs]
  refine ⟨fun hd => ?_, fun hd => ?_⟩
  · have hplain : endDeferred k false (discardBurst k s) = discardBurst k s := by
      rw [endDeferred, if_neg (by simp [hd])]
    rw [hplain]
    simp [RecordsKept]
  · have happly : endDeferred k false (discardBurst k s) = takeApply k (discardBurst k s) := by
      rw [endDeferred, if_pos (by simp [hd])]
      rfl
    rw [happly]
    simp [takeApply_slot]

/-! ## EXERCISE-STOP -/

theorem serveExerciseStop_empty {k : Slot} {s : State} (he : (s.slot k).board = .empty) :
    serveExerciseStop k.code s = answer s .noBoard := by
  simp [serveExerciseStop, he]

theorem serveExerciseStop_ok {k : Slot} {s : State} (he : (s.slot k).board ≠ .empty) :
    serveExerciseStop k.code s = answer (stopChannel k false s) .ok := by
  simp [serveExerciseStop, he]

theorem exec_exerciseStop {k : Slot} {s : State} (h : Ready s) (he : (s.slot k).board ≠ .empty) :
    exec (.exerciseStop k.code) s = .next (replied 0x24 [0] (stopChannel k false (received s))) := by
  have hserve := serveExerciseStop_ok (s := received s) he
  have hnext := takeRequest_next 0x24 (serveExerciseStop k.code) s h (by rw [hserve]; simp [answer, reply])
  rw [hserve] at hnext
  exact congrArg Host.Outcome.next hnext

/-- Settles O22: the answer is that of `stopChannel`, which in BURST discards the burst and takes a deferred apply. -/
theorem exerciseStopAbandonsTheBurst : Obligations.ExerciseStopAbandonsTheBurst := by
  intro s k h
  refine ⟨fun he => ?_, fun he hs => ?_, fun he hs => ?_, ?_⟩
  · exact congrArg Host.Outcome.next (takeRequest_refused (r := .noBoard) h (serveExerciseStop_empty he))
  · rw [exec_exerciseStop h he, stopChannel_of_not_burst k false (received s) hs]
    rfl
  · obtain ⟨hidle, hplay, _, hactive, hpending⟩ := stopChannel_channel k false (received s)
    obtain ⟨hpulses, hmarks, hcollecting, hclosing, hcaptures, habandoned⟩ :=
      stopChannel_burst_discards (cancel := false) (s := received s) hs
    obtain ⟨hkept, happly⟩ := stopChannel_burst_apply (s := received s) hs
    exact ⟨_, exec_exerciseStop h he, hidle, hplay, hactive, hpending, hpulses, hmarks, hcollecting, hclosing, hcaptures,
      habandoned, (received_slotFrame k s).trans (stopChannel_slotFrame k false _), by simp, hkept, happly⟩
  · exact congrArg Host.Outcome.next (takeRequest_refused (r := .refusedRange) h (withSlot_four _ _))

end Sys2Proof.Machine
end


section
/-!
PROOFS. The end of a conversion, and the deliveries of a capture set (R44 to R48, R53, R56, R97, R99).
-/

namespace Sys2Proof.Machine

open Safety

/-! ## The next conversion after a pair's first, a round's start and a set's last -/

/-- R45, R48: the round goes on to its next position. -/
theorem chooseNext_routine {k : Slot} {s : State} (h : (s.scanner k).converting ≠ none ∨ (s.scanner k).captures = []
    ∨ 2 ≤ (s.scanner k).setsBegun) : chooseNext k s
      = s.setScanner k { s.scanner k with conversion := some ⟨(s.slot k).active.fullScale, false⟩ } := by
  rw [chooseNext, beginSet_routine h, beginConversion]

/-- R45, R47, R48: the oldest capture set is begun, with the conversion of its first socket. -/
theorem chooseNext_first {k : Slot} {s : State} {e : CaptureEntry} {rest : List CaptureEntry}
    (hconv : (s.scanner k).converting = none) (hcap : (s.scanner k).captures = e :: rest)
    (hbegun : (s.scanner k).setsBegun < 2) (hcount : 0 < (s.slot k).countInForce) :
    chooseNext k s = s.setScanner k { s.scanner k with
      captures := rest, setsBegun := (s.scanner k).setsBegun + 1
      converting := some ⟨e.point, 0, (s.slot k).countInForce, e.burst, false, e.burst, false⟩
      conversion := some ⟨(s.slot k).active.fullScale, false⟩ } := by
  rw [chooseNext, beginSet_first hconv hcap hbegun hcount, beginConversion]
  simp

/-- The scanner once the first conversion of a pair has left the result `v`. -/
def Scanner.keep (c : Scanner) (v : Option Nat) : Scanner := { c with partialResult := v, position := c.position + 1 }

/-- The scanner at the start of a round of `count` sockets. -/
def Scanner.round (c : Scanner) (count : Nat) : Scanner :=
  { c with position := 0, setsBegun := 0, roundCount := count, partialResult := none }

section Ends

variable {s : State} {k : Slot} {cv : Conversion} (hp : s.part.phase = .running)

include hp

/-- R45: without a conversion in progress no conversion ends (log entry 3). -/
theorem exec_conversionEnd_idle (h : (s.scanner k).running = false ∨ (s.scanner k).conversion = none)
    (v : Option Int) : exec (.conversionEnd k v) s = .next s := by
  refine congrArg Host.Outcome.next ((whenRunning_of_running _ _ hp).trans ?_)
  unfold conversionEnd
  dsimp only
  split
  · next hr hc =>
    rw [hr, hc] at h
    simp at h
  · rfl

variable (hr : (s.scanner k).running = true) (hc : (s.scanner k).conversion = some cv)

include hr hc

/-- R45, R47: the end of a conversion of a capture set. -/
theorem exec_captureEnd {t : CaptureSet} (hs : (s.scanner k).converting = some t) (v : Option Int) :
    exec (.conversionEnd k v) s = .next (chooseNext k (advanceSet k t (captureResult k t cv.fullScale v s))) := by
  refine congrArg Host.Outcome.next ((whenRunning_of_running _ _ hp).trans ?_)
  simp only [conversionEnd, hr, hc, hs]

variable (hs : (s.scanner k).converting = none)

include hs

/-- R56: the end of a routine conversion begun before a ZONE-RESET. -/
theorem exec_discardedEnd (hd : cv.discard = true) (v : Option Int) :
    exec (.conversionEnd k v) s
      = .next (chooseNext k (s.setScanner k ((s.scanner k).round (s.slot k).countInForce))) := by
  refine congrArg Host.Outcome.next ((whenRunning_of_running _ _ hp).trans ?_)
  simp only [conversionEnd, hr, hc, hs, routineEnd, hd, if_true]
  rfl

/-- R44: the end of the first conversion of a pair. -/
theorem exec_pairFirst (hd : cv.discard = false) {v : Option Int} {w : Option Nat}
    (hw : routineResult k (s.scanner k).position cv.fullScale v s = keepPartial k w s)
    (hn : (s.scanner k).position + 1 < 4 + 2 * (s.scanner k).roundCount) :
    exec (.conversionEnd k v) s = .next (chooseNext k (s.setScanner k ((s.scanner k).keep w))) := by
  rw [exec_routineEnd hp hr hc hd hs, hw, advanceRound, if_pos (by simpa [keepPartial] using hn)]
  simp [keepPartial, Scanner.keep]

end Ends

/-- R48: the first conversion of a socket's pair is that of its current. -/
theorem routineResult_current {k : Slot} {s : State} {n : Nat} (i : Nat) (hn : n = 4 + 2 * i) (fullScale : Nat)
    (v : Option Int) : routineResult k n fullScale v s = keepPartial k (v.map (currentCode fullScale)) s := by
  obtain rfl : n = 2 * i + 4 := by omega
  exact if_pos (by omega)

/-- R52: the first conversion of a rail's pair is that of its voltage. -/
theorem routineResult_voltage {k : Slot} {s : State} {n : Nat} (hn : n = 0 ∨ n = 2) (fullScale : Nat) (v : Option Int) :
    routineResult k n fullScale v s = keepPartial k (v.map (unsigned 4095)) s := by
  obtain rfl | rfl := hn <;> rfl

/-! ## Deliveries of a capture set -/

section Deliveries

variable {k : Slot} {n : Nat} {f : ProfileRecord → ProfileRecord} {r : ProfileRecord} {s : State}

/-- R97: a delivery to the collecting record where no record closes. -/
theorem deliver_collecting (ho : (s.compare k).collecting = some r) (hc : (s.compare k).closing = none)
    (hb : r.burst = n) :
    deliver k n f s = s.setCompare k { s.compare k with collecting := some (f r) } := by
  have hunit : (s.compare k).onBurst n f = { s.compare k with collecting := some (f r) } := by
    simp [Compare.onBurst, ho, hc, hb]
  rw [deliver, hunit, finishClosing_none (by simpa using hc)]

/-- R97, R99: a delivery to the closing record where no record collects. -/
theorem deliver_closing (ho : (s.compare k).collecting = none) (hc : (s.compare k).closing = some r)
    (hb : r.burst = n) :
    deliver k n f s = if (f r).finished then profileVerdict k (f r) (s.setCompare k { s.compare k with closing := none })
      else s.setCompare k { s.compare k with closing := some (f r) } := by
  have hunit : (s.compare k).onBurst n f = { s.compare k with closing := some (f r) } := by
    simp [Compare.onBurst, ho, hc, hb]
  rw [deliver, hunit, finishClosing_some (r := f r) (by simp)]
  simp

end Deliveries

/-- R47, R97: what the end of a set's conversion does to a profile record of the burst it belongs to. -/
def CaptureSet.sample (t : CaptureSet) (fullScale : Nat) (v : Option Int) (r : ProfileRecord) : ProfileRecord :=
  match v with
  | some x => if t.discard then r else r.store (socketOf t.socket) t.point (currentCode fullScale x)
  | none => r

theorem CaptureSet.sample_some (t : CaptureSet) (fullScale : Nat) (x : Int) (r : ProfileRecord) :
    let i := socketOf t.socket
    let stored := (r.samples.get i).set t.point (some (currentCode fullScale x))
    t.sample fullScale (some x) r = { r with samples := if t.discard then r.samples else r.samples.set i stored } := by
  unfold CaptureSet.sample
  dsimp only
  split <;> rfl

@[simp] theorem CaptureSet.sample_points (t : CaptureSet) (fullScale : Nat) (v : Option Int) (r : ProfileRecord) :
    (t.sample fullScale v r).points = r.points ∧ (t.sample fullScale v r).burst = r.burst := by
  unfold CaptureSet.sample
  split
  · split <;> exact ⟨rfl, rfl⟩
  · exact ⟨rfl, rfl⟩

/-- R46, R97: what the end of a set's last conversion does to a profile record of the burst that made the hold. -/
def CaptureSet.completed (t : CaptureSet) (r : ProfileRecord) : ProfileRecord :=
  if t.restDiscard then r else r.complete t.point

theorem CaptureSet.completed_awaited {t : CaptureSet} {r : ProfileRecord} (h : r.points.get t.point = .awaited) :
    t.completed r = { r with points := if t.restDiscard then r.points else r.points.set t.point .complete } := by
  unfold CaptureSet.completed
  split
  · rfl
  · exact if_pos h

/-- The scanner and the compare unit of a slot are written in either order. -/
theorem State.setCompare_setScanner (s : State) (k : Slot) (a : Compare) (b : Scanner) :
    (s.setCompare k a).setScanner k b = (s.setScanner k b).setCompare k a := rfl

section Captures

variable {k : Slot} {t : CaptureSet} {r : ProfileRecord} {s : State}

theorem captureResult_discarded (h : t.discard = true) (fullScale : Nat) (v : Option Int) :
    captureResult k t fullScale v s = s := by
  unfold captureResult
  split
  · exact if_pos h
  · rfl

theorem captureResult_collecting (ho : (s.compare k).collecting = some r) (hc : (s.compare k).closing = none)
    (hb : r.burst = t.burst) (fullScale : Nat) (v : Option Int) : captureResult k t fullScale v s
      = s.setCompare k { s.compare k with collecting := some (t.sample fullScale v r) } := by
  have hsame : s.setCompare k { s.compare k with collecting := some r } = s := by
    rw [← ho]
    exact State.setCompare_self s k
  unfold captureResult CaptureSet.sample
  split
  · split
    · exact hsame.symm
    · exact deliver_collecting ho hc hb
  · exact hsame.symm

/-- R99: a sample of a set still being converted leaves the closing record waiting for the set's point. -/
theorem captureResult_closing (ho : (s.compare k).collecting = none) (hc : (s.compare k).closing = some r)
    (hb : r.burst = t.burst) (hw : r.points.get t.point = .awaited) (fullScale : Nat) (v : Option Int) :
    captureResult k t fullScale v s
      = s.setCompare k { s.compare k with closing := some (t.sample fullScale v r) } := by
  have hsame : s.setCompare k { s.compare k with closing := some r } = s := by
    rw [← hc]
    exact State.setCompare_self s k
  unfold captureResult CaptureSet.sample
  split
  · split
    · exact hsame.symm
    · refine (deliver_closing ho hc hb).trans (if_neg fun hf => ?_)
      exact (finished_iff _).mp hf t.point hw
  · exact hsame.symm

/-- R47: a set goes on to its next socket. -/
theorem advanceSet_next (h : t.socket + 1 < t.count) : advanceSet k t s = s.setScanner k { s.scanner k with
    converting := some { t with socket := t.socket + 1, burst := t.restBurst, discard := t.restDiscard } } :=
  if_pos h

/-- R46, R47: a set's last conversion has ended. -/
theorem advanceSet_last (h : t.count ≤ t.socket + 1) : advanceSet k t s =
    if t.restDiscard then s.setScanner k { s.scanner k with converting := none }
    else deliver k t.restBurst (ProfileRecord.complete t.point)
      (s.setScanner k { s.scanner k with converting := none }) :=
  if_neg (Nat.not_lt.mpr h)

/-- R97: the end of a set where the burst that made the hold is still collecting. -/
theorem advanceSet_collecting (h : t.count ≤ t.socket + 1) (ho : (s.compare k).collecting = some r)
    (hc : (s.compare k).closing = none) (hb : r.burst = t.restBurst) : advanceSet k t s
      = (s.setScanner k { s.scanner k with converting := none }).setCompare k
          { s.compare k with collecting := some (t.completed r) } := by
  rw [advanceSet_last h, CaptureSet.completed]
  split
  · rw [← ho]
    exact (State.setCompare_self (s.setScanner k { s.scanner k with converting := none }) k).symm
  · exact deliver_collecting ho hc hb

/-- R99: the end of the set that completes a closing record's last point. -/
theorem advanceSet_finishes (h : t.count ≤ t.socket + 1) (hd : t.restDiscard = false)
    (ho : (s.compare k).collecting = none) (hc : (s.compare k).closing = some r) (hb : r.burst = t.restBurst)
    (hw : r.points.get t.point = .awaited) (hj : ∀ j : Fin 8, j ≠ t.point → r.points.get j ≠ .awaited) :
    advanceSet k t s = profileVerdict k { r with points := r.points.set t.point .complete }
      ((s.setScanner k { s.scanner k with converting := none }).setCompare k { s.compare k with closing := none }) := by
  have hcomplete : r.complete t.point = { r with points := r.points.set t.point .complete } := if_pos hw
  have hfinished : (r.complete t.point).finished = true := by
    rw [finished_iff, hcomplete]
    intro j
    dsimp only
    rw [Table.get_set]
    split
    · decide
    · next hn => exact hj j hn
  rw [advanceSet_last h, hd]
  refine (deliver_closing (s := s.setScanner k { s.scanner k with converting := none }) ho hc hb).trans ?_
  rw [if_pos hfinished, hcomplete]
  rfl

end Captures

/-- Settles O41: a routine conversion by `exec_pairFirst` and the choice of the next one, a set's conversion by what it does to
the collecting record (`captureResult_collecting`, `advanceSet_collecting`). -/
theorem conversionEndFollowsTheRound : Obligations.ConversionEndFollowsTheRound := by
  intro s k cv x reading hp c next ends code routine first
  have hroutine {v : Option Int} {w : Option Nat} (hr : c.running = true) (hc : c.conversion = some cv)
      (hd : cv.discard = false) (hs : c.converting = none)
      (hw : routineResult k c.position cv.fullScale v s = keepPartial k w s)
      (hn : c.position + 1 < 4 + 2 * c.roundCount) (h : routine) : ends v
        = .next (s.setScanner k { c with partialResult := w, position := c.position + 1, conversion := some next }) := by
    refine (exec_pairFirst hp hr hc hs hd hw hn).trans ?_
    rw [chooseNext_routine (.inr (by simpa [Scanner.keep] using h))]
    simp [Scanner.keep, c, next]
  refine ⟨fun h => exec_conversionEnd_idle hp h reading, fun hr hc hd hs => ⟨?_, ?_, ?_⟩, fun hr hc hd hs => ⟨?_, ?_⟩,
    fun set hr hc hs hmore => ⟨?_, ?_⟩, fun set hr hc hs hlast h => ⟨?_, ?_⟩⟩
  · intro i hi hpos h
    exact ⟨hroutine hr hc hd hs (routineResult_current i hpos _ _) (by omega) h,
      hroutine hr hc hd hs (routineResult_current i hpos _ _) (by omega) h⟩
  · intro i e rest hi hpos hcap hbegun hcount
    have hfirst := chooseNext_first (k := k) (s := s.setScanner k (c.keep (some code))) (e := e) (rest := rest)
      (by simpa [Scanner.keep] using hs) (by simpa [Scanner.keep] using hcap) (by simpa [Scanner.keep] using hbegun) hcount
    have hn : c.position + 1 < 4 + 2 * c.roundCount := by omega
    refine (exec_pairFirst hp hr hc hs hd (routineResult_current i hpos _ _) hn).trans
      (congrArg Host.Outcome.next (hfirst.trans ?_))
    simp [Scanner.keep, next, first]
  · intro hpos h
    exact hroutine hr hc hd hs (routineResult_voltage hpos _ _) (by omega) h
  · intro hcap
    refine (exec_discardedEnd hp hr hc hs hd reading).trans ?_
    rw [chooseNext_routine (.inr (.inl (by simpa [Scanner.round] using hcap)))]
    simp [Scanner.round, c, next]
  · intro e rest hcap hcount
    have hfirst := chooseNext_first (k := k) (s := s.setScanner k (c.round (s.slot k).countInForce)) (e := e) (rest := rest)
      (by simpa [Scanner.round] using hs) (by simpa [Scanner.round] using hcap) (by simp [Scanner.round]) hcount
    refine (exec_discardedEnd hp hr hc hs hd reading).trans (congrArg Host.Outcome.next (hfirst.trans ?_))
    simp [Scanner.round, next, first]
  · intro hdiscard
    refine (exec_captureEnd hp hr hc hs reading).trans ?_
    rw [captureResult_discarded hdiscard, advanceSet_next hmore, chooseNext_routine (.inl (by simp))]
    simp [c, next]
  · intro r hdiscard hcount hcollecting hburst hclosing
    refine (exec_captureEnd hp hr hc hs _).trans ?_
    rw [captureResult_collecting hcollecting hclosing hburst, advanceSet_next hmore, chooseNext_routine (.inl (by simp)),
      CaptureSet.sample, if_neg (by rw [hdiscard]; decide)]
    simp [State.setCompare_setScanner, c, next, ProfileRecord.store, code, currentCode]
  · intro hdiscard hrest
    refine (exec_captureEnd hp hr hc hs reading).trans ?_
    rw [captureResult_discarded hdiscard, advanceSet_last hlast, if_pos hrest, chooseNext_routine (.inr (by simpa using h))]
    simp [c, next]
  · intro r hcollecting hburst hrest hawaited hclosing
    refine (exec_captureEnd hp hr hc hs _).trans ?_
    rw [captureResult_collecting hcollecting hclosing hburst, advanceSet_collecting (r := set.sample cv.fullScale (some (x : Int)) r) hlast (by simp) (by simpa using hclosing)
      (by simpa using hrest), chooseNext_routine (.inr (by simpa using h))]
    rw [CaptureSet.completed_awaited (by simpa using hawaited), CaptureSet.sample_some]
    simp [State.setCompare_setScanner, c, next, code, currentCode]

end Sys2Proof.Machine
end


section
/-!
PROOFS. The profile verdict of one socket, and the finish of a closing record (R97 to R102).
-/

namespace Sys2Proof.Machine

open Safety

/-! ## A socket above the deviation limit -/

/-- R100: one difference of the sum of a half. -/
theorem absDiff_rotated (r : ProfileRecord) (i : Socket) (smp : Table 8 Nat) (j : Fin 8) :
    absDiff (smp.get j) (rotated r.codes (r.phases.get (clockGroup i)) j) = profileDiff r i smp j := by
  have hgroup : clockGroup i = ⟨i.val / 8, by have := i.isLt; omega⟩ := by
    apply Fin.ext
    have := i.isLt
    simp only [clockGroup, Fin.ofNat]
    omega
  rw [absDiff_eq, hgroup]
  rfl

theorem halfOne_eq (r : ProfileRecord) (i : Socket) (smp : Table 8 Nat) :
    halfOne smp r.codes (r.phases.get (clockGroup i)) = profileH1 r i smp := by
  simp only [halfOne, sumDiff, absDiff_rotated, List.map_cons, List.map_nil, List.sum_cons, List.sum_nil, profileH1,
    Nat.add_zero, Nat.add_assoc]

theorem halfTwo_eq (r : ProfileRecord) (i : Socket) (smp : Table 8 Nat) :
    halfTwo smp r.codes (r.phases.get (clockGroup i)) = profileH2 r i smp := by
  simp only [halfTwo, sumDiff, absDiff_rotated, List.map_cons, List.map_nil, List.sum_cons, List.sum_nil, profileH2,
    Nat.add_zero, Nat.add_assoc]

/-- R102: the compare unit once a socket has one more deviation strike. -/
def struckOnce (k : Slot) (i : Socket) (s : State) : State :=
  s.setCompare k { s.compare k with
    devStrikes := (s.compare k).devStrikes.set i (satInc 15 ((s.compare k).devStrikes.get i)) }

/-- R102: a socket above the deviation limit, with the detail of its report. -/
theorem judgeSocket_above {k : Slot} {r : ProfileRecord} {i : Socket} {smp : Table 8 Nat} (s : State) {n : Nat}
    (hm : r.members.get i = true) (hs : ∀ j : Fin 8, (r.samples.get i).get j = some (smp.get j))
    (hn : r.strikeLimit = some n) (ha : r.limit < profileRatio r i smp) :
    judgeSocket k r i s = if n ≤ satInc 15 ((s.compare k).devStrikes.get i) then
        reportFailure k i .currentProfile
          (u16 (profileRatio r i smp) ++ u16 (profileH1 r i smp) ++ u16 (profileH2 r i smp)) (struckOnce k i s)
      else struckOnce k i s := by
  have hratio : deviationRatio (profileH1 r i smp + profileH2 r i smp) r.codes.toList.sum = profileRatio r i smp := rfl
  simp only [judgeSocket, hm, codesOf_some hs, halfOne_eq, halfTwo_eq, hratio, if_pos ha, hn, Option.getD_some, struckOnce]

/-- R139: the record of the socket that a CURRENT-PROFILE report names. -/
theorem reportFailure_reports (k : Slot) (i : Socket) (d : List Byte) (s : State) :
    ((reportFailure k i .currentProfile d s).record k i).reports = satInc 65535 (s.record k i).reports := by
  rw [reportFailure_record_same]
  dsimp only
  split <;> simp [AcctRecord.markLogged, AcctRecord.countReport]

/-! ## The finish of a closing record -/

/-- R47, R99: a slot whose set has ended and whose closing record is discarded, before the record's verdicts. -/
def setEnded (k : Slot) (s : State) : State :=
  (s.setScanner k { s.scanner k with converting := none }).setCompare k { s.compare k with closing := none }

@[simp] theorem setEnded_frame (k : Slot) (s : State) :
    (setEnded k s).compare k = { s.compare k with closing := none } ∧ (∀ i, (setEnded k s).record k i = s.record k i) := by
  simp [setEnded]

theorem setEnded_slotFrame (k : Slot) (s : State) : SlotFrame k s (setEnded k s) :=
  (State.setScanner_slotFrame _ _ _).trans (State.setCompare_slotFrame _ _ _)

section Finish

variable {k : Slot} {set : CaptureSet} {r : ProfileRecord} {s : State}

/-- R47, R97, R99: a set's last conversion, the last that a closing record waits for: its sample is stored, its point
completed, and the record's verdicts are taken. -/
theorem exec_captureFinishes {cv : Conversion} (hp : s.part.phase = .running) (hr : (s.scanner k).running = true)
    (hc : (s.scanner k).conversion = some cv) (hs : (s.scanner k).converting = some set)
    (hlast : set.count ≤ set.socket + 1) (hrest : set.restDiscard = false) (hb : r.burst = set.burst)
    (hrb : r.burst = set.restBurst) (ho : (s.compare k).collecting = none) (hcl : (s.compare k).closing = some r)
    (hw : r.points.get set.point = .awaited) (hj : ∀ j : Fin 8, j ≠ set.point → r.points.get j ≠ .awaited)
    (v : Option Int) :
    exec (.conversionEnd k v) s = .next (chooseNext k (profileVerdict k
      { set.sample cv.fullScale v r with points := r.points.set set.point .complete } (setEnded k s))) := by
  rw [exec_captureEnd hp hr hc hs, captureResult_closing ho hcl hb hw, advanceSet_finishes (r := set.sample cv.fullScale v r)
    hlast hrest (by simpa using ho) (by simp) (by simpa using hrb) (by simpa using hw) (by simpa using hj)]
  simp [State.setCompare_setScanner, setEnded]

end Finish

/-- Settles O27: a socket's turn is `judgeSocket_above` above the limit; the step that finishes a closing record is
`exec_captureFinishes`, with the verdicts of `profileVerdict_judged`. -/
theorem profileVerdictAddsStrikesAboveTheLimit : Obligations.ProfileVerdictAddsStrikesAboveTheLimit := by
  refine ⟨?_, ?_⟩
  · intro s k rec i smp limit hm hs hlimit ratio struck t
    refine ⟨(judgeSocket_member s hm hs).1, fun ha => ?_⟩
    have hjudge : t = _ := judgeSocket_above (k := k) s hm hs hlimit ha
    have hrecord : (struckOnce k i s).record k i = s.record k i := rfl
    have hstruck : ((struckOnce k i s).compare k).devStrikes.get i = struck := by simp [struckOnce, struck]
    by_cases hreach : limit ≤ struck
    · rw [hjudge, if_pos hreach]
      refine ⟨?_, fun _ => ⟨reportFailure_failed _ _ _ _ _, ?_, fun hlogged => ?_⟩, fun h => absurd hreach (Nat.not_le.mpr h)⟩
      · rw [(reportFailure_unmarked k i _ _ _).unit]
        exact hstruck
      · rw [reportFailure_reports, hrecord]
      · obtain ⟨e, hnewest, _, hsocket, hcause, hdetail, _⟩ :=
          (reportFailure_logged k i .currentProfile _ (struckOnce k i s)).2 hlogged
        exact ⟨e, hnewest, hcause, hsocket, hdetail⟩
    · rw [hjudge, if_neg hreach]
      exact ⟨hstruck, fun h => absurd h hreach, fun _ => ⟨rfl, rfl⟩⟩
  · intro s k cv set rec limit reading hp hr hc hs hlast hdiscard hrest hb hrb hcollecting hclosing hlimit hw hj n samples
    have hsamples : { set.sample cv.fullScale reading rec with points := rec.points.set set.point .complete }
        = { rec with samples := samples, points := rec.points.set set.point .complete } := by
      cases reading with
      | none => rfl
      | some x => simp [CaptureSet.sample_some, hdiscard, samples, n, currentCode]
    have hexec := exec_captureFinishes hp hr hc hs hlast hrest hb hrb hcollecting hclosing hw hj reading
    rw [hsamples] at hexec
    refine ⟨_, hexec, ?_, ?_, ?_, fun i => ?_⟩
    · exact (setEnded_slotFrame _ _).trans ((profileVerdict_slotFrame _ _ _).trans (chooseNext_slotFrame _ _))
    · simp only [chooseNext_frame, profileVerdict_closing, setEnded_frame]
    · have hkept := (profileVerdict_profiled k { rec with samples := samples, points := rec.points.set set.point .complete }
        (setEnded k s)).collecting
      simpa [hcollecting] using hkept
    · refine profileJudged_congr (profileVerdict_judged (k := k) i (setEnded k s) hlimit) ?_ ?_ ?_ ?_ fun hv => ?_
      all_goals simp only [chooseNext_frame, setEnded_frame]
      exact hv

end Sys2Proof.Machine
end


section
/-!
PROOFS. Vector boundaries: the vector driven, the capture requested and the lanes (R46, R64 to R69, R80, R81, R97, R99).
-/

namespace Sys2Proof.Machine

open Safety

/-! ## Points lost in the records of a slot -/

/-- R97: a point is LOST in a record of a burst that `hit` names. -/
def ProfileRecord.loseIn (hit : Nat → Bool) (p : Fin 8) (r : ProfileRecord) : ProfileRecord :=
  if hit r.burst then r.lose p else r

@[simp] theorem ProfileRecord.loseIn_burst (hit : Nat → Bool) (p : Fin 8) (r : ProfileRecord) :
    (r.loseIn hit p).burst = r.burst := by
  unfold ProfileRecord.loseIn
  split <;> rfl

theorem ProfileRecord.lose_lose (p : Fin 8) (r : ProfileRecord) : (r.lose p).lose p = r.lose p := by
  have hsamples : (r.samples.map fun x => x.set p none).map (fun x => x.set p none)
      = r.samples.map fun x => x.set p none := Table.ext_get fun i => by simp
  simp only [ProfileRecord.lose, Table.set_set, hsamples]

/-- R97: a point lost twice is a point lost. -/
theorem ProfileRecord.loseIn_loseIn (hit hit' : Nat → Bool) (p : Fin 8) (r : ProfileRecord) :
    (r.loseIn hit p).loseIn hit' p = r.loseIn (fun n => hit n || hit' n) p := by
  unfold ProfileRecord.loseIn
  by_cases h : hit r.burst = true
  · have hb : (r.lose p).burst = r.burst := rfl
    simp [h, hb, ProfileRecord.lose_lose]
  · simp [h]

/-- R97, R99: no other point is AWAITED once one is LOST. -/
theorem lose_finished (p : Fin 8) (r : ProfileRecord) :
    (r.lose p).finished = true ↔ ∀ j : Fin 8, j ≠ p → r.points.get j ≠ .awaited := by
  rw [finished_iff]
  refine forall_congr' fun j => ?_
  simp only [ProfileRecord.lose, Table.get_set]
  by_cases h : j = p <;> simp [h]

/-- A finished record stays finished where a point is LOST. -/
theorem loseIn_finished (hit : Nat → Bool) (p : Fin 8) {r : ProfileRecord} (h : r.finished = true) :
    (r.loseIn hit p).finished = true := by
  unfold ProfileRecord.loseIn
  split
  · exact (lose_finished p r).mpr fun j _ => (finished_iff r).mp h j
  · exact h

/-- R97, R99: a compare unit whose records of the bursts that `hit` names have lost a point: a closing record then left
with no point AWAITED is discarded. -/
def Compare.loseIn (hit : Nat → Bool) (p : Fin 8) (c : Compare) : Compare :=
  { c with collecting := c.collecting.map (·.loseIn hit p)
           closing := (c.closing.map (·.loseIn hit p)).filter fun r => !r.finished }

theorem Compare.loseIn_loseIn (hit hit' : Nat → Bool) (p : Fin 8) (c : Compare) :
    (c.loseIn hit p).loseIn hit' p = c.loseIn (fun n => hit n || hit' n) p := by
  have hclosing : (((c.closing.map (·.loseIn hit p)).filter fun r => !r.finished).map (·.loseIn hit' p)).filter
      (fun r => !r.finished) = (c.closing.map (·.loseIn (fun n => hit n || hit' n) p)).filter fun r => !r.finished := by
    cases c.closing with
    | none => rfl
    | some r =>
      rw [Option.map_some, Option.map_some, ← ProfileRecord.loseIn_loseIn]
      cases h : (r.loseIn hit p).finished
      · simp only [Option.filter_some, h, Bool.not_false, if_true, Option.map_some]
      · simp only [Option.filter_some, h, loseIn_finished hit' p h, Bool.not_true, Bool.false_eq_true, if_false,
          Option.map_none, Option.filter_none]
  simp only [Compare.loseIn, hclosing, Option.map_map, Function.comp_def, ProfileRecord.loseIn_loseIn]

theorem ProfileRecord.loseIn_none (p : Fin 8) (r : ProfileRecord) : r.loseIn (fun _ => false) p = r := rfl

/-- A closing record that waits stays where no record loses a point. -/
theorem Compare.loseIn_none {k : Slot} {s : State} (hw : ClosingWaits k s) (p : Fin 8) :
    (s.compare k).loseIn (fun _ => false) p = s.compare k := by
  have hclosing : (s.compare k).closing.filter (fun r => !r.finished) = (s.compare k).closing := by
    cases hc : (s.compare k).closing with
    | none => rfl
    | some r => simp [(closingWaits_of_some hc).mp hw]
  simp only [Compare.loseIn, ProfileRecord.loseIn_none, Option.map_id', hclosing]

theorem loseIn_waits (hit : Nat → Bool) (p : Fin 8) (k : Slot) (s : State) :
    ClosingWaits k (s.setCompare k ((s.compare k).loseIn hit p)) := by
  cases hc : ((s.setCompare k ((s.compare k).loseIn hit p)).compare k).closing with
  | none => exact closingWaits_of_none hc
  | some r =>
    rw [closingWaits_of_some hc]
    rw [State.setCompare_compare_same] at hc
    simpa using (Option.filter_eq_some_iff.mp hc).2

/-- R97, R99, R100: a delivery of a lost point ends in no verdict where a closing record waits. -/
theorem deliver_lose_eq {k : Slot} (n : Nat) (p : Fin 8) {s : State} (hw : ClosingWaits k s) :
    deliver k n (ProfileRecord.lose p) s = s.setCompare k ((s.compare k).loseIn (n == ·) p) := by
  have hfun : (fun r : ProfileRecord => if r.burst = n then r.lose p else r) = (·.loseIn (n == ·) p) := by
    funext r
    simp [ProfileRecord.loseIn, eq_comm (a := n)]
  have hunit : (s.compare k).onBurst n (ProfileRecord.lose p) = { s.compare k with
      collecting := (s.compare k).collecting.map (·.loseIn (n == ·) p)
      closing := (s.compare k).closing.map (·.loseIn (n == ·) p) } := by
    rw [← hfun]
    rfl
  unfold deliver
  rw [hunit, Compare.loseIn]
  cases hc : (s.compare k).closing with
  | none =>
    rw [finishClosing_none (by simp)]
    rfl
  | some r =>
    rw [finishClosing_some (r := r.loseIn (n == ·) p) (by simp)]
    cases hf : (r.loseIn (n == ·) p).finished
    · simp [Option.filter_some, hf]
    · have hlost : (r.loseIn (n == ·) p).anyLost = true := by
        unfold ProfileRecord.loseIn at hf ⊢
        split
        · exact lose_anyLost p r
        · next hn =>
          rw [if_neg hn, (closingWaits_of_some hc).mp hw] at hf
          cases hf
      rw [if_pos rfl, profileVerdict_of_lost k hlost]
      simp [Option.filter_some, hf]

/-- R46: the deliveries for the listed captures of a point that a new one overwrites. -/
theorem deliver_older {k : Slot} (p : Fin 8) (l : List CaptureEntry) (hl : ∀ e ∈ l, e.point = p) {s : State}
    (hw : ClosingWaits k s) :
    l.foldl (fun s e => deliver k e.burst (ProfileRecord.lose e.point) s) s
      = s.setCompare k ((s.compare k).loseIn (fun n => l.any fun e => e.burst == n) p) := by
  induction l generalizing s with
  | nil => exact ((congrArg (s.setCompare k) (Compare.loseIn_none hw p)).trans (State.setCompare_self s k)).symm
  | cons e l ih =>
    rw [List.foldl_cons, hl e List.mem_cons_self, deliver_lose_eq _ _ hw,
      ih (fun x hx => hl x (List.mem_cons_of_mem e hx)) (loseIn_waits _ _ _ _), State.setCompare_compare_same,
      State.setCompare_setCompare, Compare.loseIn_loseIn]
    rfl

/-- R97: a collecting record after the loss. -/
theorem Compare.loseIn_collecting (hit : Nat → Bool) (p : Fin 8) (c : Compare) :
    (c.collecting = none → (c.loseIn hit p).collecting = none)
      ∧ ∀ r, c.collecting = some r → (hit r.burst = true → (c.loseIn hit p).collecting = some (r.lose p))
        ∧ (hit r.burst = false → (c.loseIn hit p).collecting = some r) := by
  refine ⟨fun h => ?_, fun r h => ⟨fun hb => ?_, fun hb => ?_⟩⟩ <;> simp [Compare.loseIn, ProfileRecord.loseIn, h]
  · simp [hb]
  · simp [hb]

/-- R97, R99: a closing record after the loss. -/
theorem Compare.loseIn_closing (hit : Nat → Bool) (p : Fin 8) (c : Compare) :
    (c.closing = none → (c.loseIn hit p).closing = none)
      ∧ ∀ r, c.closing = some r →
        (hit r.burst = true → (∃ j, j ≠ p ∧ r.points.get j = .awaited) → (c.loseIn hit p).closing = some (r.lose p))
        ∧ (hit r.burst = true → (∀ j, j ≠ p → r.points.get j ≠ .awaited) → (c.loseIn hit p).closing = none)
        ∧ (hit r.burst = false → r.finished = false → (c.loseIn hit p).closing = some r) := by
  refine ⟨fun h => ?_, fun r h => ⟨fun hb hj => ?_, fun hb hj => ?_, fun hb hf => ?_⟩⟩
  · simp [Compare.loseIn, h]
  · have hf : (r.lose p).finished = false := by
      rw [← Bool.not_eq_true, lose_finished]
      obtain ⟨j, hne, hj⟩ := hj
      exact fun hall => hall j hne hj
    simp [Compare.loseIn, ProfileRecord.loseIn, h, hb, hf, Option.filter_some]
  · simp [Compare.loseIn, ProfileRecord.loseIn, h, hb, (lose_finished p r).mpr hj, Option.filter_some]
  · simp [Compare.loseIn, ProfileRecord.loseIn, h, hb, hf, Option.filter_some]

/-! ## A capture request -/

/-- R46: a request for point `p` goes into the set being converted. -/
def Scanner.Into (c : Scanner) (p : Fin 8) : Prop := ∃ set, c.converting = some set ∧ set.point = p

/-- R46: burst `n` has a capture that a request for point `p` overwrites. -/
def Scanner.Overwritten (c : Scanner) (p : Fin 8) (n : Nat) : Prop :=
  (∃ set, c.converting = some set ∧ set.point = p ∧ n = set.restBurst)
    ∨ (¬ c.Into p ∧ ∃ e ∈ c.captures, e.point = p ∧ e.burst = n)

section Request

variable {k : Slot} {p : Fin 8} {n : Nat} {s : State}

theorem requestCapture_into {set : CaptureSet} (hs : (s.scanner k).converting = some set) (hp : set.point = p) :
    requestCapture k p n s = captureIntoSet k set n s := by
  simp only [requestCapture, hs, if_pos hp]

theorem requestCapture_listed (h : ¬ (s.scanner k).Into p) : requestCapture k p n s = captureIntoList k p n s := by
  unfold requestCapture
  split
  · next set hs => exact if_neg fun hp => h ⟨set, hs, hp⟩
  · rfl

/-- R46: the scanner after a request that goes into the set being converted. -/
theorem requestCapture_into_scanner {set : CaptureSet} (hs : (s.scanner k).converting = some set) (hp : set.point = p) :
    (requestCapture k p n s).scanner k
      = { s.scanner k with converting := some { set with restBurst := n, restDiscard := false } } := by
  simp [requestCapture_into hs hp, captureIntoSet]

/-- R46: the scanner after a request that is listed. -/
theorem requestCapture_listed_scanner (h : ¬ (s.scanner k).Into p) : (requestCapture k p n s).scanner k
    = { s.scanner k with captures := ((s.scanner k).captures.filter fun e => e.point != p) ++ [⟨p, n⟩] } := by
  rw [requestCapture_listed h]
  unfold captureIntoList
  exact captureLoss_keeps (fun u => u.scanner k = _) k (fun _ _ u hu => by simpa using hu) _ _
    (State.setScanner_scanner_same _ _ _)

/-- R46, R97, R99: where a closing record waits, a request changes the scanner and the records of the bursts whose
captures it overwrites. -/
theorem requestCapture_eq (hw : ClosingWaits k s) :
    ∃ hit : Nat → Bool, (∀ b, hit b = true ↔ (s.scanner k).Overwritten p b)
      ∧ requestCapture k p n s = (s.setScanner k ((requestCapture k p n s).scanner k)).setCompare k
          ((s.compare k).loseIn hit p) := by
  by_cases h : (s.scanner k).Into p
  · obtain ⟨set, hs, hp⟩ := h
    refine ⟨(set.restBurst == ·), fun b => ?_, ?_⟩
    · rw [beq_iff_eq]
      refine ⟨fun hb => .inl ⟨set, hs, hp, hb.symm⟩, ?_⟩
      rintro (⟨set', hs', -, hb⟩ | ⟨hlisted, -⟩)
      · rw [hb, Option.some.inj (hs.symm.trans hs')]
      · exact absurd ⟨set, hs, hp⟩ hlisted
    · rw [requestCapture_into_scanner hs hp, requestCapture_into hs hp, captureIntoSet, hp]
      exact deliver_lose_eq _ _ hw
  · refine ⟨fun b => ((s.scanner k).captures.filter fun e => e.point == p).any fun e => e.burst == b, fun b => ?_, ?_⟩
    · have hset : ¬ ∃ set, (s.scanner k).converting = some set ∧ set.point = p ∧ b = set.restBurst :=
        fun ⟨set, hs, hp, _⟩ => h ⟨set, hs, hp⟩
      simp [Scanner.Overwritten, h, hset]
    · rw [requestCapture_listed_scanner h, requestCapture_listed h, captureIntoList]
      exact deliver_older p _ (fun e he => by simpa using (List.mem_filter.mp he).2) hw

end Request

/-! ## The vector driven -/

/-- R64, R69: the vector at a position is driven in a pass at a rate step, and each clock group has a pulse more. -/
def driven (k : Slot) (rec : PatternRecord) (pass position step : Nat) (s : State) : State :=
  let v := s.store.read position
  s.setChannel k
    { s.channel k with play := some ⟨rec, pass, position, v⟩, rateStep := step
                       pulses := (s.channel k).pulses.map fun q => q ++ [⟨v.expect, v.strobe⟩] }

/-- R81: a vector is driven, and a capture is requested where the vector is the capture point of the pass. -/
def Drives (k : Slot) (rec : PatternRecord) (pass position step : Nat) (s t : State) : Prop :=
  (capturePoint rec pass position = none → t = driven k rec pass position step s)
    ∧ ∀ c, capturePoint rec pass position = some c →
      t = requestCapture k c (s.channel k).burst (driven k rec pass position step s)

theorem driveVector_drives (k : Slot) (rec : PatternRecord) (pass position : Nat) (s : State) :
    Drives k rec pass position (s.channel k).rateStep s (driveVector k rec pass position s) := by
  refine ⟨fun h => ?_, fun c h => ?_⟩ <;> simp only [driveVector, h, driven]

/-- R80: a pass takes the rate step then set. -/
theorem startPass_drives (k : Slot) (rec : PatternRecord) (pass : Nat) (s : State) :
    Drives k rec pass rec.start (s.throttle k).step s (startPass k rec pass s) := by
  have h := driveVector_drives k rec pass rec.start (s.setChannel k { s.channel k with rateStep := (s.throttle k).step })
  have hdriven : driven k rec pass rec.start (s.throttle k).step
      (s.setChannel k { s.channel k with rateStep := (s.throttle k).step })
        = driven k rec pass rec.start (s.throttle k).step s := by
    simp [driven]
  simpa [Drives, startPass, hdriven] using h

theorem Drives.channel {k : Slot} {rec : PatternRecord} {pass position step : Nat} {s t : State}
    (h : Drives k rec pass position step s t) : t.channel k = (driven k rec pass position step s).channel k := by
  obtain ⟨hnone, hsome⟩ := h
  cases hc : capturePoint rec pass position with
  | none => rw [hnone hc]
  | some c => simp [hsome c hc]

theorem vectorBoundary_within {k : Slot} {p : Play} {s : State} (hs : (s.channel k).state = .burst)
    (hp : (s.channel k).play = some p) (h : p.position + 1 < p.record.start + p.record.length) :
    vectorBoundary k s = driveVector k p.record p.pass (p.position + 1) s := by
  simp [vectorBoundary, hs, hp, Play.passOver, h]

theorem vectorBoundary_passOver {k : Slot} {p : Play} {s : State} (hs : (s.channel k).state = .burst)
    (hp : (s.channel k).play = some p) (h : p.record.start + p.record.length ≤ p.position + 1) :
    vectorBoundary k s = if p.pass < (s.channel k).passes then startPass k p.record (p.pass + 1) s else s := by
  simp [vectorBoundary, hs, hp, Play.passOver, h]

theorem driven_eq (k : Slot) (rec : PatternRecord) (pass position step : Nat) (s : State) :
    driven k rec pass position step s = s.setChannel k ((driven k rec pass position step s).channel k) := by
  simp [driven]

/-- R46, R97, R99: a vector driven at a capture point, where a closing record waits, changes its channel, the scanner and
the records of the bursts whose captures the request overwrites. -/
theorem Drives.eq_of_capture {k : Slot} {rec : PatternRecord} {pass position step : Nat} {c : Fin 8} {s t : State}
    (h : Drives k rec pass position step s t) (hc : capturePoint rec pass position = some c) (hw : ClosingWaits k s) :
    ∃ hit : Nat → Bool, (∀ b, hit b = true ↔ (s.scanner k).Overwritten c b)
      ∧ t.compare k = (s.compare k).loseIn hit c
      ∧ t = ((s.setChannel k (t.channel k)).setScanner k (t.scanner k)).setCompare k (t.compare k) := by
  have hwait : ClosingWaits k (driven k rec pass position step s) := (closingWaits_congr rfl).mpr hw
  obtain ⟨hit, hhit, heq⟩ := requestCapture_eq (p := c) (n := (s.channel k).burst) hwait
  rw [← h.2 c hc] at heq
  have hcompare : t.compare k = (s.compare k).loseIn hit c := by
    rw [heq]
    exact State.setCompare_compare_same _ _ _
  refine ⟨hit, hhit, hcompare, ?_⟩
  rw [h.channel, ← driven_eq, hcompare]
  exact heq

/-- R66, R67: the lanes and the clock groups of a powered board. -/
theorem lanes_of_powered {s : State} {k : Slot} (hb : (s.slot k).board = .powered) :
    s.lanes k = some ((s.slot k).active.laneMap.map fun e => laneLevel e (s.channel k).drive) :=
  if_pos hb

/-- Settles O24: the lanes are read off their definitions; a boundary drives a vector (`driveVector_drives`,
`startPass_drives`), with the capture it requests by `Drives.eq_of_capture`. -/
theorem vectorBoundaryPlaysThePasses : Obligations.VectorBoundaryPlaysThePasses := by
  refine ⟨?_, ?_⟩
  · intro s k c ch
    refine ⟨fun hb => ⟨if_neg hb, if_neg hb⟩, fun hb => ⟨if_pos hb, _, lanes_of_powered hb, fun l => ?_⟩⟩
    rw [Table.get_map]
    refine ⟨fun hidle => ?_, fun p hs hp => ?_⟩
    · rw [Channel.drive_idle _ hidle]
      rfl
    · rw [Channel.drive_burst _ p hs hp]
      rfl
  · intro s k p hrun hs hp ch last next
    have hnext {pass position step : Nat} {t : State} (h : Drives k p.record pass position step s t) :
        next pass position step t := by
      refine ⟨h.channel.trans (State.setChannel_channel_same ..), fun hc => ?_, fun c hc => ?_⟩
      · rw [h.channel, ← driven_eq]
        exact h.1 hc
      · refine ⟨fun hinto => ?_, fun set hset hpoint => ?_, fun hw => ?_⟩
        · exact (congrArg (State.scanner · k) (h.2 c hc)).trans (requestCapture_listed_scanner hinto)
        · exact (congrArg (State.scanner · k) (h.2 c hc)).trans (requestCapture_into_scanner hset hpoint)
        · obtain ⟨hit, hhit, hcompare, ht⟩ := h.eq_of_capture hc hw
          have hkept {b : Nat} (hb : ¬ (s.scanner k).Overwritten c b) : hit b = false :=
            Bool.eq_false_iff.mpr fun h => hb ((hhit b).mp h)
          obtain ⟨hnone, hsome⟩ := (s.compare k).loseIn_collecting hit c
          obtain ⟨hcnone, hcsome⟩ := (s.compare k).loseIn_closing hit c
          rw [← hcompare] at hnone hsome hcnone hcsome
          have hunit : t.compare k = { s.compare k with
              collecting := (t.compare k).collecting, closing := (t.compare k).closing } := by
            rw [hcompare]
            rfl
          refine ⟨hunit ▸ ht, hnone, hcnone, fun r hr => ?_, fun r hr => ?_⟩
          · obtain ⟨hlost, hstays⟩ := hsome r hr
            exact ⟨fun hb => hlost ((hhit _).mpr hb), fun hb => hstays (hkept hb)⟩
          · obtain ⟨hlost, hdone, hstays⟩ := hcsome r hr
            exact ⟨fun hb => hlost ((hhit _).mpr hb), fun hb => hdone ((hhit _).mpr hb),
              fun hb => hstays (hkept hb) ((closingWaits_of_some hr).mp hw)⟩
    refine ⟨fun h => ⟨_, ?_, hnext (driveVector_drives ..)⟩, fun h hpass => ⟨_, ?_, hnext (startPass_drives ..)⟩,
      fun h hpass => ?_⟩ <;> refine congrArg Host.Outcome.next ((whenRunning_of_running _ s hrun).trans ?_)
    · exact vectorBoundary_within hs hp h
    · exact (vectorBoundary_passOver hs hp h).trans (if_pos hpass)
    · exact (vectorBoundary_passOver hs hp h).trans (if_neg (Nat.not_lt.mpr hpass))

end Sys2Proof.Machine
end


section
/-!
PROOFS. Writing the store and defining records (R57 to R62), and the sample instant of a clock group's oldest pulse (R69,
R90).
-/

namespace Sys2Proof.Machine

open Safety

/-! ## PATTERN-LOAD -/

section
variable {start : Nat} {vs : List RawVector} {s : State} (h1 : 1 ≤ vs.length) (h2 : vs.length ≤ 64)
  (h3 : start + vs.length ≤ 8192) (h4 : ∀ v ∈ vs, v.marks.toNat < 4)

include h1 h2 h3 h4

/-- R58: a run of 1 to 64 vectors within the store passes the checks of length and range. -/
theorem servePatternLoad_checked : servePatternLoad start vs s =
      if (List.range vs.length).any (fun j => s.protectedVector (start + j)) then answer s .refusedState
      else answer { s with store := s.store.writeRun start (vs.map RawVector.vector) } .ok := by
  have hlength : ¬ (vs.length = 0 ∨ 64 < vs.length) := by omega
  have hclear : vs.all RawVector.unusedClear = true := by simpa [RawVector.unusedClear] using h4
  have hrange : ¬ (8191 < start ∨ Config.storeSize < start + vs.length ∨ vs.all RawVector.unusedClear = false) := by
    rw [hclear]
    simp only [Config.storeSize, Bool.true_eq_false, or_false]
    omega
  unfold servePatternLoad
  rw [if_neg hlength, if_neg hrange]

/-- R58: a run over no protected vector is written. -/
theorem servePatternLoad_free (hfree : ∀ j < vs.length, s.protectedVector (start + j) = false) :
    servePatternLoad start vs s
      = answer { s with store := s.store.writeRun start (vs.map RawVector.vector) } .ok := by
  rw [servePatternLoad_checked h1 h2 h3 h4, if_neg]
  simpa using hfree

/-- R62: a run over a protected vector is refused. -/
theorem servePatternLoad_protected (hheld : ∃ j < vs.length, s.protectedVector (start + j) = true) :
    servePatternLoad start vs s = answer s .refusedState := by
  rw [servePatternLoad_checked h1 h2 h3 h4, if_pos]
  simpa using hheld

end

/-- Settles O18: the request's checks pass, so it is refused or writes the run; what a run leaves at each index is
`PatternStore.writeRun_read_inside` and `PatternStore.writeRun_read_outside`. -/
theorem patternLoadWritesTheWholeRunOrNothing : Obligations.PatternLoadWritesTheWholeRunOrNothing := by
  intro s start vs h hwf h1 h2 h3 h4
  have hlen : start + (vs.map RawVector.vector).length ≤ 8192 := by rwa [List.length_map]
  refine ⟨fun hfree => ⟨s.store.writeRun start (vs.map RawVector.vector), ?_, by simp,
    s.store.writeRun_wf start _ hwf hlen, fun j v hv => ?_, fun i hi => ?_⟩, fun hheld => ?_⟩
  · exact congrArg _ (takeRequest_replied _ _ s _ _ h (servePatternLoad_free (s := received s) h1 h2 h3 h4 hfree))
  · exact s.store.writeRun_read_inside start _ hwf hlen j (RawVector.vector v) (by simp [hv])
  · exact s.store.writeRun_read_outside start _ i (by rwa [List.length_map])
  · exact congrArg _ (takeRequest_replied _ _ s _ _ h (servePatternLoad_protected (s := received s) h1 h2 h3 h4 hheld))

/-! ## PATTERN-DEFINE -/

theorem withRecord_val (s : State) (r : Fin 32) (f : Fin 32 → Served) : withRecord s r.val f = f r := by
  have hr : Fin.ofNat 32 r.val = r := Fin.ofNat_val_eq_self r
  rw [withRecord, if_neg (by omega), hr]

/-- R60: a record number above 31 is refused by each form. -/
theorem withRecord_above {n : Nat} (h : 31 < n) (s : State) (f : Fin 32 → Served) :
    withRecord s n f = answer s .refusedRange :=
  if_pos h

theorem patternFieldsOk_iff (start length period : Nat) : patternFieldsOk start length period = true ↔
    start ≤ 8191 ∧ 1 ≤ length ∧ start + length ≤ 8192 ∧ 1 ≤ period := by
  simp only [patternFieldsOk, Bool.and_eq_true, decide_eq_true_eq]
  omega

section
variable {s : State} {r : Fin 32} {start length period tolerance : Nat} {profile : Option Profile}

theorem servePatternDefineWrite_outOfRange (h : patternFieldsOk start length period = false) :
    servePatternDefineWrite r.val start length period tolerance profile s = answer s .refusedRange := by
  rw [servePatternDefineWrite, withRecord_val, if_pos h]

theorem servePatternDefineWrite_used (h : patternFieldsOk start length period = true) (hu : s.inUse r = true) :
    servePatternDefineWrite r.val start length period tolerance profile s = answer s .refusedState := by
  rw [servePatternDefineWrite, withRecord_val, if_neg (by rw [h]; decide), if_pos hu]

theorem servePatternDefineWrite_free (h : patternFieldsOk start length period = true) (hu : s.inUse r = false) :
    servePatternDefineWrite r.val start length period tolerance profile s =
      reply (s.setPattern r (some ⟨start, length, period, tolerance, profile⟩)) .ok
        (patternReply (s.setPattern r (some ⟨start, length, period, tolerance, profile⟩)) r) := by
  rw [servePatternDefineWrite, withRecord_val, if_neg (by rw [h]; decide), if_neg (by rw [hu]; decide)]

theorem servePatternDefineClear_used (hu : s.inUse r = true) :
    servePatternDefineClear r.val s = answer s .refusedState := by
  rw [servePatternDefineClear, withRecord_val, if_pos hu]

theorem servePatternDefineClear_free (hu : s.inUse r = false) :
    servePatternDefineClear r.val s = reply (s.setPattern r none) .ok (patternReply (s.setPattern r none) r) := by
  rw [servePatternDefineClear, withRecord_val, if_neg (by rw [hu]; decide)]

end

/-- Settles O19: each form by the checks it passes; the link, which the answer is written to, is read by none of them. -/
theorem patternDefineReplacesUnusedRecords : Obligations.PatternDefineReplacesUnusedRecords := by
  intro s r start length period tolerance profile h write t u
  have taken {serve : State → Served} {v : State} {payload : List Byte}
      (e : serve (received s) = ⟨received v, payload⟩) :
      Host.Outcome.next (takeRequest 0x21 serve s) = (.next (replied 0x21 payload v) : Host.Outcome State Fault Refusal) :=
    congrArg _ (takeRequest_replied _ _ s v payload h e)
  refine ⟨fun h1 h2 h3 h4 => ?_, fun hbad => ?_, fun hu => taken (servePatternDefineClear_free hu),
    fun hu => taken (servePatternDefineClear_used hu), taken (withRecord_val _ _ _), fun n hn => ?_⟩
  · have hok := (patternFieldsOk_iff start length period).mpr ⟨h1, h2, h3, h4⟩
    exact ⟨fun hu => taken (servePatternDefineWrite_free hok hu), fun hu => taken (servePatternDefineWrite_used hok hu)⟩
  · refine taken (servePatternDefineWrite_outOfRange ?_)
    rw [← Bool.not_eq_true, patternFieldsOk_iff]
    omega
  · exact ⟨taken (withRecord_above hn _ _), taken (withRecord_above hn _ _), taken (withRecord_above hn _ _)⟩

/-! ## The sample instant -/

theorem clockGroup_eq_iff (i : Socket) (g : Fin 4) : clockGroup i = g ↔ i.val / 8 = g.val := by
  have hi : i.val / 8 < 4 := by omega
  simp only [clockGroup, Fin.ext_iff, Fin.val_ofNat, Nat.mod_eq_of_lt hi]

/-- R90: what the pulse of a group does to the mismatch count of a socket. -/
theorem sample_mismatch (c : Compare) (pulse : Pulse) (g : Fin 4) (levels : Byte) (i : Socket) :
    (c.sample pulse g levels).mismatch.get i =
      if pulse.strobe = true ∧ i.val / 8 = g.val ∧ c.member.get i = true ∧ levels.getLsbD (i.val % 8) ≠ pulse.expect
      then satInc 65535 (c.mismatch.get i) else c.mismatch.get i := by
  cases hs : pulse.strobe with
  | false => simp [Compare.sample, hs]
  | true => simp only [Compare.sample, hs, if_true, Table.get_ofFn, compareSocket, clockGroup_eq_iff, true_and]

/-- R69: the oldest pulse of a group of a channel in BURST falls. -/
theorem sampleInstant_burst {k : Slot} {g : Fin 4} {levels : Byte} {s : State} {pulse : Pulse} {rest : List Pulse}
    (hb : (s.channel k).state = .burst) (hp : (s.channel k).pulses.get g = pulse :: rest) :
    sampleInstant k g levels s =
      (s.setChannel k { s.channel k with pulses := (s.channel k).pulses.set g rest }).setCompare k
        ((s.compare k).sample pulse g levels) := by
  simp only [sampleInstant, hb, hp]

theorem sample_eq (c : Compare) (pulse : Pulse) (g : Fin 4) (levels : Byte) :
    c.sample pulse g levels = { c with mismatch := (c.sample pulse g levels).mismatch } := by
  unfold Compare.sample
  split <;> rfl

/-- Settles O25: a pulse that falls changes the counts alone (`sample_eq`), and each count as `sample_mismatch` says. -/
theorem sampleInstantCountsMismatches : Obligations.SampleInstantCountsMismatches := by
  intro s k g levels pulse rest hr hb hp
  refine ⟨((s.compare k).sample pulse g levels).mismatch, ?_, fun i => ?_⟩
  · have hrun : exec (.sampleInstant k g levels) s = .next (sampleInstant k g levels s) :=
      congrArg _ (whenRunning_of_running _ s hr)
    rw [hrun, sampleInstant_burst hb hp, ← sample_eq]
  · rw [sample_mismatch, satInc]
    by_cases hc : pulse.strobe = true ∧ i.val / 8 = g.val ∧ (s.compare k).member.get i = true
        ∧ levels.getLsbD (i.val % 8) ≠ pulse.expect
    · obtain ⟨hs, hg, hm, hl⟩ := hc
      simp only [hs, hg, hm, hl, ne_eq, not_false_eq_true, and_self, true_and, if_true]
    · rw [if_neg hc, if_neg (fun ⟨hs, hg, hm, hl, _⟩ => hc ⟨hs, hg, hm, hl⟩), if_neg hc]

end Sys2Proof.Machine
end


section
/-!
PROOFS. What a step keeps of `StoreAndLogLegal` (R57, R149, R153, R181) and of `ChannelsLegal` (R67, R73, R89, R99), in one
relation, with the operations of sockets, profile records, bursts and channels.
-/

namespace Sys2Proof.Machine

open Safety

/-! ## The relation -/

/-- R67, R89: a channel is out of IDLE only while its board is POWERED. -/
def Seated (k : Slot) (s : State) : Prop := (s.channel k).state ≠ .idle → (s.slot k).board = .powered

/-- The steps from `s` to `t` keep the store and the log legal, and each closing record waiting and each channel seated
that was so in `s`. The channel of the slot `x`, if one is named, is not followed: its board has been taken down, and the
channel is stopped before the step ends. -/
structure Kept (x : Option Slot) (s t : State) : Prop where
  legal : StoreAndLogLegal s → StoreAndLogLegal t
  waits : ∀ k, ClosingWaits k s → ClosingWaits k t
  seats : ∀ k, x ≠ some k → Seated k s → Seated k t

theorem channelsLegal_iff (s : State) : ChannelsLegal s ↔ ∀ k, Seated k s ∧ ClosingWaits k s := by
  simp only [ChannelsLegal, Seated, Slot.mem_all, true_imp_iff]

theorem Kept.channels {s t : State} (h : Kept none s t) (hs : ChannelsLegal s) : ChannelsLegal t := by
  rw [channelsLegal_iff] at hs ⊢
  exact fun k => ⟨h.seats k (by simp) (hs k).1, h.waits k (hs k).2⟩

/-- The blocks that the relation looks at. -/
def legalView (s : State) : PatternStore × List LogEntry × Image × PerSlot SlotCtl × PerSlot Channel × PerSlot Compare :=
  (s.store, s.log.entries, s.ret.image, s.slots, s.chan, s.cmp)

section
variable {x : Option Slot} {k : Slot} {s t u : State}

theorem Kept.refl (x : Option Slot) (s : State) : Kept x s s := ⟨id, fun _ => id, fun _ _ => id⟩

theorem Kept.trans (h : Kept x s t) (g : Kept x t u) : Kept x s u :=
  ⟨g.legal ∘ h.legal, fun k => g.waits k ∘ h.waits k, fun k hk => g.seats k hk ∘ h.seats k hk⟩

/-- A change of other blocks. -/
theorem Kept.same (h : Kept x s t) (e : legalView u = legalView t) : Kept x s u := by
  simp only [legalView, Prod.mk.injEq] at e
  obtain ⟨hstore, hlog, himage, hslots, hchan, hcmp⟩ := e
  refine ⟨fun hs => ?_, fun k hs => ?_, fun k hk hs => ?_⟩
  · rw [StoreAndLogLegal, hstore, hlog, himage]
    exact h.legal hs
  · exact (closingWaits_congr (by unfold State.compare; rw [hcmp])).mpr (h.waits k hs)
  · unfold Seated State.channel State.slot
    rw [hchan, hslots]
    exact h.seats k hk hs

theorem Kept.scanner {c : Scanner} (h : Kept x s t) : Kept x s (t.setScanner k c) := h.same rfl

theorem Kept.throttle {w : Throttle} (h : Kept x s t) : Kept x s (t.setThrottle k w) := h.same rfl

theorem Kept.record {i : Socket} {r : AcctRecord} (h : Kept x s t) : Kept x s (t.setRecord k i r) := h.same rfl

theorem Kept.raise {c : Source} (h : Kept x s t) : Kept x s (raiseSource c t) := h.same rfl

/-- A slot controller whose board does not leave POWERED. -/
theorem Kept.slot {c : SlotCtl} (h : Kept x s t) (hb : (t.slot k).board = .powered → c.board = .powered) :
    Kept x s (t.setSlot k c) := by
  refine ⟨h.legal, h.waits, fun j hj hs hc => ?_⟩
  have ht := h.seats j hj hs hc
  rw [State.setSlot_slot]
  split
  · next e => exact hb (e ▸ ht)
  · exact ht

/-- A board taken down, before its channel stops. -/
theorem Kept.unseat (k : Slot) (c : SlotCtl) (h : Kept none s t) : Kept (some k) s (t.setSlot k c) := by
  refine ⟨h.legal, h.waits, fun j hj hs hc => ?_⟩
  rw [State.setSlot_slot_ne t c fun e => hj (congrArg some e.symm)]
  exact h.seats j (by simp) hs hc

/-- A channel in IDLE is seated whatever its board. -/
theorem Kept.reseat (h : Kept (some k) s t) (hi : (t.channel k).state = .idle) : Kept none s t := by
  refine ⟨h.legal, h.waits, fun j _ hs => ?_⟩
  by_cases hj : j = k
  · exact fun hc => absurd (hj ▸ hi) hc
  · exact h.seats j (by simpa using Ne.symm hj) hs

/-- A channel that leaves IDLE only while its board is POWERED. -/
theorem Kept.channel {c : Channel} (h : Kept x s t)
    (hc : Seated k s → c.state ≠ .idle → (t.slot k).board = .powered ∨ (t.channel k).state ≠ .idle) :
    Kept x s (t.setChannel k c) := by
  refine ⟨h.legal, h.waits, fun j hj hs hout => ?_⟩
  rw [State.setChannel_channel] at hout
  split at hout
  · next e =>
    subst e
    exact (hc hs hout).elim id (h.seats j hj hs)
  · exact h.seats j hj hs hout

/-- A channel whose state stays. -/
theorem Kept.channelSame {c : Channel} (h : Kept x s t) (hc : c.state = (t.channel k).state) :
    Kept x s (t.setChannel k c) :=
  h.channel fun _ hout => .inr (hc ▸ hout)

/-- A channel that enters IDLE. -/
theorem Kept.channelIdle {c : Channel} (h : Kept x s t) (hc : c.state = .idle) : Kept x s (t.setChannel k c) :=
  h.channel fun _ hout => absurd hc hout

/-- A compare unit whose closing record, if it has one, is as before or waits. -/
theorem Kept.compare {c : Compare} (h : Kept x s t)
    (hc : c.closing = (t.compare k).closing ∨ ∀ r, c.closing = some r → r.finished = false) :
    Kept x s (t.setCompare k c) := by
  refine ⟨h.legal, fun j hs => ?_, h.seats⟩
  by_cases hj : j = k
  · subst hj
    obtain e | hw := hc
    · exact (closingWaits_congr (by rw [State.setCompare_compare_same, e])).mpr (h.waits j hs)
    · cases hr : c.closing with
      | none => exact closingWaits_of_none (by rw [State.setCompare_compare_same, hr])
      | some r => exact (closingWaits_of_some (by rw [State.setCompare_compare_same, hr])).mpr (hw r hr)
  · exact (closingWaits_congr (by rw [State.setCompare_compare_ne t c hj])).mpr (h.waits j hs)

/-- R153: an append. -/
theorem Kept.append {a : Option Slot} {i : Option Socket} {c : LogCause} {d : List Byte} (h : Kept x s t) :
    Kept x s (appendEntry a i c d t) := by
  refine ⟨fun hs => ?_, fun k hs => ?_, fun k hk hs => ?_⟩
  · obtain ⟨hstore, hlog, himage⟩ := h.legal hs
    exact ⟨by simpa using hstore, appendEntry_length _ _ _ _ _ hlog, by simpa using himage⟩
  · exact (closingWaits_congr (by simp)).mpr (h.waits k hs)
  · simpa [Seated] using h.seats k hk hs

theorem Kept.forSockets {f : Socket → State → State} (hf : ∀ i u, Kept x s u → Kept x s (f i u)) (l : List Socket)
    (h : Kept x s t) : Kept x s (forSockets l f t) :=
  forSockets_invariant (Kept x s) f hf l t h

end

/-! ## Sockets -/

section
variable {x : Option Slot} {k : Slot} {i : Socket} {s t : State}

theorem setPower_kept {p : PowerState} {w : Timer} (h : Kept x s t) : Kept x s (setPower k i p w t) := by
  have h1 (q : SocketPower) : Kept x s (t.setSocket k i q) := h.slot id
  unfold setPower
  dsimp only
  split
  · exact h1 _
  · exact (h1 _).compare (.inl rfl)

theorem dropNotice_kept (h : Kept x s t) : Kept x s (dropNotice k i t) := by
  unfold dropNotice
  split
  iterate 2 exact setPower_kept h
  all_goals exact h

theorem logFailure_kept {c : FailCause} {d : List Byte} (h : Kept x s t) : Kept x s (logFailure k i c d t) := by
  unfold logFailure
  split
  · exact h
  · exact Kept.record (Kept.append h)

theorem reportFailure_kept {c : FailCause} {d : List Byte} (h : Kept x s t) :
    Kept x s (reportFailure k i c d t) := by
  have h1 : Kept x s (logFailure k i c d (t.setRecord k i ((t.record k i).countReport c))) :=
    logFailure_kept (.record h)
  unfold reportFailure
  obtain ⟨_, e⟩ | ⟨_, r, _, ⟨_, e⟩ | ⟨_, e⟩⟩ :=
    turnFailed_cases k i c d (logFailure k i c d (t.setRecord k i ((t.record k i).countReport c))) <;> rw [e]
  · exact h1
  · exact dropNotice_kept (.record h1)
  · exact .record h1

theorem tripSocket_kept {c : LogCause} {d : List Byte} (h : Kept x s t) : Kept x s (tripSocket k i c d t) := by
  by_cases hp : (t.socket k i).power = .on
  · obtain ⟨q, s2, s4, _, h2, h4, e⟩ := tripSocket_of_on k i c d t hp
    have k2 : Kept x s s2 := h2 ▸ setPower_kept (h.slot id)
    have k4 : Kept x s s4 := h4 ▸ Kept.append (.record k2)
    have k5 : Kept x s (s4.setSlot k { s4.slot k with socketTrip := true }) := k4.slot id
    rw [e]
    cases q
    · exact k5
    · exact reportFailure_kept k5
  · rw [tripSocket_of_not_on k i c d t hp]
    exact h

theorem switchOn_kept (h : Kept x s t) : Kept x s (switchOn k i t) := by
  obtain ⟨_, e⟩ | ⟨_, ⟨_, e⟩ | ⟨_, e⟩⟩ := switchOn_cases k i t <;> rw [e]
  · exact h
  · exact setPower_kept h
  · exact tripSocket_kept (setPower_kept h)

theorem tripEither_kept {a b : Option (LogCause × List Byte)} (h : Kept x s t) : Kept x s (tripEither k i a b t) := by
  obtain ⟨_, _, e⟩ | ⟨c, d, n, _, _, e⟩ := tripEither_cases k i a b t <;> rw [e]
  · exact h
  · exact tripSocket_kept (h.same rfl)

/-- R31: a socket made OFF goes ON again where its board is POWERED. -/
theorem rejoin_kept (h : Kept x s t) : Kept x s (if (t.slot k).board = .powered then switchOn k i t else t) := by
  split
  · exact switchOn_kept h
  · exact h

theorem maskSocket_kept (h : Kept x s t) : Kept x s (maskSocket k i t) := by
  unfold maskSocket
  split
  iterate 3 exact setPower_kept h
  iterate 2 exact h

theorem unmaskSocket_kept (h : Kept x s t) : Kept x s (unmaskSocket k i t) := by
  unfold unmaskSocket
  split
  · exact rejoin_kept (setPower_kept h)
  · exact h

theorem retryExpired_kept (h : Kept x s t) : Kept x s (retryExpired k i t) := by
  unfold retryExpired
  split
  · exact rejoin_kept (setPower_kept h)
  · exact h

theorem reinstateSocket_kept (h : Kept x s t) : Kept x s (reinstateSocket k i t) := by
  have h1 (r : AcctRecord) (d : List Byte) : Kept x s (appendSocket k i .reinstated d (t.setRecord k i r)) :=
    Kept.append (.record h)
  unfold reinstateSocket
  refine rejoin_kept ?_
  dsimp only
  split
  iterate 2 exact setPower_kept (Kept.slot (Kept.compare (h1 _ _) (.inl rfl)) id)
  all_goals exact Kept.slot (Kept.compare (h1 _ _) (.inl rfl)) id

/-! ## Applies -/

theorem lowerLimit_kept {n : Nat} (h : Kept x s t) : Kept x s (lowerLimit k n i t) := by
  have h1 (q : SocketPower) : Kept x s (t.setSocket k i q) := h.slot id
  obtain ⟨_, e⟩ | ⟨_, s1, e1, ⟨_, e⟩ | ⟨_, e⟩⟩ := lowerLimit_cases k n i t <;> rw [e]
  · exact h
  · exact e1 ▸ h1 _
  · exact reportFailure_kept (setPower_kept (e1 ▸ h1 _))

theorem dropFailed_kept (h : Kept x s t) : Kept x s (dropFailed k i t) := by
  obtain e | e := dropFailed_cases k i t <;> rw [e]
  · exact h
  · exact dropNotice_kept h

theorem takeApply_kept (h : Kept x s t) : Kept x s (takeApply k t) := by
  have h1 : Kept x s (copyStaged k t) := h.slot id
  have h2 (n : Nat) : Kept x s (applyLimit k n (copyStaged k t)) := by
    unfold applyLimit
    dsimp only
    split
    · exact h1.forSockets (fun _ _ => lowerLimit_kept) _
    · exact h1
  unfold takeApply applyPolicy
  dsimp only
  split
  · split
    · exact (h2 _).forSockets (fun _ _ => switchOn_kept) _
    · exact h2 _
  · exact (h2 _).forSockets (fun _ _ => dropFailed_kept) _
  · exact h2 _

theorem endDeferred_kept {cancel : Bool} (h : Kept x s t) : Kept x s (endDeferred k cancel t) := by
  obtain ⟨_, e⟩ | ⟨_, _, e⟩ | ⟨_, _, e⟩ := endDeferred_cases k cancel t <;> rw [e]
  · exact h
  · exact h.slot id
  · exact takeApply_kept h

/-! ## Profile records -/

theorem judgeSocket_kept {p : ProfileRecord} (h : Kept x s t) : Kept x s (judgeSocket k p i t) := by
  unfold judgeSocket
  split
  · dsimp only
    split
    · split
      · exact reportFailure_kept (h.compare (.inl rfl))
      · exact h.compare (.inl rfl)
    · exact h
  · exact h

theorem profileVerdict_kept {p : ProfileRecord} (h : Kept x s t) : Kept x s (profileVerdict k p t) := by
  unfold profileVerdict
  split
  · exact h
  · exact h.forSockets (fun _ _ => judgeSocket_kept) _

/-- R99: whatever record is made the closing one, it waits once `finishClosing` has looked at it. -/
theorem finishClosing_kept {c : Compare} (h : Kept x s t) : Kept x s (finishClosing k (t.setCompare k c)) := by
  cases hc : c.closing with
  | none =>
    rw [finishClosing_none (by rw [State.setCompare_compare_same, hc])]
    exact h.compare (.inr fun r e => by rw [hc] at e; cases e)
  | some r =>
    rw [finishClosing_some (r := r) (by rw [State.setCompare_compare_same, hc])]
    split
    · rw [State.setCompare_setCompare]
      exact profileVerdict_kept (h.compare (.inr fun r e => by cases e))
    · next hf =>
      refine h.compare (.inr fun r' e => ?_)
      rw [hc, Option.some_inj] at e
      rw [← e]
      exact Bool.eq_false_iff.mpr hf

theorem deliver_kept {n : Nat} {f : ProfileRecord → ProfileRecord} (h : Kept x s t) : Kept x s (deliver k n f t) :=
  finishClosing_kept h

theorem completeRecord_kept {n : Nat} {m : Table 32 Bool} (h : Kept x s t) : Kept x s (completeRecord k n m t) := by
  unfold completeRecord
  split
  · exact h
  · dsimp only
    split
    · exact h.compare (.inl rfl)
    · exact finishClosing_kept (h.compare (.inl rfl))

theorem requestCapture_kept {p : Fin 8} {n : Nat} (h : Kept x s t) : Kept x s (requestCapture k p n t) := by
  have listed : Kept x s (captureIntoList k p n t) :=
    captureLoss_keeps (Kept x s) k (fun _ _ _ => deliver_kept) _ _ (.scanner h)
  unfold requestCapture
  split
  · split
    · exact deliver_kept (.scanner h)
    · exact listed
  · exact listed

/-! ## Bursts -/

theorem driveVector_kept {r : PatternRecord} {n q : Nat} (h : Kept x s t) : Kept x s (driveVector k r n q t) := by
  unfold driveVector
  dsimp only
  split
  · exact requestCapture_kept (h.channelSame rfl)
  · exact h.channelSame rfl

theorem startPass_kept {r : PatternRecord} {n : Nat} (h : Kept x s t) : Kept x s (startPass k r n t) :=
  driveVector_kept (h.channelSame rfl)

theorem vectorBoundary_kept (h : Kept x s t) : Kept x s (vectorBoundary k t) := by
  unfold vectorBoundary
  dsimp only
  split
  · split
    · split
      · exact startPass_kept h
      · exact h
    · exact driveVector_kept h
  · exact h

theorem sampleInstant_kept {g : Fin 4} {b : Byte} (h : Kept x s t) : Kept x s (sampleInstant k g b t) := by
  unfold sampleInstant
  dsimp only
  split
  · exact Kept.compare (Kept.channelSame h rfl) (.inl (by rw [sample_eq]; rfl))
  · exact h

/-- A channel may start a burst where its board is POWERED, as it is where the channel is out of IDLE. -/
abbrev MayStart (k : Slot) (t : State) : Prop := (t.slot k).board = .powered ∨ (t.channel k).state ≠ .idle

theorem startBurst_kept (h : Kept x s t) (hm : Seated k s → MayStart k t) : Kept x s (startBurst k t) := by
  unfold startBurst
  dsimp only
  split
  · exact h
  · exact startPass_kept ((h.channel fun hs _ => hm hs).compare (.inl rfl))

theorem adopt_state (c : Channel) : c.adopt.state = c.state := by
  unfold Channel.adopt
  split <;> rfl

theorem burstPoint_kept (h : Kept x s t) (hm : Seated k s → MayStart k t) : Kept x s (burstPoint k t) := by
  have h1 : Kept x s (t.setChannel k (t.channel k).adopt) := h.channelSame (adopt_state _)
  have hm1 (hs : Seated k s) : MayStart k (t.setChannel k (t.channel k).adopt) := by
    simpa [MayStart, adopt_state] using hm hs
  unfold burstPoint
  dsimp only
  split
  · split
    · exact h1.channel fun hs _ => hm1 hs
    · exact startBurst_kept h1 hm1
  · exact h1

theorem gapExpired_kept (h : Kept x s t) : Kept x s (gapExpired k t) := by
  unfold gapExpired
  dsimp only
  split
  · next hg => exact burstPoint_kept (h.channelSame rfl) fun _ => .inr (by simp [hg.1])
  · exact h

theorem burstVerdicts_kept {r : PatternRecord} {b : BurstConfig} (h : Kept x s t) :
    Kept x s (burstVerdicts k r b t) := by
  refine (completeRecord_kept (h.forSockets (fun i u hu => ?_) _)).compare (.inl rfl)
  obtain ⟨_, e⟩ | ⟨_, d, e⟩ := functionalVerdict_cases k (t.compare k).member r.tolerance b.pattern i u <;> rw [e]
  · exact hu
  · exact reportFailure_kept hu

/-- R82, step 3: the channel goes on from the end of a burst, where its board is POWERED. -/
theorem afterBurst_kept {b : BurstConfig} (h : Kept x s t) (hp : Seated k s → (t.slot k).board = .powered) :
    Kept x s (afterBurst k b t) := by
  have moved (c : Channel) : Kept x s (t.setChannel k c) := h.channel fun hs _ => .inl (hp hs)
  unfold afterBurst
  dsimp only
  split
  · exact burstPoint_kept (moved _) fun hs => .inl (hp hs)
  · exact moved _
  · exact Kept.raise (Kept.slot (moved _) id)
  · exact moved _

theorem atEnd_burst {c : Channel} (h : c.atEnd = true) : c.state = .burst := by
  unfold Channel.atEnd at h
  split at h
  · assumption
  · cases h

theorem burstEnd_kept (s : State) : Kept none s (burstEnd k s) := by
  obtain e | ⟨p, b, hend, _, _, e⟩ := burstEnd_cases k s <;> rw [e]
  · exact .refl none s
  · refine afterBurst_kept (endDeferred_kept (burstVerdicts_kept (.refl none s))) fun hs => ?_
    rw [(endDeferred_slot ..).1, burstVerdicts_slotFields ..|>.1]
    exact hs (by rw [atEnd_burst hend]; decide)

/-! ## Bursts abandoned and channels stopped -/

theorem abandonBurst_kept {cancel : Bool} (h : Kept x s t) : Kept x s (abandonBurst k cancel t) := by
  obtain ⟨_, e⟩ | ⟨_, e⟩ := abandonBurst_cases k cancel t <;> rw [e]
  · exact h
  · refine endDeferred_kept (Kept.slot ?_ id)
    exact Kept.channelIdle (Kept.scanner (Kept.compare h (.inl rfl))) rfl

theorem stopChannel_kept {cancel : Bool} (h : Kept x s t) : Kept x s (stopChannel k cancel t) :=
  (abandonBurst_kept h).channelIdle rfl

theorem dropClosing_kept (h : Kept x s t) : Kept x s (dropClosing k t) := h.compare (.inr fun r e => by cases e)

/-- R20, R89: a board taken down, with its channel stopped. -/
theorem stopChannel_unseated {cancel : Bool} {c : SlotCtl} (h : Kept none s t) :
    Kept none s (stopChannel k cancel (t.setSlot k c)) :=
  (stopChannel_kept (h.unseat k c)).reseat (stopChannel_channel ..).1

theorem takeDown_kept {b : BoardState} {cancel : Bool} (h : Kept none s t) : Kept none s (takeDown k b cancel t) :=
  Kept.throttle (stopChannel_unseated h)

theorem lockOut_kept {cancel : Bool} (h : Kept none s t) : Kept none s (lockOut cancel k t) := by
  obtain ⟨_, e⟩ | ⟨_, e⟩ := lockOut_cases cancel k t <;> rw [e]
  · exact takeDown_kept h
  · exact h

theorem tripBoard_kept {r : Rail} {c : TripCause} (h : Kept none s t) : Kept none s (tripBoard k r c t) := by
  cases hb : (t.slot k).board.checked with
  | false => rw [tripBoard_of_not k r c t hb]; exact h
  | true =>
    obtain ⟨u, hu, e⟩ := tripBoard_of k r c t hb
    have h1 : Kept none s u := hu ▸ (takeDown_kept h).append
    rw [e]
    exact h1.slot id

end

end Sys2Proof.Machine
end


section
/-!
PROOFS. What the steps of boards, rails, the scanner and all four slots keep of `StoreAndLogLegal` and `ChannelsLegal` (R16,
R17, R20, R89, R99, R149, R153, R181).
-/

namespace Sys2Proof.Machine

open Safety

section
variable {x : Option Slot} {k : Slot} {i : Socket} {s t : State}

/-! ## Ramps -/

theorem startRail_kept {r : Rail} (h : Kept x s t) : Kept x s (startRail k r t) := h.slot (by simp)

/-- R22: a ramp starts on a board that is not POWERED. -/
theorem startRamp_kept (h : Kept x s t) (hb : (t.slot k).board ≠ .powered) : Kept x s (startRamp k t) :=
  startRail_kept (h.slot fun e => absurd e hb)

theorem startStep_kept {n : Nat} (h : Kept x s t) : Kept x s (startStep k n t) :=
  Kept.forSockets (fun _ _ => switchOn_kept) _ (h.slot id)

theorem enterPowered_kept (h : Kept x s t) : Kept x s (enterPowered k t) :=
  Kept.forSockets (fun _ _ => switchOn_kept) _ (h.slot fun _ => rfl)

theorem settleCheck_kept {r : Rail} {inside : Bool} (h : Kept x s t) : Kept x s (settleCheck k r inside t) := by
  obtain ⟨_, e⟩ | ⟨_, e⟩ := settleCheck_cases k r inside t <;> rw [e]
  · exact h
  · have h1 (y : RailState) : Kept x s (t.setSlot k ((t.slot k).setRail r y)) := h.slot (by simp)
    obtain e | ⟨m, _, _, _, e⟩ | ⟨m, _, _, _, _, e⟩ := rampAdvance_cases k (t.setSlot k ((t.slot k).setRail r
        { r.of (t.slot k) with cond := .held, settle := none, windowMiss := 0 })) <;> rw [e]
    · exact h1 _
    · exact startRail_kept (Kept.slot (h1 _) id)
    · exact startStep_kept (h1 _)

theorem checkRail_kept {r : Rail} {v c : Nat} (h : Kept none s t) : Kept none s (checkRail k r v c t) := by
  have h1 (y : RailState) : Kept none s (t.setSlot k ((t.slot k).setRail r y)) := h.slot (by simp)
  unfold checkRail
  dsimp only
  split
  · obtain ⟨_, _, e⟩ | ⟨d, n, _, e⟩ := tripByCounts_cases k r _ _ _ <;> rw [e]
    · exact h1 _
    · exact tripBoard_kept (Kept.same (h1 _) rfl)
  · exact settleCheck_kept (h1 _)

theorem settleExpired_kept {r : Rail} (h : Kept none s t) : Kept none s (settleExpired k r t) := by
  unfold settleExpired
  dsimp only
  split
  · exact tripBoard_kept h
  · exact h

theorem dwellExpired_kept (h : Kept x s t) : Kept x s (dwellExpired k t) := by
  unfold dwellExpired
  dsimp only
  split
  · split
    · split
      · exact startStep_kept h
      · exact enterPowered_kept h
    · exact h
  · exact h

/-! ## Drains -/

theorem beginLowering_kept {r : Rail} {last : Bool} (h : Kept x s t) : Kept x s (beginLowering k r last t) :=
  h.slot (by simp)

/-- R25: a drain ends on a board that is not POWERED. -/
theorem railDone_kept {d : Drain} (h : Kept x s t) (hb : (t.slot k).board = .draining) :
    Kept x s (railDone k d t) := by
  have h1 : Kept x s (t.setSlot k ((t.slot k).setRail d.rail Config.railOff)) := h.slot (by simp)
  unfold railDone
  dsimp only
  split
  · exact h1.slot (by simp [hb])
  · exact beginLowering_kept h1

theorem drainSample_kept {r : Rail} {v : Nat} (h : Kept x s t) (hb : (t.slot k).board = .draining) :
    Kept x s (drainSample k r v t) := by
  unfold drainSample
  split
  · split
    · exact railDone_kept h hb
    · exact h
  · exact h

theorem drainExpired_kept (h : Kept x s t) : Kept x s (drainExpired k t) := by
  unfold drainExpired
  dsimp only
  split
  · next d hb _ =>
    split
    · exact railDone_kept h hb
    · exact h
  · exact h

theorem startDrain_kept (h : Kept none s t) : Kept none s (startDrain k t) :=
  beginLowering_kept (.throttle (stopChannel_unseated h))

/-! ## Conversions -/

theorem railSample_kept {r : Rail} {v c : Nat} (h : Kept none s t) : Kept none s (railSample k r v c t) := by
  obtain ⟨_, e⟩ | ⟨hb, e⟩ | e := railSample_cases k r v c t <;> rw [e]
  · exact checkRail_kept h
  · exact drainSample_kept h hb
  · exact h

theorem railArrival_kept {r : Rail} {v : Option Int} (h : Kept none s t) : Kept none s (railArrival k r v t) := by
  unfold railArrival
  split
  · exact railSample_kept (.scanner h)
  · exact h

theorem sampleOn_kept {r : SampleRecord} (h : Kept x s t) : Kept x s (sampleOn k i r t) := by
  unfold sampleOn
  dsimp only
  refine tripEither_kept (Kept.slot ?_ id)
  split
  · exact .record h
  · exact h

theorem socketArrival_kept {v : Option Int} (h : Kept x s t) : Kept x s (socketArrival k i v t) := by
  unfold socketArrival
  split
  · unfold socketSample
    dsimp only
    split
    · exact sampleOn_kept (.scanner h)
    · exact .scanner h
  · exact h

theorem routineResult_kept {p n : Nat} {v : Option Int} (h : Kept none s t) :
    Kept none s (routineResult k p n v t) := by
  unfold routineResult
  split
  iterate 2 exact .scanner h
  iterate 2 exact .scanner (railArrival_kept h)
  split
  · exact .scanner h
  · exact .scanner (socketArrival_kept h)

theorem advanceRound_kept (h : Kept x s t) : Kept x s (advanceRound k t) := by
  unfold advanceRound
  dsimp only
  split
  · exact .scanner h
  · obtain e | ⟨w, e⟩ := roundEndSignal_cases k t <;> rw [e]
    · exact .scanner h
    · exact .scanner (.throttle h)

theorem captureResult_kept {c : CaptureSet} {n : Nat} {v : Option Int} (h : Kept x s t) :
    Kept x s (captureResult k c n v t) := by
  unfold captureResult
  split
  · split
    · exact h
    · exact deliver_kept h
  · exact h

theorem advanceSet_kept {c : CaptureSet} (h : Kept x s t) : Kept x s (advanceSet k c t) := by
  unfold advanceSet
  dsimp only
  split
  · exact .scanner h
  · split
    · exact .scanner h
    · exact deliver_kept (.scanner h)

theorem chooseNext_kept (h : Kept x s t) : Kept x s (chooseNext k t) := by
  unfold chooseNext
  obtain e | ⟨c, e⟩ := beginSet_cases k t <;> rw [e]
  · exact .scanner h
  · exact .scanner (.scanner h)

theorem conversionEnd_kept {v : Option Int} (h : Kept none s t) : Kept none s (conversionEnd k v t) := by
  obtain e | ⟨c, _, ⟨w, _, e⟩ | ⟨_, e⟩⟩ := conversionEnd_cases k v t <;> rw [e]
  · exact h
  · exact chooseNext_kept (advanceSet_kept (captureResult_kept h))
  · refine chooseNext_kept ?_
    unfold routineEnd
    split
    · exact .scanner h
    · exact advanceRound_kept (routineResult_kept h)

theorem riseHoldExpired_kept (h : Kept x s t) : Kept x s (riseHoldExpired k t) := by
  unfold riseHoldExpired
  dsimp only
  split
  · exact .throttle h
  · exact h

theorem fallExpired_kept (h : Kept x s t) : Kept x s (fallExpired k t) := by
  unfold fallExpired
  dsimp only
  split
  · exact .throttle h
  · exact h

/-! ## Presence and identity -/

/-- R2: IDENT is entered from a board that is not POWERED. -/
theorem enterIdent_kept (h : Kept x s t) (hb : (t.slot k).board ≠ .powered) : Kept x s (enterIdent k t) :=
  chooseNext_kept (.scanner (.scanner (h.slot fun e => absurd e hb)))

theorem boardInserted_kept (h : Kept x s t) : Kept x s (boardInserted k t) := by
  unfold boardInserted
  split
  · next hb => exact enterIdent_kept h (by rw [hb]; decide)
  · exact h

theorem boardRemoved_kept (h : Kept none s t) : Kept none s (boardRemoved k t) := by
  have h1 : Kept none s (emptied k t) := Kept.scanner (Kept.slot (dropClosing_kept (takeDown_kept h)) id)
  unfold boardRemoved
  split
  · exact h
  · rw [removeBoard_eq]
    split
    · exact .append h1
    · exact h1

theorem tagBoard_kept {a : Identity} (h : Kept x s t) : Kept x s (tagBoard k a t) := by
  obtain ⟨_, e⟩ | ⟨_, e⟩ | ⟨old, _, _, e⟩ := tagBoard_cases k a t <;> rw [e]
  · exact h.same rfl
  · exact h
  · have h1 : Kept x s (setTag k a (zeroRecords k t)) := h.same rfl
    have h2 : Kept x s (retagSet k a old t) := Kept.append (Kept.compare h1 (.inl rfl))
    exact Kept.channelSame (Kept.slot h2 id) rfl

/-- R3, R4: an identity read ends on a board in IDENT. -/
theorem identityAnswer_kept {a : Identity} {d : Descriptor} (h : Kept x s t) : Kept x s (identityAnswer k a d t) := by
  unfold identityAnswer
  split
  · next hb =>
    have h1 : Kept x s (recordAnswer k a d t) := h.slot fun e => absurd (hb.symm.trans e) (by decide)
    dsimp only
    split
    · exact Kept.slot (tagBoard_kept h1) id
    · exact h1
  · exact h

theorem identityTimeout_kept (h : Kept x s t) : Kept x s (identityTimeout k t) := by
  unfold identityTimeout
  dsimp only
  split
  · next hb => exact h.slot fun e => absurd (hb.1.symm.trans e) (by decide)
  · exact h

/-! ## All four slots -/

theorem safeEntry_kept {c : SafeCause} {d : List Byte} (h : Kept none s t) : Kept none s (safeEntry c d t) :=
  .raise (.append (forSlots_invariant (Kept none s) _ (fun _ _ => lockOut_kept) _ (h.same rfl)))

theorem commitBlocks_kept (k : Slot) (t : State) (h : Kept none s t) : Kept none s (commitBlocks k t) := by
  have hl : Kept none s (lockOut true k t) := lockOut_kept h
  refine dropClosing_kept (stopChannel_kept ?_)
  unfold commitSlot
  dsimp only
  split
  · next hb => exact hl.slot fun e => absurd (hb.symm.trans e) (by decide)
  · exact hl

/-- R181: a commit copies a log of at most 256 entries. -/
theorem writeImage_kept (h : Kept x s t) : Kept x s (writeImage t) := by
  refine ⟨fun hs => ?_, h.waits, h.seats⟩
  obtain ⟨hstore, hlog, _⟩ := h.legal hs
  exact ⟨hstore, hlog, hlog⟩

theorem commitShared_kept {kept : Bool} (h : Kept x s t) : Kept x s (commitShared kept t) :=
  writeImage_kept (h.same rfl)

theorem commitStart_kept {kept : Bool} (h : Kept none s t) : Kept none s (commitStart kept t) :=
  commitStart_eq kept t ▸ commitShared_kept (forSlots_invariant (Kept none s) _ commitBlocks_kept t h)

theorem zoneResetSlot_kept (k : Slot) (t : State) (h : Kept none s t) : Kept none s (zoneResetSlot k t) :=
  .scanner (Kept.slot (dropClosing_kept (.throttle (stopChannel_kept (lockOut_kept h)))) id)

theorem logCompare_kept (h : Kept x s t) : Kept x s (logCompare t) :=
  h.same (by simp [legalView])

theorem zoneResetShared_kept (h : Kept x s t) : Kept x s (zoneResetShared t) := h.same rfl

theorem serveZoneReset_kept (h : Kept none s t) : Kept none s (serveZoneReset t).state := by
  by_cases hz : t.zone.state = .safe
  · rw [serveZoneReset_of_safe hz]
    exact h
  · rw [serveZoneReset_of_not_safe hz]
    have h1 : Kept none s (forSlots zoneResetSlot t) := forSlots_invariant (Kept none s) _ zoneResetSlot_kept t h
    generalize forSlots zoneResetSlot t = u at h1 ⊢
    exact logCompare_kept (zoneResetShared_kept h1)

end

end Sys2Proof.Machine
end


section
/-!
PROOFS. What the requests keep of `StoreAndLogLegal` (R57, R58, R149, R153, R158) and of `ChannelsLegal` (R67, R73, R89, R99).
-/

namespace Sys2Proof.Machine

open Safety

/-! ## Slots and records named by a request -/

section
variable {x : Option Slot} {k : Slot} {n : Nat} {s t : State}

theorem withSlot_kept {f : Slot → Served} (h : Kept x s t) (hf : ∀ k, Kept x s (f k).state) :
    Kept x s (withSlot t n f).state := by
  unfold withSlot
  split
  · exact hf _
  · exact h

theorem withRecord_kept {f : Fin 32 → Served} (h : Kept x s t) (hf : ∀ r, Kept x s (f r).state) :
    Kept x s (withRecord t n f).state := by
  unfold withRecord
  split
  · exact h
  · exact hf _

/-! ## Boards -/

/-- R22: a power-up starts on a PRESENT board. -/
theorem serveBoardPowerUp_kept (h : Kept none s t) : Kept none s (serveBoardPowerUp n t).state := by
  refine withSlot_kept h fun k => ?_
  dsimp only
  split
  · exact h
  · split
    · exact h
    · split
      · next hb =>
        split
        · exact startRamp_kept h (by rw [hb]; decide)
        · exact h
      all_goals exact h

theorem serveBoardPowerDown_kept (h : Kept none s t) : Kept none s (serveBoardPowerDown n t).state := by
  refine withSlot_kept h fun k => ?_
  split
  iterate 4 exact h
  all_goals exact startDrain_kept h

theorem stageItems_kept {l : List StageItem} (h : Kept x s t) : Kept x s (stageItems k l t).state := by
  unfold stageItems
  dsimp only
  split
  · exact h
  · split
    · exact h
    · exact h.slot id

theorem serveBoardStage_kept {l : List StageItem} (h : Kept x s t) : Kept x s (serveBoardStage n l t).state := by
  unfold serveBoardStage
  dsimp only
  split
  · exact h
  · split
    · exact h
    · refine withSlot_kept h fun k => ?_
      split
      iterate 2 exact h
      all_goals exact stageItems_kept h

theorem applyBoard_kept (h : Kept x s t) : Kept x s (applyBoard k t).state := by
  unfold applyBoard
  dsimp only
  split
  · exact h
  · split
    · exact h
    · split
      · exact h.slot id
      · exact takeApply_kept h

theorem serveBoardApply_kept (h : Kept x s t) : Kept x s (serveBoardApply n t).state := by
  refine withSlot_kept h fun k => ?_
  split
  iterate 2 exact h
  all_goals exact applyBoard_kept h

theorem serveBoardStatus_kept (h : Kept x s t) : Kept x s (serveBoardStatus n t).state := by
  refine withSlot_kept h fun k => ?_
  split
  · exact h
  · exact h.slot id

/-! ## Sockets -/

theorem socketSetChecks_kept {l : List Nat} {f : Slot → Served} (h : Kept x s t) (hf : ∀ k, Kept x s (f k).state) :
    Kept x s (socketSetChecks n l t f).state := by
  unfold socketSetChecks
  split
  · exact h
  · refine withSlot_kept h fun k => ?_
    split
    iterate 2 exact h
    all_goals exact hf k

theorem serveSocketSet_kept {act : Slot → Socket → State → State} {l : List Nat}
    (ha : ∀ k i u, Kept x s u → Kept x s (act k i u)) (h : Kept x s t) :
    Kept x s (serveSocketSet act n l t).state := by
  refine socketSetChecks_kept h fun k => ?_
  split
  · exact h
  · exact h.forSockets (ha k) _

theorem serveSocketStatus_kept {l : List Nat} (h : Kept x s t) : Kept x s (serveSocketStatus n l t).state := by
  unfold serveSocketStatus
  split
  · exact h
  · refine withSlot_kept h fun k => ?_
    split
    · exact h
    · split <;> exact h

/-! ## Bursts -/

/-- R76, R79: a configuration starts a burst on a channel in WAIT. -/
theorem setBurstConfig_kept {b : BurstConfig} (h : Kept x s t) : Kept x s (setBurstConfig k b t).state := by
  unfold setBurstConfig
  dsimp only
  split
  iterate 2 exact h.channelSame rfl
  · next hw =>
    split
    · exact h
    · dsimp only [reply]
      split
      · exact h.channelSame rfl
      · exact startBurst_kept (h.channelSame rfl) fun _ => .inr (by simp [hw])
  all_goals
    split
    · exact h
    · exact h.channelSame rfl

theorem serveBurstConfigSet_kept {p m c g : Nat} (h : Kept x s t) :
    Kept x s (serveBurstConfigSet n p m c g t).state := by
  refine withSlot_kept h fun k => ?_
  split
  · exact h
  · split
    · exact h
    · exact setBurstConfig_kept h

/-- R78: EXERCISE-START reaches the point of a burst on a POWERED board. -/
theorem serveExerciseStart_kept (h : Kept x s t) : Kept x s (serveExerciseStart n t).state := by
  refine withSlot_kept h fun k => ?_
  dsimp only
  split
  · exact h
  · split
    · exact h
    · split
      · exact h
      · next hb =>
        have hp : (t.slot k).board = .powered := not_not.mp hb
        split
        iterate 3 exact h
        iterate 2
          split
          · exact h
          · exact burstPoint_kept h fun _ => .inl hp

theorem serveExerciseStop_kept (h : Kept x s t) : Kept x s (serveExerciseStop n t).state := by
  refine withSlot_kept h fun k => ?_
  split
  · exact h
  · exact stopChannel_kept h

/-- R77: the configuration that is dropped leaves the channel's state. -/
theorem dropUndefined_state (k : Slot) (s : State) : ((dropUndefined k s).channel k).state = (s.channel k).state := by
  unfold dropUndefined
  split
  · rw [State.setChannel_channel_same]
  · rfl

theorem dropUndefined_keeps (h : Kept x s t) : Kept x s (dropUndefined k t) := by
  unfold dropUndefined
  split
  · exact h.channelSame rfl
  · exact h

/-- R85, R86, R88: a trigger starts a burst from WAIT, or restarts one, whose board is POWERED as the channel is out of
IDLE. -/
theorem serveBurstTrigger_kept (s : State) : Kept none s (serveBurstTrigger n s).state := by
  have h := Kept.refl none s
  refine withSlot_kept h fun k => ?_
  dsimp only
  split
  · exact h
  · split
    · exact h
    · split
      · next hw => exact startBurst_kept (dropUndefined_keeps h) fun _ => .inr (by simp [dropUndefined_state, hw])
      · next hb =>
        split
        · split
          · refine startBurst_kept (abandonBurst_kept h) fun hs => .inl ?_
            obtain ⟨_, hboard, _⟩ := abandonBurst_switchesKept k false s
            exact hboard.trans (hs (by simp [hb]))
          · exact h
        · exact h
      all_goals exact h

end

/-! ## The store and the log -/

section
variable {x : Option Slot} {n : Nat} {s t : State}

/-- R58: a run within the store keeps the canonical form. -/
theorem servePatternLoad_kept {l : List RawVector} (h : Kept x s t) : Kept x s (servePatternLoad n l t).state := by
  unfold servePatternLoad
  dsimp only
  split
  · exact h
  · split
    · exact h
    · next hr =>
      obtain ⟨_, hend, _⟩ := not_or.mp hr |>.imp_right not_or.mp
      split
      · exact h
      · refine ⟨fun hs => ?_, h.waits, h.seats⟩
        obtain ⟨hstore, hlog, himage⟩ := h.legal hs
        exact ⟨t.store.writeRun_wf n _ hstore (by rw [List.length_map]; exact Nat.le_of_not_lt hend), hlog, himage⟩

/-- R60, R61: the records are no part of the canonical form. -/
theorem Kept.pattern {r : Fin 32} {d : Option PatternRecord} (h : Kept x s t) : Kept x s (t.setPattern r d) :=
  ⟨h.legal, h.waits, h.seats⟩

/-- R158: retired entries leave the log. -/
theorem serveLogRetire_kept (h : Kept x s t) : Kept x s (serveLogRetire n t).state := by
  unfold serveLogRetire
  dsimp only
  split
  · exact h
  · refine ⟨fun hs => ?_, h.waits, h.seats⟩
    obtain ⟨hstore, hlog, himage⟩ := h.legal hs
    exact ⟨hstore, Nat.le_trans (by simp [reply, FailLog.retire]) hlog, himage⟩

end

/-! ## The catalogue -/

/-- Every request of the catalogue keeps the two properties; those that are not of boards, sockets, channels, the store or
the log leave the blocks that they speak of. -/
theorem Request.kept {f : State → Served} (h : Request f) (s : State) : Kept none s (f s).state := by
  have hs : Kept none s s := .refl none s
  cases h with
  | identify | logStatus | clockStatus | refused => exact hs
  | zoneReset => exact serveZoneReset_kept hs
  | zoneSetpoint =>
    unfold serveZoneSetpoint
    dsimp only
    split
    · exact hs
    · split
      · exact hs
      · split
        · exact hs
        · exact hs.same rfl
  | zoneTune =>
    unfold serveZoneTune
    split
    · exact hs
    · split
      · exact hs
      · split
        · exact hs
        · exact hs.same rfl
  | zoneCool =>
    unfold serveZoneCool
    split
    iterate 3 exact hs
    all_goals exact hs.same rfl
  | zoneAbort =>
    unfold serveZoneAbort
    split
    · exact hs
    · exact safeEntry_kept hs
  | zoneStatus | weightsSet | snapshotRelease | clockClear => exact hs.same rfl
  | boardPowerUp => exact serveBoardPowerUp_kept hs
  | boardPowerDown => exact serveBoardPowerDown_kept hs
  | boardStage => exact serveBoardStage_kept hs
  | boardApply => exact serveBoardApply_kept hs
  | boardStatus => exact serveBoardStatus_kept hs
  | socketSetMask => exact serveSocketSet_kept (fun _ _ _ => maskSocket_kept) hs
  | socketSetUnmask => exact serveSocketSet_kept (fun _ _ _ => unmaskSocket_kept) hs
  | socketSetReinstate => exact serveSocketSet_kept (fun _ _ _ => reinstateSocket_kept) hs
  | socketSetOther => exact socketSetChecks_kept hs fun _ => hs
  | socketStatus => exact serveSocketStatus_kept hs
  | patternLoad => exact servePatternLoad_kept hs
  | patternDefineWrite =>
    refine withRecord_kept hs fun r => ?_
    split
    · exact hs
    · split
      · exact hs
      · exact Kept.pattern hs
  | patternDefineClear =>
    refine withRecord_kept hs fun r => ?_
    split
    · exact hs
    · exact Kept.pattern hs
  | patternDefineQuery => exact withRecord_kept hs fun _ => hs
  | burstConfigSet => exact serveBurstConfigSet_kept hs
  | burstConfigQuery | burstConfigOther => exact withSlot_kept hs fun k => by split <;> exact hs
  | exerciseStart => exact serveExerciseStart_kept hs
  | exerciseStop => exact serveExerciseStop_kept hs
  | burstTrigger => exact serveBurstTrigger_kept s
  | accelTableLoad =>
    unfold serveAccelTableLoad
    split
    · exact hs
    · split
      · exact hs
      · exact hs.same rfl
  | accountSnapshot =>
    unfold serveAccountSnapshot
    split
    · exact hs.same rfl
    all_goals exact hs
  | accountRead =>
    unfold serveAccountRead
    split
    · exact hs
    · split
      iterate 2 exact hs
      exact hs.same rfl
  | accountClear =>
    refine withSlot_kept hs fun k => ?_
    split
    · exact hs
    · exact Kept.compare (Kept.same hs rfl) (.inl rfl)
  | logRead =>
    unfold serveLogRead
    split <;> exact hs
  | logRetire => exact serveLogRetire_kept hs
  | alertMask =>
    unfold serveAlertMask
    split
    · exact hs
    · exact hs.same rfl
  | alertConfig =>
    unfold serveAlertConfig
    split
    · exact hs.same rfl
    · exact hs
  | alertPoll =>
    unfold serveAlertPoll
    split
    · exact hs.same rfl
    · exact hs
  | alertDone =>
    unfold serveAlertDone
    split
    · exact hs
    · split
      · exact hs.same rfl
      · exact hs

/-- R187, R189: a frame taken runs its request and answers with a reply. -/
theorem takeRequest_kept {kind : Byte} {serve : State → Served} {s : State} (h : Request serve) :
    Kept none s (takeRequest kind serve s) := by
  have hr : Kept none s (received s) := Kept.same (.refl none s) rfl
  obtain ⟨_, e⟩ | ⟨_, _, e⟩ | ⟨_, l, e⟩ := takeRequest_cases kind serve s <;> rw [e]
  · exact .refl none s
  · exact hr
  · exact Kept.same (hr.trans (h.kept (received s))) rfl

end Sys2Proof.Machine
end


section
/-!
PROOFS. Every step keeps `StoreAndLogLegal` (R57, R149, R153, R181), and `ChannelsLegal` (R67, R73, R89, R99, R184) where no
board is powered while the part does not run.
-/

namespace Sys2Proof.Machine

open Safety

/-! ## The link and the reference -/

section
variable {x : Option Slot} {k : Slot} {s t u : State}

theorem whenRunning_kept {f : State → State} (h : Kept x s t) (hf : Kept x s (f t)) : Kept x s (whenRunning f t) := by
  unfold whenRunning
  split
  · exact hf
  · exact h

theorem discardFrame_kept (h : Kept x s t) : Kept x s (discardFrame t) := h.same rfl

theorem takeFrame_kept {kind : Byte} {p : List Byte} (h : Kept none s t) : Kept none s (takeFrame kind p t) := by
  obtain ⟨serve, hr, e⟩ := takeFrame_request kind p t
  rw [e]
  exact h.trans (takeRequest_kept hr)

theorem receiveByte_kept {b : List Byte} (h : Kept none s t) : Kept none s (receiveByte b t) := by
  have h1 : Kept none s { t with link.buffer := b } := h.same rfl
  unfold receiveByte
  dsimp only
  split
  · exact discardFrame_kept h1
  · split
    · exact discardFrame_kept h1
    · split
      · unfold frameArrived
        dsimp only
        split
        · exact takeFrame_kept h1
        · exact discardFrame_kept h1
      · exact h1

theorem byteArrived_kept {b : Byte} {stop : Bool} (h : Kept none s t) : Kept none s (byteArrived b stop t) := by
  unfold byteArrived
  split
  · split
    · exact h.same rfl
    · exact h
  · split
    · exact receiveByte_kept h
    · exact discardFrame_kept h

theorem beginAlert_kept (h : Kept x s t) : Kept x s (beginAlert t) := by
  unfold beginAlert
  split
  all_goals exact h.same rfl

theorem frameSent_kept (h : Kept x s t) : Kept x s (frameSent t) := by
  unfold frameSent
  split
  · exact h
  · refine whenRunning_kept (h.same rfl) ?_
    unfold sendNext
    split
    · exact h.same rfl
    · exact beginAlert_kept (h.same rfl)

theorem zoneWork_kept (h : Kept x s t) : Kept x s (zoneWork t) := by
  unfold zoneWork raiseIf
  dsimp only
  split <;> exact h.same rfl

theorem controlInterval_kept {p q : Option Int} (h : Kept none s t) : Kept none s (controlInterval p q t) := by
  unfold controlInterval
  split
  · have h1 : Kept none s { t with zone := { t.zone.readSensors p q with interval := some 1 } } := h.same rfl
    dsimp only
    split
    · exact zoneWork_kept h1
    · exact safeEntry_kept h1
    · exact zoneWork_kept h1
  · exact h

theorem accountInterval_kept (h : Kept x s t) : Kept x s (accountInterval t) := by
  unfold accountInterval
  split
  · dsimp only
    rw [captureSnapshot_frame]
    exact h.same rfl
  · exact h

/-- The references count in the blocks of the slots, and leave each board and each channel's state. -/
theorem Kept.mapped {f : SlotCtl → SlotCtl} {g : Channel → Channel} (h : Kept x s t)
    (e : legalView u = legalView { t with slots := t.slots.map f, chan := t.chan.map g })
    (hf : ∀ c, (f c).board = c.board) (hg : ∀ c, (g c).state = c.state) : Kept x s u := by
  refine Kept.same (t := { t with slots := t.slots.map f, chan := t.chan.map g }) ⟨h.legal, h.waits, fun k hk hs => ?_⟩ e
  unfold Seated State.channel State.slot
  rw [PerSlot.get_map, PerSlot.get_map, hf, hg]
  exact h.seats k hk hs

theorem tickMs_kept (h : Kept x s t) : Kept x s (tickMs t) :=
  Kept.mapped h (u := tickMs t) rfl (fun _ => rfl) fun _ => rfl

theorem tickSec_kept (h : Kept x s t) : Kept x s (tickSec t) := by
  unfold tickSec
  split
  · exact Kept.mapped (g := id) h rfl (fun _ => rfl) fun _ => rfl
  · exact h

theorem raiseClock_kept (h : Kept x s t) : Kept x s (raiseClock t) := by
  unfold raiseClock
  split
  · exact h.same rfl
  · exact h

theorem whileHoldover_kept {f : State → State} (h : Kept x s t) (hf : Kept x s (f t)) :
    Kept x s (whileHoldover f t) := by
  unfold whileHoldover
  split
  · exact hf
  · exact h

theorem holdoverDetected_kept (h : Kept x s t) : Kept x s (holdoverDetected t) := by
  unfold holdoverDetected
  split
  · exact raiseClock_kept (h.same rfl)
  · exact h

theorem qualified_kept (h : Kept x s t) : Kept x s (qualified t) := by
  unfold qualified
  split
  · exact raiseClock_kept (h.same rfl)
  · exact h

/-! ## Power -/

/-- R57, R67, R153: without a supply the store and the log are empty and the channels IDLE; the retained image stays. -/
theorem blank_kept {p : Phase} (h : Kept x s t) : Kept x s (blank p t) := by
  refine ⟨fun hs => ?_, fun k _ => ?_, fun k _ _ hc => absurd ?_ hc⟩
  · obtain ⟨_, _, himage⟩ := h.legal hs
    exact ⟨rfl, Nat.zero_le _, himage⟩
  · exact closingWaits_of_none (by cases k <;> rfl)
  · cases k <;> rfl

theorem start_kept (h : Kept x s t) : Kept x s (start t) := blank_kept h

theorem powerFail_kept (h : Kept none s t) : Kept none s (powerFail t) := by
  unfold powerFail
  split
  · exact commitStart_kept h
  · exact h.same rfl
  all_goals exact h

theorem resetAsserted_kept (h : Kept none s t) : Kept none s (resetAsserted t) := by
  unfold resetAsserted
  split
  · exact commitStart_kept h
  iterate 2 exact h.same rfl
  all_goals exact h

theorem resetReleased_kept (h : Kept x s t) : Kept x s (resetReleased t) := by
  unfold resetReleased
  split
  iterate 2 exact start_kept h
  all_goals exact h

theorem commitComplete_kept (h : Kept x s t) : Kept x s (commitComplete t) := by
  unfold commitComplete
  split
  · have h1 : Kept x s { t with ret := { t.ret with checksum := some t.ret.image, mark := true }
                                part.phase := .retained } := h.same rfl
    dsimp only
    split
    · exact start_kept h1
    · exact h1
  · exact h

/-! ## The end of the retention check -/

/-- R183: the retained log, which the image holds within its bound. -/
theorem restoreImage_kept (h : Kept x s t) : Kept x s (restoreImage t.ret.image t) := by
  refine ⟨fun hs => ?_, h.waits, h.seats⟩
  obtain ⟨hstore, _, himage⟩ := h.legal hs
  exact ⟨hstore, himage, himage⟩

theorem loseImage_kept (h : Kept x s t) : Kept x s (loseImage t) := by
  refine ⟨fun hs => ?_, h.waits, h.seats⟩
  obtain ⟨hstore, _, himage⟩ := h.legal hs
  exact ⟨hstore, Nat.zero_le _, himage⟩

theorem closeCheck_kept (h : Kept x s t) : Kept x s (closeCheck t) := Kept.same (logCompare_kept h) rfl

theorem checkOutcome_kept (h : Kept x s t) : Kept x s (checkOutcome t) := by
  by_cases hv : t.ret.valid = true
  · rw [checkOutcome_valid_eq hv]
    exact closeCheck_kept (Kept.append (restoreImage_kept h))
  · rw [checkOutcome_lost_eq hv]
    exact closeCheck_kept (Kept.append (loseImage_kept h))

theorem runningStart_legal (h : StoreAndLogLegal s) : StoreAndLogLegal (runningStart s) := by
  obtain ⟨_, _, hstore, _, hret, hlog, _⟩ := runningStart_started s
  rwa [StoreAndLogLegal, hstore, hret, hlog]

theorem AllDown.not_powered (hd : AllDown s) (k : Slot) : (s.slot k).board ≠ .powered := fun e => by
  have hk := hd k
  rw [e] at hk
  cases hk

theorem findBoard_kept (h : Kept x s t) (hb : (t.slot k).board ≠ .powered) : Kept x s (findBoard k t) := by
  unfold findBoard
  split
  · exact enterIdent_kept h hb
  · exact h

theorem findBoard_down (hd : AllDown s) : AllDown (findBoard k s) := by
  unfold findBoard
  split
  · obtain ⟨hb, _⟩ := enterIdent_slot k s
    intro j
    by_cases hj : j = k
    · rw [hj, hb]; rfl
    · rw [(enterIdent_slotFrame k s).slot_ne hj]; exact hd j
  · exact hd

theorem runningShared_kept (h : Kept x s t) : Kept x s (runningShared t) := h.same rfl

/-- R15, R184: each board found enters IDENT, which unseats no channel where no board was POWERED. -/
theorem runningStart_kept (h : Kept none s t) (hd : AllDown t) : Kept none s (runningStart t) := by
  rw [runningStart_eq]
  obtain ⟨hkept, _⟩ := forSlots_invariant (fun u => Kept none s u ∧ AllDown u) findBoard
    (fun k u ⟨hu, hdown⟩ => ⟨findBoard_kept hu (hdown.not_powered k), findBoard_down hdown⟩) (runningShared t)
    ⟨runningShared_kept h, hd⟩
  exact hkept

theorem retentionCheckEnd_legal (hs : StoreAndLogLegal s) : StoreAndLogLegal (retentionCheckEnd s) := by
  have h1 : StoreAndLogLegal (runningStart (checkOutcome s)) :=
    runningStart_legal ((checkOutcome_kept (.refl none s)).legal hs)
  unfold retentionCheckEnd
  dsimp only
  split
  · split
    · exact (commitStart_kept (.refl none _)).legal h1
    · exact h1
  · exact hs

/-- R184: while the check runs no board is powered. -/
theorem retentionCheckEnd_kept (hs : SocketsSafe s) : Kept none s (retentionCheckEnd s) := by
  unfold retentionCheckEnd
  dsimp only
  split
  · next hphase =>
    obtain ⟨hdown, _⟩ := (socketsSafe_iff s).mp hs
    have hd : AllDown s := hdown fun hm => absurd (hm.1.symm.trans hphase) (by decide)
    have h1 : Kept none s (runningStart (checkOutcome s)) :=
      runningStart_kept (checkOutcome_kept (.refl none s)) fun k => by
        rw [State.slot, checkOutcome_slots]
        exact hd k
    split
    · exact commitStart_kept h1
    · exact h1
  · exact .refl none s

/-! ## Every step -/

/-- Every command but the end of the check. -/
theorem exec_kept {i : Instr} (hi : i ≠ .retentionCheckEnd) (h : exec i s = .next t) : Kept none s t := by
  have hs : Kept none s s := .refl none s
  cases hf : requestFrame i with
  | some f =>
    obtain e | ⟨kind, serve, hr, e⟩ := exec_request i f hf s
    · rw [e] at h
      injection h with h
      exact h ▸ whenRunning_kept hs (discardFrame_kept hs)
    · rw [e] at h
      injection h with h
      exact h ▸ takeRequest_kept hr
  | none =>
    have running {f : State → State} (hk : Kept none s (f s)) : Kept none s (whenRunning f s) := whenRunning_kept hs hk
    cases i
    all_goals simp only [requestFrame, reduceCtorEq] at hf
    all_goals
      injection h with h
      subst h
    case frameDiscarded => exact running (discardFrame_kept hs)
    case receiveTimeout =>
      refine running ?_
      split
      · exact discardFrame_kept hs
      · exact hs
    case frameSent => exact frameSent_kept hs
    case alertFrame => exact running (beginAlert_kept hs)
    case boardInserted k =>
      have h1 : Kept none s (setPresent k true s) := hs.same rfl
      exact whenRunning_kept h1 (boardInserted_kept h1)
    case boardRemoved k =>
      have h1 : Kept none s (setPresent k false s) := hs.same rfl
      exact whenRunning_kept h1 (boardRemoved_kept h1)
    case identityAnswer k a d => exact running (identityAnswer_kept hs)
    case identityTimeout k => exact running (identityTimeout_kept hs)
    case settleLimitExpiry k r => exact running (settleExpired_kept hs)
    case inrushDwellExpiry k => exact running (dwellExpired_kept hs)
    case drainLimitExpiry k => exact running (drainExpired_kept hs)
    case switchFault k n a =>
      have h1 : Kept none s (setSwitchFault k n a s) := hs.same rfl
      split
      · exact whenRunning_kept h1 (tripSocket_kept h1)
      · exact h1
    case retryExpiry k n => exact running (retryExpired_kept hs)
    case conversionEnd k v => exact running (conversionEnd_kept hs)
    case riseHoldExpiry k => exact running (riseHoldExpired_kept hs)
    case throttleFallExpiry k => exact running (fallExpired_kept hs)
    case vectorBoundary k => exact running (vectorBoundary_kept hs)
    case burstEnd k => exact running (burstEnd_kept s)
    case gapExpiry k => exact running (gapExpired_kept hs)
    case controlInterval p q => exact running (controlInterval_kept hs)
    case accountIntervalExpiry => exact running (accountInterval_kept hs)
    case reference1ms => exact running (tickMs_kept hs)
    case reference1s => exact running (tickSec_kept hs)
    case holdoverDetection => exact holdoverDetected_kept hs
    case qualificationStart | qualificationFail => exact whileHoldover_kept hs (hs.same rfl)
    case qualificationSuccess => exact whileHoldover_kept hs (qualified_kept hs)
    case powerFailAssert level =>
      have h1 : Kept none s { s with lines.powerFail := level } := hs.same rfl
      dsimp only
      split
      · exact powerFail_kept h1
      · exact h1
    case resetAssert => exact resetAsserted_kept (hs.same rfl)
    case commitComplete => exact commitComplete_kept hs
    case resetRelease =>
      split
      · exact resetReleased_kept (hs.same rfl)
      · exact hs
    case powerOnReset => exact start_kept (hs.same rfl)
    case powerLoss => exact blank_kept hs
    case backupSupplyLoss => exact hs.same rfl
    case retentionCheckEnd => exact absurd rfl hi
    case sampleInstant k g b => exact running (sampleInstant_kept hs)
    case byteArrival b stop => exact running (byteArrived_kept hs)

theorem exec_retentionCheckEnd (h : exec .retentionCheckEnd s = .next t) : t = retentionCheckEnd s := by
  injection h with h
  exact h.symm

theorem exec_legal {i : Instr} (hs : StoreAndLogLegal s) (h : exec i s = .next t) : StoreAndLogLegal t := by
  by_cases hi : i = .retentionCheckEnd
  · subst hi
    exact exec_retentionCheckEnd h ▸ retentionCheckEnd_legal hs
  · exact (exec_kept hi h).legal hs

theorem exec_channels {i : Instr} (hsafe : SocketsSafe s) (hs : ChannelsLegal s) (h : exec i s = .next t) :
    ChannelsLegal t := by
  by_cases hi : i = .retentionCheckEnd
  · subst hi
    exact exec_retentionCheckEnd h ▸ (retentionCheckEnd_kept hsafe).channels hs
  · exact (exec_kept hi h).channels hs

end

/-- Settles O55: a step is the front command on the state with the queue's rest. The store changes by runs of vectors within
it, the log by appends, retires and the check, which takes it from the retained image, and the image by a commit, which
takes it from the log. -/
theorem everyStepKeepsStoreAndLogLegal : Obligations.EveryStepKeepsStoreAndLogLegal := by
  intro s t hs h
  unfold step at h
  split at h
  · injection h with h
    exact h ▸ hs
  · refine exec_legal ?_ h
    exact hs

/-- Settles O60: a board leaves POWERED only as its channel stops, and a channel leaves IDLE only on a POWERED board; a
closing record is looked at whenever it changes. The start of the running part, which puts each board found in IDENT, finds
none POWERED. -/
theorem everyStepKeepsChannelsLegal : Obligations.EveryStepKeepsChannelsLegal := by
  intro s t hsafe hs h
  unfold step at h
  split at h
  · injection h with h
    exact h ▸ hs
  · refine exec_channels ?_ ?_ h
    · exact socketsSafe_of_slots hsafe rfl id
    · exact hs

end Sys2Proof.Machine
end


section
/-!
PROOFS. BURST-CONFIG, EXERCISE-START and the end of a gap (R75 to R79, R83, R96).
-/

namespace Sys2Proof.Machine

open Safety

/-! ## Requests answered in a changed state -/

/-- R186, R188: a request taken by a part that is ready, whose rule replies in a state that has the link as it was. -/
theorem takeRequest_reply {kind : Byte} {serve : State → Served} {s u : State} {st : Status} {contents : List Byte}
    (h : Ready s) (hs : serve (received s) = reply u st contents) (hl : u.link = (received s).link) :
    takeRequest kind serve s = replied kind (u8 st.code ++ contents) u := by
  have hnext := takeRequest_next kind serve s h (by rw [hs]; exact hl)
  rwa [hs] at hnext

/-! ## Starts under a channel's configuration -/

section Starts
variable {k : Slot} {x : Channel} {b : BurstConfig} {rec : PatternRecord} {s : State}

/-- R79, R96: a burst started under another channel is seen, but for the channel, from the state before the change. -/
theorem startBurst_setChannel (hx : x.adopt.active = some b) (hr : s.store.records.get b.pattern = some rec)
    (hw : ClosingWaits k s) :
    let t := startBurst k (s.setChannel k x)
    BurstStarted k b rec s t ∧ BurstFrame k s t ∧ (t.channel k).gap = x.gap := by
  have hb : ((s.setChannel k x).channel k).adopt.active = some b := by rwa [State.setChannel_channel_same]
  have hunjudged := (startBurst_unjudged (s := s.setChannel k x) hb hr hw).1
  obtain ⟨hslots, hlog, hacct, halert⟩ := startBurst_burstFrame (s := s.setChannel k x) hb hr hw
  refine ⟨?_, ⟨?_, by simp, fun _ => ⟨congrArg (·.get k) hslots, hacct, hlog, halert⟩⟩, ?_⟩
  · exact burstStarted_congr (hunjudged.started (begun_started k b rec _)) rfl rfl (fun _ => rfl) rfl
  · exact (State.setChannel_slotFrame s k x).trans (startBurst_slotFrame k _)
  · have hch : (startBurst k (s.setChannel k x)).channel k = (begun k b rec (s.setChannel k x)).channel k :=
      congrArg (·.get k) hunjudged.chan
    rw [hch]
    simp [begun]

/-- R77: a burst-start point in a mode other than TRIGGERED is such a start. -/
theorem burstPoint_started (hx : x.adopt.active = some b) (hm : b.mode ≠ .triggered)
    (hr : s.store.records.get b.pattern = some rec) (hw : ClosingWaits k s) :
    let t := burstPoint k (s.setChannel k x)
    BurstStarted k b rec s t ∧ BurstFrame k s t ∧ (t.channel k).gap = x.gap := by
  have hgap : x.adopt.gap = x.gap := by rw [adopt_eq]
  have hadopted : x.adopt.adopt.active = some b := by rwa [adopt_adopt]
  rw [burstPoint_start (by rwa [State.setChannel_channel_same]) hm, State.setChannel_setChannel,
    State.setChannel_channel_same, ← hgap]
  exact startBurst_setChannel hadopted hr hw

end Starts

/-- R77: the configuration a burst-start point makes active. -/
theorem adopt_active {c : Channel} {b : BurstConfig} (h : c.pending = some b ∨ (c.pending = none ∧ c.active = some b)) :
    c.adopt.active = some b := by
  obtain hp | ⟨hp, ha⟩ := h
  · exact adopt_pending hp
  · rw [adopt_none hp, ha]

/-! ## The fields of a SET -/

@[simp] theorem BurstMode.ofCode_code (m : BurstMode) : BurstMode.ofCode m.code = some m := by
  cases m <;> rfl

theorem BurstMode.ofCode_above {n : Nat} (h : 3 < n) : BurstMode.ofCode n = none := by
  unfold BurstMode.ofCode
  split
  case h_5 => rfl
  all_goals omega

theorem burstConfigOf_inRange (r : Fin 32) (m : BurstMode) {n g : Nat} (hn : 1 ≤ n) (hg : 1 ≤ g) :
    burstConfigOf r.val m.code n g = some ⟨r, m, n, g⟩ := by
  have hr : Fin.ofNat 32 r.val = r := Fin.ofNat_val_eq_self r
  have hrange : ¬ (31 < r.val ∨ n = 0 ∨ g = 0) := by omega
  simp only [burstConfigOf, BurstMode.ofCode_code, if_neg hrange, hr]

theorem burstConfigOf_outOfRange {r m n g : Nat} (h : 31 < r ∨ 3 < m ∨ n = 0 ∨ g = 0) :
    burstConfigOf r m n g = none := by
  unfold burstConfigOf
  split
  · rfl
  · next mode hmode =>
    refine if_pos ?_
    obtain hr | hm | hng := h
    · exact .inl hr
    · rw [BurstMode.ofCode_above hm] at hmode
      cases hmode
    · exact .inr hng

/-! ## BURST-CONFIG -/

section Config
variable {k : Slot} {b : BurstConfig} {s : State}

theorem setBurstConfig_rest (hs : (s.channel k).state = .idle ∨ (s.channel k).state = .done) :
    setBurstConfig k b s = reply (s.setChannel k { s.channel k with active := some b, pending := none }) .ok
      (burstConfigReply { s.channel k with active := some b, pending := none }) := by
  obtain hs | hs := hs <;> simp only [setBurstConfig, hs, State.setChannel_channel_same]

/-- R76: a SET whose record is undefined is refused wherever a burst may start or run under it. -/
theorem setBurstConfig_undefined (hr : s.store.records.get b.pattern = none)
    (hs : (s.channel k).state = .burst ∨ (s.channel k).state = .gap ∨ (s.channel k).state = .wait) :
    setBurstConfig k b s = answer s .refusedState := by
  have hrec : s.recordOf (some b) = none := hr
  obtain hs | hs | hs := hs <;> simp only [setBurstConfig, hs, if_pos hrec]

theorem setBurstConfig_inFlight (hr : s.store.records.get b.pattern ≠ none)
    (hs : (s.channel k).state = .burst ∨ (s.channel k).state = .gap) :
    setBurstConfig k b s = reply (s.setChannel k { s.channel k with pending := some b }) .deferred
      (burstConfigReply { s.channel k with pending := some b }) := by
  have hrec : s.recordOf (some b) ≠ none := hr
  obtain hs | hs := hs <;> simp only [setBurstConfig, hs, if_neg hrec, State.setChannel_channel_same]

theorem setBurstConfig_wait_triggered (hr : s.store.records.get b.pattern ≠ none) (hs : (s.channel k).state = .wait)
    (hm : b.mode = .triggered) :
    setBurstConfig k b s = reply (s.setChannel k { s.channel k with active := some b, pending := none }) .ok
      (burstConfigReply { s.channel k with active := some b, pending := none }) := by
  have hrec : s.recordOf (some b) ≠ none := hr
  simp only [setBurstConfig, hs, if_neg hrec, if_pos hm, State.setChannel_channel_same]

theorem setBurstConfig_wait_start (hr : s.store.records.get b.pattern ≠ none) (hs : (s.channel k).state = .wait)
    (hm : b.mode ≠ .triggered) :
    let t := startBurst k (s.setChannel k { s.channel k with active := some b, pending := none })
    setBurstConfig k b s = reply t .ok (burstConfigReply (t.channel k)) := by
  have hrec : s.recordOf (some b) ≠ none := hr
  simp only [setBurstConfig, hs, if_neg hrec, if_neg hm]

theorem serveBurstConfigSet_inRange (r : Fin 32) (m : BurstMode) {n g : Nat} (he : (s.slot k).board ≠ .empty)
    (hn : 1 ≤ n) (hg : 1 ≤ g) :
    serveBurstConfigSet k.code r.val m.code n g s = setBurstConfig k ⟨r, m, n, g⟩ s := by
  simp only [serveBurstConfigSet, withSlot_code, if_neg he, burstConfigOf_inRange r m hn hg]

theorem serveBurstConfigSet_outOfRange {r m n g : Nat} (he : (s.slot k).board ≠ .empty)
    (h : 31 < r ∨ 3 < m ∨ n = 0 ∨ g = 0) : serveBurstConfigSet k.code r m n g s = answer s .refusedRange := by
  simp only [serveBurstConfigSet, withSlot_code, if_neg he, burstConfigOf_outOfRange h]

theorem serveBurstConfigSet_empty (r m n g : Nat) (he : (s.slot k).board = .empty) :
    serveBurstConfigSet k.code r m n g s = answer s .noBoard := by
  rw [serveBurstConfigSet, withSlot_code, if_pos he]

theorem serveBurstConfigQuery_empty (he : (s.slot k).board = .empty) :
    serveBurstConfigQuery k.code s = answer s .noBoard := by
  rw [serveBurstConfigQuery, withSlot_code, if_pos he]

theorem serveBurstConfigQuery_ok (he : (s.slot k).board ≠ .empty) :
    serveBurstConfigQuery k.code s = reply s .ok (burstConfigReply (s.channel k)) := by
  rw [serveBurstConfigQuery, withSlot_code, if_neg he]

/-- R75, R190: a payload of either form's length whose form code names neither. -/
theorem burstConfigFrame_other (k : Slot) {form : Byte} {rest : List Byte} (hform : 1 < form.toNat)
    (hrest : rest = [] ∨ rest.length = 6) (s : State) :
    burstConfigFrame (BitVec.ofNat 8 k.code :: form :: rest) s
      = if (s.slot k).board = .empty then answer s .noBoard else answer s .refusedRange := by
  have hlength : (BitVec.ofNat 8 k.code :: form :: rest).length = 2
      ∨ (BitVec.ofNat 8 k.code :: form :: rest).length = 8 := by
    obtain rfl | hrest := hrest
    · exact .inl rfl
    · exact .inr (by simp [hrest])
  have hslot : byteAt (BitVec.ofNat 8 k.code :: form :: rest) 0 = k.code := by cases k <;> rfl
  have hcode : byteAt (BitVec.ofNat 8 k.code :: form :: rest) 1 = form.toNat := rfl
  rw [burstConfigFrame, if_pos hlength, hcode, hslot]
  split
  · omega
  · omega
  · rw [serveBurstConfigOther, withSlot_code]

end Config

/-- Settles O20: a SET in range is `setBurstConfig`, one case for each group of channel states; from WAIT it starts a burst
as `startBurst_setChannel` says. -/
theorem burstConfigFollowsTheChannelState : Obligations.BurstConfigFollowsTheChannelState := by
  have taken {s u : State} {serve : State → Served} {payload : List Byte} (h : Ready s)
      (hs : serve (received s) = ⟨received u, payload⟩) :
      Host.Outcome.next (takeRequest 0x22 serve s) = (.next (replied 0x22 payload u) : Host.Outcome State Fault Refusal) :=
    congrArg _ (takeRequest_replied _ _ _ _ _ h hs)
  refine ⟨fun s k r m n g h he hn hg => ?_, fun s k h => ⟨fun he => ⟨fun r m n g => ?_, ?_⟩, fun he r m n g hbad => ?_,
    fun form rest hform hrest => ?_⟩⟩
  · have hset := serveBurstConfigSet_inRange (s := received s) r m he hn hg
    refine ⟨fun hs => taken h (hset.trans (setBurstConfig_rest hs)),
      fun hs hr => taken h (hset.trans (setBurstConfig_inFlight hr hs)),
      fun hs hr => taken h (hset.trans (setBurstConfig_undefined hr hs)),
      fun hs hm hr => taken h (hset.trans (setBurstConfig_wait_triggered hr hs hm)),
      fun rec hs hm hr hw => ?_, taken h (serveBurstConfigQuery_ok he)⟩
    have hdefined : (received s).store.records.get r ≠ none := ne_of_eq_of_ne hr (Option.some_ne_none rec)
    obtain ⟨hstarted, hframe, _⟩ := startBurst_setChannel (s := received s) (b := ⟨r, m, n, g⟩)
      (x := { s.channel k with active := some ⟨r, m, n, g⟩, pending := none }) (adopt_none rfl) hr hw
    exact ⟨_, congrArg Host.Outcome.next
      (takeRequest_reply h (hset.trans (setBurstConfig_wait_start hdefined hs hm)) (by simp)), hstarted, hframe⟩
  · exact taken h (serveBurstConfigSet_empty r m n g he)
  · exact taken h (serveBurstConfigQuery_empty he)
  · exact taken h (serveBurstConfigSet_outOfRange he hbad)
  · have hserve := burstConfigFrame_other k hform hrest (received s)
    by_cases he : (s.slot k).board = .empty
    · rw [if_pos he]
      exact takeRequest_refused h (hserve.trans (if_pos he))
    · rw [if_neg he]
      exact takeRequest_refused h (hserve.trans (if_neg he))

/-! ## EXERCISE-START -/

section Start
variable {k : Slot} {s : State}

theorem serveExerciseStart_empty (he : (s.slot k).board = .empty) :
    serveExerciseStart k.code s = answer s .noBoard := by
  simp [serveExerciseStart, he]

theorem serveExerciseStart_safe (he : (s.slot k).board ≠ .empty) (hz : s.zone.state = .safe) :
    serveExerciseStart k.code s = answer s .refusedSafe := by
  simp [serveExerciseStart, he, hz]

theorem serveExerciseStart_unpowered (he : (s.slot k).board ≠ .empty) (hz : s.zone.state ≠ .safe)
    (hp : (s.slot k).board ≠ .powered) : serveExerciseStart k.code s = answer s .refusedState := by
  simp [serveExerciseStart, he, hz, hp]

/-- R78: the checks that follow those of the slot, the zone and the board. -/
theorem serveExerciseStart_powered (hz : s.zone.state ≠ .safe) (hp : (s.slot k).board = .powered) :
    serveExerciseStart k.code s =
      if (s.channel k).state = .idle ∨ (s.channel k).state = .done then
        if s.recordOf (s.channel k).next = none then answer s .refusedState else answer (burstPoint k s) .ok
      else answer s .refusedState := by
  cases hs : (s.channel k).state <;> simp [serveExerciseStart, hz, hp, hs]

theorem recordOf_next_none (hn : ((s.channel k).active = none ∧ (s.channel k).pending = none)
    ∨ ∃ b : BurstConfig, ((s.channel k).pending = some b ∨ ((s.channel k).pending = none ∧ (s.channel k).active = some b))
        ∧ s.store.records.get b.pattern = none) : s.recordOf (s.channel k).next = none := by
  obtain ⟨ha, hp⟩ | ⟨b, hb, hr⟩ := hn
  · rw [Channel.next, adopt_none hp, ha]
    rfl
  · rw [Channel.next, adopt_active hb]
    exact hr

/-- R78: what is refused on a board that is there, outside SAFE. -/
theorem serveExerciseStart_refused (he : (s.slot k).board ≠ .empty) (hz : s.zone.state ≠ .safe)
    (h : (s.slot k).board ≠ .powered
      ∨ ((s.channel k).state = .wait ∨ (s.channel k).state = .burst ∨ (s.channel k).state = .gap)
      ∨ s.recordOf (s.channel k).next = none) : serveExerciseStart k.code s = answer s .refusedState := by
  by_cases hp : (s.slot k).board = .powered
  · rw [serveExerciseStart_powered hz hp]
    obtain hnot | hs | hr := h
    · exact absurd hp hnot
    · refine if_neg ?_
      obtain hs | hs | hs := hs <;> simp [hs]
    · rw [if_pos hr, ite_self]
  · exact serveExerciseStart_unpowered he hz hp

/-- R78: EXERCISE-START of a channel at rest, under a defined record. -/
theorem exec_exerciseStart {b : BurstConfig} {rec : PatternRecord} (h : Ready s) (hz : s.zone.state ≠ .safe)
    (hp : (s.slot k).board = .powered) (hs : (s.channel k).state = .idle ∨ (s.channel k).state = .done)
    (hb : (s.channel k).adopt.active = some b) (hr : s.store.records.get b.pattern = some rec) :
    exec (.exerciseStart k.code) s = .next (replied 0x23 [0] (burstPoint k (received s))) := by
  have hserve := serveExerciseStart_powered (s := received s) hz hp
  have hrec : (received s).recordOf ((received s).channel k).next ≠ none :=
    ne_of_eq_of_ne (congrArg s.recordOf hb) (ne_of_eq_of_ne hr (Option.some_ne_none rec))
  exact congrArg Host.Outcome.next (takeRequest_reply h (hserve.trans ((if_pos hs).trans (if_neg hrec))) (by simp))

/-- R83: the gap of a running part ends. -/
theorem exec_gapExpiry (hrun : s.part.phase = .running) (hs : (s.channel k).state = .gap)
    (hg : (s.channel k).gap = some 0) :
    exec (.gapExpiry k) s = .next (burstPoint k (s.setChannel k { s.channel k with gap := none })) := by
  have hexpired : gapExpired k s = burstPoint k (s.setChannel k { s.channel k with gap := none }) :=
    if_pos ⟨hs, (Timer.due_iff _).mpr hg⟩
  exact congrArg Host.Outcome.next ((whenRunning_of_running _ s hrun).trans hexpired)

end Start

/-- Settles O21: both are the burst-start point of R77, which waits (`burstPoint_triggered`) or starts
(`burstPoint_started`); the refusals are the checks of EXERCISE-START in turn. -/
theorem exerciseStartAndGapEndStartABurst : Obligations.ExerciseStartAndGapEndStartABurst := by
  refine ⟨fun s k b rec hb hr hw => ⟨fun h hp hz hs => ?_, fun hrun hs hg => ?_⟩, fun s k h => ?_⟩
  · have hexec := exec_exerciseStart h hz hp hs (adopt_active hb) hr
    refine ⟨fun hm => ?_, fun hm => ?_⟩
    · rw [hexec, burstPoint_triggered (s := received s) (adopt_active hb) hm]
      rfl
    · obtain ⟨hstarted, hframe, _⟩ :=
        burstPoint_started (s := received s) (x := (received s).channel k) (adopt_active hb) hm hr hw
      rw [State.setChannel_self] at hstarted hframe
      exact ⟨_, hexec, hstarted, hframe⟩
  · have hadopt : ({ s.channel k with gap := none } : Channel).adopt.active = some b := adopt_active hb
    refine ⟨fun hm => ?_, fun hm => ?_⟩
    · rw [exec_gapExpiry hrun hs hg, burstPoint_triggered (by rwa [State.setChannel_channel_same]) hm,
        State.setChannel_setChannel, State.setChannel_channel_same]
    · obtain ⟨hstarted, hframe, hgap⟩ := burstPoint_started hadopt hm hr hw
      exact ⟨_, exec_gapExpiry hrun hs hg, hgap, hstarted, hframe, by simp⟩
  · have refused {serve : State → Served} {st : Status} (hs : serve (received s) = answer (received s) st) :
        Host.Outcome.next (takeRequest 0x23 serve s)
          = (.next (replied 0x23 [BitVec.ofNat 8 st.code] s) : Host.Outcome State Fault Refusal) :=
      congrArg _ (takeRequest_refused h hs)
    exact ⟨fun he => refused (serveExerciseStart_empty he), fun he hz => refused (serveExerciseStart_safe he hz),
      fun he hz hbad => refused (serveExerciseStart_refused he hz (hbad.imp_right (.imp_right recordOf_next_none))),
      refused (serve := serveExerciseStart 4) (st := .refusedRange) (withSlot_four _ _)⟩

end Sys2Proof.Machine
end


section
/-!
PROOFS. That a request or an event of one slot changes the blocks of that slot alone, of those that `SlotFrame` names: said
once for each, so that what such a step leaves need not be looked for in its branches again.
-/

namespace Sys2Proof.Machine

open Safety

theorem SwitchesKept.slotFrame {k : Slot} {s t : State} (h : SwitchesKept k s t) : SlotFrame k s t := by
  obtain ⟨hf, _⟩ := h
  exact hf

/-- A step of some one slot. -/
def OneSlot (s t : State) : Prop := ∃ k, SlotFrame k s t

section
variable {k : Slot} {n : Nat} {s t : State}

theorem OneSlot.refl (s : State) : OneSlot s s := ⟨.A, .refl .A s⟩

theorem forSockets_slotFrame {act : Socket → State → State} (h : ∀ i u, SlotFrame k u (act i u)) (l : List Socket)
    (s : State) : SlotFrame k s (forSockets l act s) :=
  forSockets_invariant (SlotFrame k s) act (fun i u hu => hu.trans (h i u)) l s (.refl k s)

/-! ## Requests -/

/-- R187, check 3: a request that names no slot is refused. -/
theorem withSlot_oneSlot {f : Slot → Served} (h : ∀ k, SlotFrame k s (f k).state) :
    OneSlot s (withSlot s n f).state := by
  unfold withSlot
  split
  · exact ⟨_, h _⟩
  · exact .refl s

theorem serveBoardPowerUp_oneSlot : OneSlot s (serveBoardPowerUp n s).state := by
  refine withSlot_oneSlot fun k => ?_
  dsimp only
  split
  · exact .refl k s
  · split
    · exact .refl k s
    · split
      · split
        · exact startRamp_slotFrame k s
        · exact .refl k s
      all_goals exact .refl k s

theorem serveBoardPowerDown_oneSlot : OneSlot s (serveBoardPowerDown n s).state := by
  refine withSlot_oneSlot fun k => ?_
  split
  iterate 4 exact .refl k s
  all_goals exact startDrain_slotFrame k s

theorem stageItems_slotFrame (k : Slot) (l : List StageItem) (s : State) : SlotFrame k s (stageItems k l s).state := by
  unfold stageItems
  dsimp only
  split
  · exact .refl k s
  · split
    · exact .refl k s
    · exact State.setSlot_slotFrame s k _

theorem serveBoardStage_oneSlot {l : List StageItem} : OneSlot s (serveBoardStage n l s).state := by
  unfold serveBoardStage
  dsimp only
  split
  · exact .refl s
  · split
    · exact .refl s
    · refine withSlot_oneSlot fun k => ?_
      split
      iterate 2 exact .refl k s
      all_goals exact stageItems_slotFrame k l s

theorem applyBoard_slotFrame (k : Slot) (s : State) : SlotFrame k s (applyBoard k s).state := by
  unfold applyBoard
  dsimp only
  split
  · exact .refl k s
  · split
    · exact .refl k s
    · split
      · exact State.setSlot_slotFrame s k _
      · exact takeApply_slotFrame k s

theorem serveBoardApply_oneSlot : OneSlot s (serveBoardApply n s).state := by
  refine withSlot_oneSlot fun k => ?_
  split
  iterate 2 exact .refl k s
  all_goals exact applyBoard_slotFrame k s

theorem serveBoardStatus_oneSlot : OneSlot s (serveBoardStatus n s).state := by
  refine withSlot_oneSlot fun k => ?_
  split
  · exact .refl k s
  · exact State.setSlot_slotFrame s k _

theorem socketSetChecks_oneSlot {l : List Nat} {f : Slot → Served} (h : ∀ k, SlotFrame k s (f k).state) :
    OneSlot s (socketSetChecks n l s f).state := by
  unfold socketSetChecks
  split
  · exact .refl s
  · refine withSlot_oneSlot fun k => ?_
    split
    iterate 2 exact .refl k s
    all_goals exact h k

theorem serveSocketSet_oneSlot {act : Slot → Socket → State → State} {l : List Nat}
    (h : ∀ k i u, SlotFrame k u (act k i u)) : OneSlot s (serveSocketSet act n l s).state := by
  refine socketSetChecks_oneSlot fun k => ?_
  split
  · exact .refl k s
  · exact forSockets_slotFrame (h k) _ s

theorem serveSocketStatus_oneSlot {l : List Nat} : OneSlot s (serveSocketStatus n l s).state := by
  unfold serveSocketStatus
  split
  · exact .refl s
  · refine withSlot_oneSlot fun k => ?_
    split
    · exact .refl k s
    · split <;> exact .refl k s

theorem serveBurstConfigSet_oneSlot {p m c g : Nat} : OneSlot s (serveBurstConfigSet n p m c g s).state := by
  refine withSlot_oneSlot fun k => ?_
  split
  · exact .refl k s
  · split
    · exact .refl k s
    · exact (setBurstConfig_reporting k _ s).slotFrame

theorem serveBurstConfigQuery_oneSlot : OneSlot s (serveBurstConfigQuery n s).state :=
  withSlot_oneSlot fun k => by split <;> exact .refl k s

theorem serveBurstConfigOther_oneSlot : OneSlot s (serveBurstConfigOther n s).state :=
  withSlot_oneSlot fun k => by split <;> exact .refl k s

theorem serveExerciseStart_oneSlot : OneSlot s (serveExerciseStart n s).state := by
  refine withSlot_oneSlot fun k => ?_
  dsimp only
  split
  · exact .refl k s
  · split
    · exact .refl k s
    · split
      · exact .refl k s
      · split
        iterate 3 exact .refl k s
        iterate 2
          split
          · exact .refl k s
          · exact (burstPoint_reporting k s).slotFrame

theorem serveExerciseStop_oneSlot : OneSlot s (serveExerciseStop n s).state := by
  refine withSlot_oneSlot fun k => ?_
  split
  · exact .refl k s
  · exact stopChannel_slotFrame k false s

theorem serveBurstTrigger_oneSlot : OneSlot s (serveBurstTrigger n s).state := by
  refine withSlot_oneSlot fun k => ?_
  dsimp only
  split
  · exact .refl k s
  · split
    · exact .refl k s
    · split
      · exact ((dropUndefined_reporting k s).trans (startBurst_reporting k _)).slotFrame
      · split
        · split
          · exact (abandonBurst_slotFrame k false s).trans (startBurst_reporting k _).slotFrame
          · exact .refl k s
        · exact .refl k s
      all_goals exact .refl k s

theorem zeroRecords_slotFrame (k : Slot) (s : State) : SlotFrame k s (zeroRecords k s) :=
  ⟨rfl, rfl, rfl, rfl, rfl, rfl, rfl, rfl, rfl, rfl, fun _ hj => ⟨rfl, rfl, rfl, rfl, rfl, PerSlot.get_set_ne _ _ hj⟩⟩

theorem serveAccountClear_oneSlot : OneSlot s (serveAccountClear n s).state := by
  refine withSlot_oneSlot fun k => ?_
  split
  · exact .refl k s
  · exact (zeroRecords_slotFrame k s).trans (State.setCompare_slotFrame _ k _)

/-! ## Events -/

theorem settleExpired_slotFrame (k : Slot) (r : Rail) (s : State) : SlotFrame k s (settleExpired k r s) := by
  unfold settleExpired
  dsimp only
  split
  · exact tripBoard_slotFrame k r .railTimeout s
  · exact .refl k s

theorem dwellExpired_slotFrame (k : Slot) (s : State) : SlotFrame k s (dwellExpired k s) := by
  unfold dwellExpired
  dsimp only
  split
  · split
    · split
      · exact startStep_slotFrame k _ s
      · exact enterPowered_slotFrame k s
    · exact .refl k s
  · exact .refl k s

theorem drainExpired_slotFrame (k : Slot) (s : State) : SlotFrame k s (drainExpired k s) := by
  unfold drainExpired
  dsimp only
  split
  · split
    · exact railDone_slotFrame k _ s
    · exact .refl k s
  · exact .refl k s

theorem boardInserted_slotFrame (k : Slot) (s : State) : SlotFrame k s (boardInserted k s) := by
  unfold boardInserted
  split
  · exact enterIdent_slotFrame k s
  · exact .refl k s

theorem boardRemoved_slotFrame (k : Slot) (s : State) : SlotFrame k s (boardRemoved k s) := by
  unfold boardRemoved
  split
  · exact .refl k s
  · exact removeBoard_slotFrame k s

theorem identityAnswer_slotFrame (k : Slot) (i : Identity) (d : Descriptor) (s : State) :
    SlotFrame k s (identityAnswer k i d s) := by
  have recorded : SlotFrame k s (recordAnswer k i d s) := State.setSlot_slotFrame s k _
  unfold identityAnswer
  dsimp only
  split
  · split
    · exact recorded.trans ((tagBoard_switchesKept k i _).trans (applyDescriptor_switchesKept k d _)).slotFrame
    · exact recorded
  · exact .refl k s

theorem identityTimeout_slotFrame (k : Slot) (s : State) : SlotFrame k s (identityTimeout k s) := by
  unfold identityTimeout
  dsimp only
  split
  · exact State.setSlot_slotFrame s k _
  · exact .refl k s

end

end Sys2Proof.Machine
end


section
/-!
PROOFS. The zone thermal controller: what each part of a control interval does to the zone (R106 to R118), said once for each
part, with what it leaves.
-/

namespace Sys2Proof.Machine

open Safety

/-! ## Outputs -/

/-- R117: the zone states in which the heater may run. -/
def ZoneState.heats : ZoneState → Bool
  | .ramp | .settle | .soak => true
  | .idle | .cool | .safe => false

section
variable {z : Zone}

theorem ZoneState.heats_iff (st : ZoneState) : st.heats = true ↔ st = .ramp ∨ st = .settle ∨ st = .soak := by
  cases st <;> simp [heats]

theorem Zone.drive_idle (h : z.state = .idle) :
    z.drive = { z with heater := 0, fan := z.tuning.fanFloor, heatEn := false } := by
  simp only [drive, h]

theorem Zone.drive_safe (h : z.state = .safe) : z.drive = { z with heater := 0, fan := 1000, heatEn := false } := by
  simp only [drive, h]

theorem Zone.drive_cool (h : z.state = .cool) :
    z.drive = { z with heater := 0, fan := max z.tuning.fanFloor (-z.output), heatEn := false } := by
  simp only [drive, h]

theorem Zone.drive_heats (h : z.state.heats = true) :
    z.drive = { z with heater := max z.output 0, fan := max z.tuning.fanFloor (-z.output), heatEn := true } := by
  obtain e | e | e := z.state.heats_iff.mp h <;> simp only [drive, e]

/-- R117: the outputs are all that `drive` sets. -/
theorem Zone.drive_eq (z : Zone) :
    z.drive = { z with heater := z.drive.heater, fan := z.drive.fan, heatEn := z.drive.heatEn } := by
  unfold drive
  dsimp only
  split <;> rfl

/-! ## What each part of an interval leaves -/

/-- R108: the comparison of the sensors sets its count and its note alone. -/
theorem Zone.compareSensors_frame (z : Zone) :
    ∃ n b, z.compareSensors.1 = { z with discCount := n, discNote := b } := by
  unfold compareSensors
  dsimp only
  split
  · split
    · exact ⟨_, _, rfl⟩
    · exact ⟨_, _, rfl⟩
  · exact ⟨_, _, rfl⟩

/-- R111, R114: the ramp step sets the effective setpoint, and enters SETTLE from RAMP alone. -/
theorem Zone.rampStep_frame (z : Zone) : ∃ e st n, z.rampStep = { z with effective := e, state := st, settleCount := n }
    ∧ (st = z.state ∨ z.state = .ramp ∧ st = .settle) := by
  unfold rampStep
  dsimp only
  split
  · next hst _ _ =>
    split
    · exact ⟨_, _, _, rfl, .inr ⟨hst, rfl⟩⟩
    · exact ⟨_, _, _, rfl, .inl rfl⟩
  · split
    · exact ⟨_, _, _, rfl, .inl rfl⟩
    · exact ⟨_, _, _, rfl, .inl rfl⟩
  · exact ⟨_, _, _, rfl, .inl rfl⟩

/-- R112, R113: the counts of SETTLE and SOAK move the zone between the two states. -/
theorem Zone.settle_frame (h : z.state = .settle) : ∃ n st m, st.heats = true
    ∧ z.settle.1 = { z with settleCount := n, state := st, excCount := m } := by
  unfold settle
  dsimp only
  split
  · split
    · exact ⟨_, _, _, rfl, rfl⟩
    · exact ⟨_, _, _, by rw [h]; rfl, rfl⟩
  · exact ⟨_, _, _, by rw [h]; rfl, rfl⟩

theorem Zone.soak_frame (h : z.state = .soak) : ∃ n st m x, st.heats = true
    ∧ z.soak.1 = { z with settleCount := n, state := st, excCount := m, excNote := x } := by
  unfold soak
  dsimp only
  split
  · exact ⟨_, _, _, _, by rw [h]; rfl, rfl⟩
  · split
    · exact ⟨_, _, _, _, by rw [h]; rfl, rfl⟩
    · split
      · exact ⟨_, _, _, _, rfl, rfl⟩
      · exact ⟨_, _, _, _, by rw [h]; rfl, rfl⟩

end

theorem clampInt_bounds {lo hi : Int} (h : lo ≤ hi) (x : Int) : lo ≤ clampInt lo hi x ∧ clampInt lo hi x ≤ hi := by
  unfold clampInt
  omega

end Sys2Proof.Machine
end


section
/-!
PROOFS. `ThermalSafe` (R105, R115 to R118): what the loop and the outputs make of a zone whose gains and fan floor are in
range, and that every step keeps it.
-/

namespace Sys2Proof.Machine

open Safety

/-! ## The property in parts -/

/-- R117: heater and HEAT-EN off. -/
def Zone.Off (z : Zone) : Prop := z.heater = 0 ∧ z.heatEn = false

/-- R115: the gains and the fan floor in their ranges. -/
structure Tuning.Legal (u : Tuning) : Prop where
  kp : 0 ≤ u.kp ∧ u.kp ≤ 2000
  ki : 0 ≤ u.ki ∧ u.ki ≤ 500
  fanFloor : 0 ≤ u.fanFloor ∧ u.fanFloor ≤ 1000

/-- R115, R116: what the loop works on and leaves in range. -/
structure Zone.LoopLegal (z : Zone) : Prop where
  output : -1000 ≤ z.output ∧ z.output ≤ 1000
  integ : -4100095 ≤ z.integ ∧ z.integ ≤ 4100095
  tuning : z.tuning.Legal

/-- R117: the outputs in range, and off where the zone state does not heat. -/
structure Zone.OutputsLegal (z : Zone) : Prop where
  heater : 0 ≤ z.heater ∧ z.heater ≤ 1000
  fan : 0 ≤ z.fan ∧ z.fan ≤ 1000
  off : z.state.heats = false → z.Off

/-- The controller's part of `ThermalSafe`. -/
structure Zone.Legal (z : Zone) : Prop where
  loop : z.LoopLegal
  outputs : z.OutputsLegal

theorem ZoneState.not_heats_iff (st : ZoneState) : st.heats = false ↔ st = .idle ∨ st = .cool ∨ st = .safe := by
  cases st <;> simp [heats]

theorem thermalSafe_iff (s : State) : ThermalSafe s ↔ (s.part.phase ≠ .running → s.zone.Off) ∧ s.zone.Legal := by
  constructor
  · rintro ⟨hoff, hheater, hfan, houtput, hinteg, hkp, hki, hfloor⟩
    exact ⟨fun h => hoff (.inr (.inr (.inr h))), ⟨houtput, hinteg, hkp, hki, hfloor⟩, hheater, hfan, fun h => hoff (by
      obtain e | e | e := (ZoneState.not_heats_iff _).mp h <;> simp [e])⟩
  · rintro ⟨hphase, ⟨houtput, hinteg, hkp, hki, hfloor⟩, hheater, hfan, hoff⟩
    refine ⟨fun h => ?_, hheater, hfan, houtput, hinteg, hkp, hki, hfloor⟩
    obtain e | e | e | e := h
    iterate 3 exact hoff (by rw [e]; rfl)
    exact hphase e

/-- What `ThermalSafe` looks at. -/
def thermalView (s : State) : Phase × ZoneState × Int × Int × Bool × Int × Int × Tuning :=
  (s.part.phase, s.zone.state, s.zone.heater, s.zone.fan, s.zone.heatEn, s.zone.output, s.zone.integ, s.zone.tuning)

theorem thermalSafe_of_view {s t : State} (hs : ThermalSafe s) (h : thermalView t = thermalView s) : ThermalSafe t := by
  simp only [thermalView, Prod.mk.injEq] at h
  obtain ⟨hp, hstate, hheater, hfan, hen, hout, hint, htun⟩ := h
  dsimp only [ThermalSafe] at hs ⊢
  rwa [hp, hstate, hheater, hfan, hen, hout, hint, htun]

/-- R105, R119: of the zone, a step of one slot changes the throttle states alone. -/
theorem slotFrame_thermalView {k : Slot} {s t : State} (h : SlotFrame k s t) : thermalView t = thermalView s := by
  obtain ⟨hp, _, _, _, _, _, _, hz, _⟩ := h
  unfold thermalView
  rw [hp, hz]

theorem OneSlot.thermalSafe {s t : State} (h : OneSlot s t) (hs : ThermalSafe s) : ThermalSafe t := by
  obtain ⟨_, hf⟩ := h
  exact thermalSafe_of_view hs (slotFrame_thermalView hf)

/-! ## The controller -/

section
variable {z y : Zone}

theorem Zone.LoopLegal.of_eq (h : z.LoopLegal) (ho : y.output = z.output) (hi : y.integ = z.integ)
    (ht : y.tuning = z.tuning) : y.LoopLegal :=
  ⟨ho ▸ h.output, hi ▸ h.integ, ht ▸ h.tuning⟩

/-- A loop output of 0, with the integrator kept or 0. -/
theorem Zone.LoopLegal.still (h : z.LoopLegal) (ho : y.output = 0) (hi : y.integ = z.integ ∨ y.integ = 0)
    (ht : y.tuning = z.tuning) : y.LoopLegal := by
  refine ⟨by rw [ho]; decide, ?_, ht ▸ h.tuning⟩
  obtain e | e := hi
  · exact e ▸ h.integ
  · rw [e]; decide

/-- R117: the outputs that follow from a legal loop output and fan floor are legal. -/
theorem Zone.LoopLegal.drive (h : z.LoopLegal) : z.drive.Legal := by
  obtain ⟨ho1, ho2⟩ := h.output
  obtain ⟨hf1, hf2⟩ := h.tuning.fanFloor
  refine ⟨h.of_eq (by rw [drive_eq]) (by rw [drive_eq]) (by rw [drive_eq]), ?_⟩
  cases e : z.state with
  | idle => rw [drive_idle e]; exact ⟨by dsimp only; omega, by dsimp only; omega, fun _ => ⟨rfl, rfl⟩⟩
  | cool => rw [drive_cool e]; exact ⟨by dsimp only; omega, by dsimp only; omega, fun _ => ⟨rfl, rfl⟩⟩
  | safe => rw [drive_safe e]; exact ⟨by dsimp only; omega, by dsimp only; omega, fun _ => ⟨rfl, rfl⟩⟩
  | ramp | settle | soak =>
    rw [drive_heats (by rw [e]; rfl)]
    exact ⟨by dsimp only; omega, by dsimp only; omega, fun hh => by simp [e, ZoneState.heats] at hh⟩

/-- R116: an integral term within the limit of the output comes of an integrator within its bound. -/
theorem le_of_tdiv_le {c : Int} (h : c.tdiv 4096 ≤ 1000) : c ≤ 4100095 := by
  by_contra hc
  rw [Int.tdiv_eq_ediv_of_nonneg (by omega)] at h
  omega

theorem le_of_le_tdiv {c : Int} (h : -1000 ≤ c.tdiv 4096) : -4100095 ≤ c := by
  have hneg : (-c).tdiv 4096 = -c.tdiv 4096 := Int.neg_tdiv c 4096
  have := le_of_tdiv_le (c := -c) (by omega)
  omega

/-- R116: the integrator keeps its bound, since a candidate beyond it takes the output beyond its limit in the direction of
the error, and is dropped. -/
theorem loopStep_integ {u : Tuning} {i e : Int} (hu : u.Legal) (hi : -4100095 ≤ i ∧ i ≤ 4100095) :
    -4100095 ≤ (loopStep u i e).1 ∧ (loopStep u i e).1 ≤ 4100095 := by
  obtain ⟨hp, _⟩ := hu.kp
  obtain ⟨hk, _⟩ := hu.ki
  unfold loopStep
  dsimp only
  split
  · exact hi
  · next hkept =>
    obtain he | he | he := Int.lt_trichotomy e 0
    · have hprop : (u.kp * e).tdiv 256 ≤ 0 :=
        Int.tdiv_le_tdiv (b := 0) (by decide) (Int.mul_nonpos_of_nonneg_of_nonpos hp he.le)
      have hstep : u.ki * e ≤ 0 := Int.mul_nonpos_of_nonneg_of_nonpos hk he.le
      have hint : -1000 ≤ (i + u.ki * e).tdiv 4096 := by omega
      exact ⟨le_of_le_tdiv hint, by omega⟩
    · simpa [he] using hi
    · have hprop : 0 ≤ (u.kp * e).tdiv 256 := Int.tdiv_nonneg (Int.mul_nonneg hp he.le) (by decide)
      have hstep : 0 ≤ u.ki * e := Int.mul_nonneg hk he.le
      have hint : (i + u.ki * e).tdiv 4096 ≤ 1000 := by omega
      exact ⟨by omega, le_of_tdiv_le hint⟩

/-- R116 to R118: the loop makes of a zone with its values in range one with its outputs in range too. -/
theorem Zone.LoopLegal.loop (h : z.LoopLegal) : z.loop.Legal := by
  unfold Zone.loop
  split
  iterate 2 exact h.drive
  all_goals
    split
    · exact LoopLegal.drive ⟨clampInt_bounds (by decide) _, loopStep_integ h.tuning h.integ, h.tuning⟩
    · exact LoopLegal.drive (h.still rfl (.inl rfl) rfl)

/-- A zone that heats, with the loop's values and the outputs of a legal one. -/
theorem Zone.Legal.heating (h : z.Legal) (hl : y.LoopLegal) (hh : y.heater = z.heater) (hf : y.fan = z.fan)
    (hst : y.state.heats = true) : y.Legal :=
  ⟨hl, hh ▸ h.outputs.heater, hf ▸ h.outputs.fan, fun hoff => by rw [hst] at hoff; cases hoff⟩

theorem Zone.Legal.afterLoop (h : z.Legal) : z.afterLoop.1.Legal := by
  unfold Zone.afterLoop
  split
  · next hst =>
    obtain ⟨_, _, _, hheats, e⟩ := settle_frame hst
    rw [e]
    exact h.heating (h.loop.of_eq rfl rfl rfl) rfl rfl hheats
  · next hst =>
    obtain ⟨_, _, _, _, hheats, e⟩ := soak_frame hst
    rw [e]
    exact h.heating (h.loop.of_eq rfl rfl rfl) rfl rfl hheats
  · unfold Zone.coolEnd
    split
    · split
      · exact (h.loop.still rfl (.inr rfl) rfl : Zone.LoopLegal { z with state := .idle, integ := 0, output := 0 }).drive
      · exact h
    · exact h
  all_goals exact h

theorem Zone.LoopLegal.work (h : z.LoopLegal) : z.compareSensors.1.rampStep.loop.afterLoop.1.Legal := by
  obtain ⟨_, _, hcompare⟩ := z.compareSensors_frame
  obtain ⟨_, _, _, hramp, _⟩ := z.compareSensors.1.rampStep_frame
  refine Zone.Legal.afterLoop (LoopLegal.loop (h.of_eq ?_ ?_ ?_)) <;> rw [hramp, hcompare]

/-- R123: SAFE entry. -/
theorem Zone.LoopLegal.enterSafe (h : z.LoopLegal) (c : SafeCause) : (z.enterSafe c).Legal := by
  refine LoopLegal.drive ?_
  exact h.still rfl (.inr rfl) rfl

/-- R110: RAMP entry. -/
theorem Zone.LoopLegal.enterRamp (h : z.LoopLegal) (t r : Int) (e : Option Int) : (z.enterRamp t r e).Legal := by
  refine LoopLegal.drive ?_
  exact h.still rfl (.inl rfl) rfl

theorem Zone.enterSafe_off (z : Zone) (c : SafeCause) : (z.enterSafe c).Off := by
  rw [enterSafe, drive_safe rfl]
  exact ⟨rfl, rfl⟩

end

/-! ## Steps of the controller -/

section
variable {s t : State}

/-- A part that runs has nothing to keep but the controller's part. -/
theorem thermalSafe_of_running (hp : t.part.phase = .running) (h : t.zone.Legal) : ThermalSafe t :=
  (thermalSafe_iff t).mpr ⟨fun hn => absurd hp hn, h⟩

theorem thermalSafe_of_off (ho : t.zone.Off) (h : t.zone.Legal) : ThermalSafe t :=
  (thermalSafe_iff t).mpr ⟨fun _ => ho, h⟩

theorem thermalSafe_legal (h : ThermalSafe s) : s.zone.Legal := ((thermalSafe_iff s).mp h).2

theorem forSlots_thermalView {f : Slot → State → State} (h : ∀ k u, SlotFrame k u (f k u)) (s : State) :
    thermalView (forSlots f s) = thermalView s :=
  forSlots_keeps thermalView f (fun k u => slotFrame_thermalView (h k u)) s

theorem safeEntry_thermalSafe (c : SafeCause) (d : List Byte) (hs : ThermalSafe s) : ThermalSafe (safeEntry c d s) := by
  have h1 : ThermalSafe { s with zone := s.zone.enterSafe c } :=
    thermalSafe_of_off (s.zone.enterSafe_off c) ((thermalSafe_legal hs).loop.enterSafe c)
  refine thermalSafe_of_view h1 (Eq.trans ?_ (forSlots_thermalView (lockOut_slotFrame false) _))
  simp [safeEntry, thermalView, appendZone]

theorem zoneWork_thermalSafe (hr : s.part.phase = .running) (hs : ThermalSafe s) : ThermalSafe (zoneWork s) := by
  have h1 : ThermalSafe { s with zone := s.zone.compareSensors.1.rampStep.loop.afterLoop.1 } :=
    thermalSafe_of_running hr (thermalSafe_legal hs).loop.work
  unfold zoneWork raiseIf
  dsimp only
  split
  · exact thermalSafe_of_view h1 rfl
  · exact h1

theorem controlInterval_thermalSafe (p q : Option Int) (hr : s.part.phase = .running) (hs : ThermalSafe s) :
    ThermalSafe (controlInterval p q s) := by
  unfold controlInterval
  dsimp only
  split
  · have h1 : ThermalSafe { s with zone := { s.zone.readSensors p q with interval := some 1 } } :=
      thermalSafe_of_view hs rfl
    split
    · exact zoneWork_thermalSafe hr h1
    · exact safeEntry_thermalSafe _ _ h1
    · exact zoneWork_thermalSafe hr h1
  · exact hs

/-! ## Requests of the zone -/

theorem serveZoneSetpoint_thermalSafe (x : Int) (r : Nat) (hr : s.part.phase = .running) (hs : ThermalSafe s) :
    ThermalSafe (serveZoneSetpoint x r s).state := by
  unfold serveZoneSetpoint
  dsimp only
  split
  · exact hs
  · split
    · exact hs
    · split
      · exact hs
      · exact thermalSafe_of_running hr ((thermalSafe_legal hs).loop.enterRamp _ _ _)

/-- R115: an item in range leaves the gains and the fan floor in range. -/
theorem tunePut_legal {u : Tuning} {i : TuneItem} (hu : u.Legal) (hi : TuneOk i) : (tunePut u i).Legal := by
  obtain ⟨hkp, hki, hfloor⟩ := hu
  unfold TuneOk at hi
  unfold tunePut
  split at hi
  · exact ⟨hi, hki, hfloor⟩
  · exact ⟨hkp, hi, hfloor⟩
  iterate 2 exact ⟨hkp, hki, hfloor⟩
  · exact ⟨hkp, hki, hi⟩
  all_goals exact ⟨hkp, hki, hfloor⟩

theorem foldl_tuneItem_legal {l : List TuneItem} {u : Tuning} (hu : u.Legal) (hl : l.all tuneInRange = true) :
    (l.foldl tuneItem u).Legal := by
  induction l generalizing u with
  | nil => exact hu
  | cons i l ih =>
    obtain ⟨hi, hl⟩ := Bool.and_eq_true_iff.mp hl
    exact ih (tuneItem_eq u i ▸ tunePut_legal hu ((tuneInRange_iff i).mp hi)) hl

theorem serveZoneTune_thermalSafe (l : List TuneItem) (hs : ThermalSafe s) : ThermalSafe (serveZoneTune l s).state := by
  unfold serveZoneTune
  split
  · exact hs
  · split
    · exact hs
    · next hrange =>
      split
      · exact hs
      · obtain ⟨hphase, ⟨⟨houtput, hinteg, htuning⟩, hheater, hfan, hoff⟩⟩ := (thermalSafe_iff s).mp hs
        exact (thermalSafe_iff _).mpr ⟨hphase, ⟨houtput, hinteg,
          foldl_tuneItem_legal htuning (Bool.eq_true_of_not_eq_false hrange)⟩, hheater, hfan, hoff⟩

theorem serveZoneCool_thermalSafe (hr : s.part.phase = .running) (hs : ThermalSafe s) :
    ThermalSafe (serveZoneCool s).state := by
  have hl : Zone.LoopLegal { s.zone with state := .cool } := (thermalSafe_legal hs).loop.of_eq rfl rfl rfl
  unfold serveZoneCool
  split
  iterate 3 exact hs
  all_goals exact thermalSafe_of_running hr hl.drive

theorem serveZoneAbort_thermalSafe (hs : ThermalSafe s) : ThermalSafe (serveZoneAbort s).state := by
  unfold serveZoneAbort
  split
  · exact hs
  · exact safeEntry_thermalSafe _ _ hs

theorem Zone.Legal.zoneReset {z : Zone} (h : z.Legal) : z.zoneReset.Off ∧ z.zoneReset.Legal :=
  ⟨⟨rfl, rfl⟩, h.loop.still rfl (.inr rfl) rfl, ⟨le_rfl, (by decide : (0 : Int) ≤ 1000)⟩,
    h.loop.tuning.fanFloor, fun _ => ⟨rfl, rfl⟩⟩

theorem serveZoneReset_thermalSafe (hs : ThermalSafe s) : ThermalSafe (serveZoneReset s).state := by
  by_cases hz : s.zone.state = .safe
  · rw [serveZoneReset_of_safe hz]
    exact hs
  · have h1 : ThermalSafe (forSlots zoneResetSlot s) :=
      thermalSafe_of_view hs (forSlots_thermalView zoneResetSlot_slotFrame s)
    obtain ⟨hoff, hlegal⟩ := (thermalSafe_legal h1).zoneReset
    unfold serveZoneReset
    rw [if_neg hz]
    refine thermalSafe_of_view (s := { forSlots zoneResetSlot s with zone := (forSlots zoneResetSlot s).zone.zoneReset })
      (thermalSafe_of_off hoff hlegal) ?_
    simp [thermalView, answer, reply]

end

/-! ## The catalogue -/

theorem withRecord_view {s : State} {n : Nat} {f : Fin 32 → Served} (h : ∀ r, thermalView (f r).state = thermalView s) :
    thermalView (withRecord s n f).state = thermalView s := by
  unfold withRecord
  split
  · rfl
  · exact h _

/-- Every request of the catalogue keeps the property in a part that runs: those of the zone, as above, those of a slot,
which leave the controller (`OneSlot`), and those of the other blocks. -/
theorem Request.thermalSafe {f : State → Served} (h : Request f) (s : State) (hr : s.part.phase = .running)
    (hs : ThermalSafe s) : ThermalSafe (f s).state := by
  have same {t : State} (e : thermalView t = thermalView s) : ThermalSafe t := thermalSafe_of_view hs e
  cases h with
  | identify | logStatus | clockStatus | refused => exact hs
  | zoneReset => exact serveZoneReset_thermalSafe hs
  | zoneSetpoint => exact serveZoneSetpoint_thermalSafe _ _ hr hs
  | zoneTune => exact serveZoneTune_thermalSafe _ hs
  | zoneCool => exact serveZoneCool_thermalSafe hr hs
  | zoneAbort => exact serveZoneAbort_thermalSafe hs
  | zoneStatus | weightsSet | snapshotRelease | clockClear => exact same rfl
  | boardPowerUp => exact serveBoardPowerUp_oneSlot.thermalSafe hs
  | boardPowerDown => exact serveBoardPowerDown_oneSlot.thermalSafe hs
  | boardStage => exact serveBoardStage_oneSlot.thermalSafe hs
  | boardApply => exact serveBoardApply_oneSlot.thermalSafe hs
  | boardStatus => exact serveBoardStatus_oneSlot.thermalSafe hs
  | socketSetMask => exact (serveSocketSet_oneSlot maskSocket_slotFrame).thermalSafe hs
  | socketSetUnmask => exact (serveSocketSet_oneSlot unmaskSocket_slotFrame).thermalSafe hs
  | socketSetReinstate => exact (serveSocketSet_oneSlot reinstateSocket_slotFrame).thermalSafe hs
  | socketSetOther => exact (socketSetChecks_oneSlot fun k => .refl k s).thermalSafe hs
  | socketStatus => exact serveSocketStatus_oneSlot.thermalSafe hs
  | burstConfigSet => exact serveBurstConfigSet_oneSlot.thermalSafe hs
  | burstConfigQuery => exact serveBurstConfigQuery_oneSlot.thermalSafe hs
  | burstConfigOther => exact serveBurstConfigOther_oneSlot.thermalSafe hs
  | exerciseStart => exact serveExerciseStart_oneSlot.thermalSafe hs
  | exerciseStop => exact serveExerciseStop_oneSlot.thermalSafe hs
  | burstTrigger => exact serveBurstTrigger_oneSlot.thermalSafe hs
  | accountClear => exact serveAccountClear_oneSlot.thermalSafe hs
  | patternLoad =>
    refine same ?_
    unfold servePatternLoad
    dsimp only
    split
    · rfl
    · split
      · rfl
      · split <;> rfl
  | patternDefineWrite =>
    refine same (withRecord_view fun r => ?_)
    split
    · rfl
    · split <;> rfl
  | patternDefineClear => exact same (withRecord_view fun r => by split <;> rfl)
  | patternDefineQuery => exact same (withRecord_view fun _ => rfl)
  | accelTableLoad =>
    refine same ?_
    unfold serveAccelTableLoad
    split
    · rfl
    · split <;> rfl
  | accountSnapshot =>
    refine same ?_
    unfold serveAccountSnapshot
    split <;> rfl
  | accountRead =>
    refine same ?_
    unfold serveAccountRead
    split
    · rfl
    · split <;> rfl
  | logRead =>
    refine same ?_
    unfold serveLogRead
    split <;> rfl
  | logRetire =>
    refine same ?_
    unfold serveLogRetire
    dsimp only
    split <;> rfl
  | alertMask =>
    refine same ?_
    unfold serveAlertMask
    split <;> rfl
  | alertConfig =>
    refine same ?_
    unfold serveAlertConfig
    split <;> rfl
  | alertPoll =>
    refine same ?_
    unfold serveAlertPoll
    split <;> rfl
  | alertDone =>
    refine same ?_
    unfold serveAlertDone
    split
    · rfl
    · split <;> rfl

theorem takeRequest_thermalSafe (kind : Byte) {serve : State → Served} (h : Request serve) {s : State}
    (hs : ThermalSafe s) : ThermalSafe (takeRequest kind serve s) := by
  have hreceived : ThermalSafe (received s) := thermalSafe_of_view hs rfl
  obtain ⟨_, e⟩ | ⟨_, _, e⟩ | ⟨hr, l, e⟩ := takeRequest_cases kind serve s <;> rw [e]
  · exact hs
  · exact hreceived
  · exact thermalSafe_of_view (h.thermalSafe (received s) hr.1 hreceived) rfl

end Sys2Proof.Machine
end


section
/-!
PROOFS. That the events keep `ThermalSafe`, and with them every step (R105, R115 to R118).
-/

namespace Sys2Proof.Machine

open Safety

section
variable {s : State}

/-! ## The link -/

theorem whenRunning_thermalSafe {f : State → State} (hs : ThermalSafe s)
    (h : s.part.phase = .running → ThermalSafe (f s)) : ThermalSafe (whenRunning f s) := by
  by_cases hr : s.part.phase = .running
  · rw [whenRunning_of_running f s hr]
    exact h hr
  · rw [whenRunning_of_not_running f s hr]
    exact hs

theorem takeFrame_thermalSafe (kind : Byte) (p : List Byte) (hs : ThermalSafe s) : ThermalSafe (takeFrame kind p s) := by
  obtain ⟨serve, hr, e⟩ := takeFrame_request kind p s
  rw [e]
  exact takeRequest_thermalSafe kind hr hs

theorem receiveByte_thermalSafe (b : List Byte) (hs : ThermalSafe s) : ThermalSafe (receiveByte b s) := by
  unfold receiveByte
  dsimp only
  split
  · exact thermalSafe_of_view hs rfl
  · split
    · exact thermalSafe_of_view hs rfl
    · split
      · unfold frameArrived
        dsimp only
        split
        · exact takeFrame_thermalSafe _ _ (thermalSafe_of_view hs rfl)
        · exact thermalSafe_of_view hs rfl
      · exact thermalSafe_of_view hs rfl

theorem byteArrived_thermalSafe (b : Byte) (stop : Bool) (hs : ThermalSafe s) :
    ThermalSafe (byteArrived b stop s) := by
  unfold byteArrived
  split
  · split
    · exact thermalSafe_of_view hs rfl
    · exact hs
  · split
    · exact receiveByte_thermalSafe _ hs
    · exact thermalSafe_of_view hs rfl

theorem beginAlert_thermalView (s : State) : thermalView (beginAlert s) = thermalView s := by
  unfold beginAlert
  split <;> rfl

theorem frameSent_thermalView (s : State) : thermalView (frameSent s) = thermalView s := by
  unfold frameSent
  split
  · rfl
  · unfold whenRunning sendNext
    dsimp only
    split
    · split
      · rfl
      · rw [beginAlert_thermalView]; rfl
    · rfl

/-! ## Intervals, references and the clock monitor -/

theorem accountInterval_thermalView (s : State) : thermalView (accountInterval s) = thermalView s := by
  unfold accountInterval
  split
  · dsimp only
    rw [captureSnapshot_frame]
    rfl
  · rfl

theorem tickSec_thermalView (s : State) : thermalView (tickSec s) = thermalView s := by
  unfold tickSec
  split <;> rfl

theorem raiseClock_thermalView (s : State) : thermalView (raiseClock s) = thermalView s := by
  unfold raiseClock
  split <;> rfl

theorem whileHoldover_thermalView {f : State → State} (h : thermalView (f s) = thermalView s) :
    thermalView (whileHoldover f s) = thermalView s := by
  unfold whileHoldover
  split
  · exact h
  · rfl

theorem holdoverDetected_thermalView (s : State) : thermalView (holdoverDetected s) = thermalView s := by
  unfold holdoverDetected
  split
  · rw [raiseClock_thermalView]; rfl
  · rfl

theorem qualified_thermalView (s : State) : thermalView (qualified s) = thermalView s := by
  unfold qualified
  split
  · rw [raiseClock_thermalView]; rfl
  · rfl

/-! ## Power -/

/-- R117: from the start of a commit the heater is off and the fan full on. -/
theorem Zone.LoopLegal.commit {z : Zone} (h : z.LoopLegal) : z.commit.Off ∧ z.commit.Legal :=
  ⟨⟨rfl, rfl⟩, h.of_eq rfl rfl rfl, ⟨le_rfl, (by decide : (0 : Int) ≤ 1000)⟩,
    ⟨(by decide : (0 : Int) ≤ 1000), le_rfl⟩, fun _ => ⟨rfl, rfl⟩⟩

theorem commitStart_thermalSafe (kept : Bool) (hs : ThermalSafe s) : ThermalSafe (commitStart kept s) := by
  have hblocks : ThermalSafe (forSlots commitBlocks s) :=
    thermalSafe_of_view hs (forSlots_thermalView commitBlocks_slotFrame s)
  obtain ⟨hoff, hlegal⟩ := (thermalSafe_legal hblocks).loop.commit
  rw [commitStart_eq]
  exact thermalSafe_of_off hoff hlegal

/-- R127: the reset values of the controller. -/
theorem blank_thermalSafe (p : Phase) (s : State) : ThermalSafe (blank p s) := by
  have hreset : Zone.Legal zoneReset :=
    ⟨⟨by decide, by decide, by decide, by decide, by decide⟩, by decide, by decide, fun _ => ⟨rfl, rfl⟩⟩
  exact thermalSafe_of_off ⟨rfl, rfl⟩ hreset

theorem start_thermalSafe (s : State) : ThermalSafe (start s) := blank_thermalSafe _ s

/-- A part that does not run may take any phase. -/
theorem thermalSafe_of_phase {p : Part} (hs : ThermalSafe s) (hp : s.part.phase ≠ .running) :
    ThermalSafe { s with part := p } := by
  obtain ⟨hoff, hlegal⟩ := (thermalSafe_iff s).mp hs
  exact thermalSafe_of_off (hoff hp) hlegal

theorem powerFail_thermalSafe (hs : ThermalSafe s) : ThermalSafe (powerFail s) := by
  unfold powerFail
  split
  · exact commitStart_thermalSafe false hs
  · exact thermalSafe_of_view hs rfl
  all_goals exact hs

theorem resetAsserted_thermalSafe (hs : ThermalSafe s) : ThermalSafe (resetAsserted s) := by
  unfold resetAsserted
  split
  · exact commitStart_thermalSafe true hs
  · next h => exact thermalSafe_of_phase hs (by rw [h]; decide)
  · exact thermalSafe_of_view hs rfl
  all_goals exact hs

theorem resetReleased_thermalSafe (hs : ThermalSafe s) : ThermalSafe (resetReleased s) := by
  unfold resetReleased
  split
  iterate 2 exact start_thermalSafe s
  all_goals exact hs

theorem commitComplete_thermalSafe (hs : ThermalSafe s) : ThermalSafe (commitComplete s) := by
  by_cases h : s.part.phase = .commit
  · rw [commitComplete, if_pos h]
    dsimp only
    split
    · exact start_thermalSafe _
    · exact thermalSafe_of_view (thermalSafe_of_phase (p := { s.part with phase := .retained }) hs (by rw [h]; decide)) rfl
  · rwa [commitComplete, if_neg h]

theorem checkOutcome_zone (s : State) : (checkOutcome s).zone = s.zone := by
  unfold checkOutcome
  dsimp only
  split <;> simp [appendZone, restoreImage, loseImage]

/-- R184: the part begins to run with the heater off, as it was. -/
theorem retentionCheckEnd_thermalSafe (hs : ThermalSafe s) : ThermalSafe (retentionCheckEnd s) := by
  have hc : (checkOutcome s).zone.Legal := checkOutcome_zone s ▸ thermalSafe_legal hs
  have hshared : ThermalSafe (runningShared (checkOutcome s)) := by
    refine thermalSafe_of_running rfl ?_
    exact ⟨hc.loop.of_eq rfl rfl rfl, hc.outputs.heater, hc.outputs.fan, hc.outputs.off⟩
  have hrun : ThermalSafe (runningStart (checkOutcome s)) := by
    rw [runningStart_eq]
    exact thermalSafe_of_view hshared (forSlots_thermalView findBoard_slotFrame _)
  unfold retentionCheckEnd
  dsimp only
  split
  · split
    · exact commitStart_thermalSafe false hrun
    · exact hrun
  · exact hs

end

/-! ## Every step -/

/-- Every command keeps the property. -/
theorem exec_thermalSafe {i : Instr} {s t : State} (hs : ThermalSafe s) (h : exec i s = .next t) : ThermalSafe t := by
  cases hf : requestFrame i with
  | some f =>
    obtain e | ⟨kind, serve, hr, e⟩ := exec_request i f hf s
    · rw [e] at h
      injection h with h
      exact h ▸ whenRunning_thermalSafe hs fun _ => thermalSafe_of_view hs rfl
    · rw [e] at h
      injection h with h
      exact h ▸ takeRequest_thermalSafe kind hr hs
  | none =>
    have view {u : State} {f : State → State} (hu : thermalView u = thermalView s)
        (hv : thermalView (f u) = thermalView u) : ThermalSafe (whenRunning f u) :=
      whenRunning_thermalSafe (thermalSafe_of_view hs hu) fun _ => thermalSafe_of_view hs (hv.trans hu)
    have slot {f : State → State} {k : Slot} (hk : SlotFrame k s (f s)) : ThermalSafe (whenRunning f s) :=
      whenRunning_thermalSafe hs fun _ => thermalSafe_of_view hs (slotFrame_thermalView hk)
    cases i
    all_goals simp only [requestFrame, reduceCtorEq] at hf
    all_goals
      injection h with h
      subst h
    case frameDiscarded => exact view rfl rfl
    case receiveTimeout => exact view rfl (by split <;> rfl)
    case frameSent => exact thermalSafe_of_view hs (frameSent_thermalView s)
    case alertFrame => exact view rfl (beginAlert_thermalView s)
    case boardInserted k => exact view rfl (slotFrame_thermalView (boardInserted_slotFrame k _))
    case boardRemoved k => exact view rfl (slotFrame_thermalView (boardRemoved_slotFrame k _))
    case identityAnswer k a d => exact slot (identityAnswer_slotFrame k a d s)
    case identityTimeout k => exact slot (identityTimeout_slotFrame k s)
    case settleLimitExpiry k r => exact slot (settleExpired_slotFrame k r s)
    case inrushDwellExpiry k => exact slot (dwellExpired_slotFrame k s)
    case drainLimitExpiry k => exact slot (drainExpired_slotFrame k s)
    case switchFault k n a =>
      split
      · exact view rfl (slotFrame_thermalView (tripSocket_slotFrame k n _ _ _))
      · exact thermalSafe_of_view hs rfl
    case retryExpiry k n => exact slot (retryExpired_switchesKept k n s).slotFrame
    case conversionEnd k v => exact slot (conversionEnd_slotFrame k v s)
    case riseHoldExpiry k => exact slot (riseHoldExpired_reporting k s).slotFrame
    case throttleFallExpiry k => exact slot (fallExpired_reporting k s).slotFrame
    case vectorBoundary k => exact slot (vectorBoundary_reporting k s).slotFrame
    case burstEnd k => exact slot (burstEnd_slotFrame k s)
    case gapExpiry k => exact slot (gapExpired_reporting k s).slotFrame
    case sampleInstant k g b => exact slot (sampleInstant_reporting k g b s).slotFrame
    case controlInterval p q => exact whenRunning_thermalSafe hs fun hr => controlInterval_thermalSafe p q hr hs
    case accountIntervalExpiry => exact view rfl (accountInterval_thermalView s)
    case reference1ms => exact view rfl rfl
    case reference1s => exact view rfl (tickSec_thermalView s)
    case holdoverDetection => exact thermalSafe_of_view hs (holdoverDetected_thermalView s)
    case qualificationStart | qualificationFail => exact thermalSafe_of_view hs (whileHoldover_thermalView rfl)
    case qualificationSuccess => exact thermalSafe_of_view hs (whileHoldover_thermalView (qualified_thermalView s))
    case powerFailAssert level =>
      have h1 : ThermalSafe { s with lines.powerFail := level } := thermalSafe_of_view hs rfl
      dsimp only
      split
      · exact powerFail_thermalSafe h1
      · exact h1
    case resetAssert => exact resetAsserted_thermalSafe (thermalSafe_of_view hs rfl)
    case commitComplete => exact commitComplete_thermalSafe hs
    case resetRelease =>
      split
      · exact resetReleased_thermalSafe (thermalSafe_of_view hs rfl)
      · exact hs
    case powerOnReset => exact start_thermalSafe _
    case powerLoss => exact blank_thermalSafe _ s
    case backupSupplyLoss => exact thermalSafe_of_view hs rfl
    case retentionCheckEnd => exact retentionCheckEnd_thermalSafe hs
    case byteArrival b stop => exact whenRunning_thermalSafe hs fun _ => byteArrived_thermalSafe b stop hs

/-- Settles O57: a step is the front command on the state with the queue's rest. The controller is changed by its own
requests and intervals, by ZONE-RESET, by a commit and by a start; the loop keeps the integrator within its bound since it
drops a candidate beyond it (`loopStep_integ`), and every other step leaves what the property speaks of (`thermalView`). -/
theorem everyStepKeepsThermalSafe : Obligations.EveryStepKeepsThermalSafe := by
  intro s t hs h
  unfold step at h
  split at h
  · injection h with h
    exact h ▸ hs
  · refine exec_thermalSafe ?_ h
    exact hs

end Sys2Proof.Machine
end


section
/-!
PROOFS. The requests of the zone: ZONE-SETPOINT and ZONE-COOL (R110, R114, R117, R125), and ZONE-TUNE (R115).
-/

namespace Sys2Proof.Machine

open Safety

/-! ## ZONE-SETPOINT and ZONE-COOL -/

/-- R110, R117: what RAMP entry leaves of the zone. -/
theorem Zone.enterRamp_eq (z : Zone) (t r : Int) (e : Option Int) : z.enterRamp t r e =
    { z with state := .ramp, target := some t, rampRate := r, effective := e, output := 0, settleCount := 0
             excCount := 0, heater := 0, fan := max z.tuning.fanFloor 0, heatEn := true } := by
  rw [enterRamp, drive_heats rfl]
  rfl

section
variable {s : State} {target : Int} {rate : Nat}

theorem serveZoneSetpoint_of_safe (h : s.zone.state = .safe) :
    serveZoneSetpoint target rate s = answer s .refusedSafe :=
  if_pos h

theorem serveZoneSetpoint_of_outOfRange (h : s.zone.state ≠ .safe)
    (hr : target < -640 ∨ 3200 < target ∨ rate = 0 ∨ 160 < rate) :
    serveZoneSetpoint target rate s = answer s .refusedRange := by
  have hbad : tempInRange target = false ∨ rate = 0 ∨ 160 < rate := by
    rw [← Bool.not_eq_true, tempInRange_iff]
    omega
  rw [serveZoneSetpoint, if_neg h, if_pos hbad]

/-- R110: a request in range, outside SAFE. -/
theorem serveZoneSetpoint_of_inRange (h : s.zone.state ≠ .safe) (ht : -640 ≤ target ∧ target ≤ 3200)
    (hr : 1 ≤ rate ∧ rate ≤ 160) : serveZoneSetpoint target rate s =
      if s.zone.state = .idle ∧ s.zone.lastValid = none then answer s .refusedState
      else reply
        { s with zone := s.zone.enterRamp (min (s.zone.tuning.zoneCutoff - 80) target) rate
                           (if s.zone.state = .idle then s.zone.lastValid else s.zone.effective) }
        (if s.zone.tuning.zoneCutoff - 80 < target then .clamped else .ok)
        (s16 (min (s.zone.tuning.zoneCutoff - 80) target)) := by
  have hgood : ¬ (tempInRange target = false ∨ rate = 0 ∨ 160 < rate) := by
    rw [(tempInRange_iff target).mpr ht, Bool.true_eq_false, false_or]
    omega
  rw [serveZoneSetpoint, if_neg h, if_neg hgood]

/-- R110: a ramp from the present temperature needs a valid reading. -/
theorem serveZoneSetpoint_unread (hz : s.zone.state = .idle) (hn : s.zone.lastValid = none)
    (ht : -640 ≤ target ∧ target ≤ 3200) (hr : 1 ≤ rate ∧ rate ≤ 160) :
    serveZoneSetpoint target rate s = answer s .refusedState := by
  rw [serveZoneSetpoint_of_inRange (by rw [hz]; decide) ht hr, if_pos ⟨hz, hn⟩]

/-- R110: a request taken, with the effective setpoint it starts from. -/
theorem serveZoneSetpoint_taken {e : Option Int} (h : s.zone.state ≠ .safe) (ht : -640 ≤ target ∧ target ≤ 3200)
    (hr : 1 ≤ rate ∧ rate ≤ 160)
    (he : s.zone.state = .idle ∧ s.zone.lastValid = e ∧ e ≠ none ∨ s.zone.state ≠ .idle ∧ s.zone.effective = e) :
    serveZoneSetpoint target rate s = reply
      { s with zone := s.zone.enterRamp (min (s.zone.tuning.zoneCutoff - 80) target) rate e }
      (if s.zone.tuning.zoneCutoff - 80 < target then .clamped else .ok)
      (s16 (min (s.zone.tuning.zoneCutoff - 80) target)) := by
  rw [serveZoneSetpoint_of_inRange h ht hr]
  obtain ⟨hz, hv, hsome⟩ | ⟨hz, hv⟩ := he
  · rw [if_neg fun hn => hsome (hv.symm.trans hn.2), if_pos hz, hv]
  · rw [if_neg fun hn => hz hn.1, if_neg hz, hv]

/-- R110, R187: the status byte of a target taken, CLAMPED or OK. -/
theorem setpointStatus_bytes (p : Prop) [Decidable p] :
    u8 (if p then Status.clamped else .ok).code = [if p then 2 else 0] := by
  split <;> rfl

theorem serveZoneCool_of_safe (h : s.zone.state = .safe) : serveZoneCool s = answer s .refusedSafe := by
  simp only [serveZoneCool, h]

theorem serveZoneCool_of_still (h : s.zone.state = .idle ∨ s.zone.state = .cool) :
    serveZoneCool s = answer s .ok := by
  obtain h | h := h <;> simp only [serveZoneCool, h]

theorem serveZoneCool_of_heats (h : s.zone.state.heats = true) : serveZoneCool s =
    answer { s with zone := { s.zone with state := .cool, heater := 0
                                          fan := max s.zone.tuning.fanFloor (-s.zone.output), heatEn := false } } .ok := by
  obtain e | e | e := (ZoneState.heats_iff _).mp h <;>
    simp only [serveZoneCool, e, Zone.drive_cool (z := { s.zone with state := .cool }) rfl]

end

/-- Settles O44: each request by the zone's state and its operands. The link, which the answer is written to, is read by
neither. -/
theorem setpointAndCoolDriveTheZone : Obligations.SetpointAndCoolDriveTheZone := by
  intro s target rate h z set limit ramp taken
  have answered {kind : Byte} {serve : State → Served} {v : State} {payload : List Byte}
      (e : serve (received s) = ⟨received v, payload⟩) :
      Host.Outcome.next (takeRequest kind serve s) = (.next (replied kind payload v) : Host.Outcome State Fault Refusal) :=
    congrArg _ (takeRequest_replied _ _ s v payload h e)
  refine ⟨fun hz => ⟨answered (serveZoneSetpoint_of_safe hz), answered (serveZoneCool_of_safe hz)⟩,
    fun hz hbad => answered (serveZoneSetpoint_of_outOfRange hz hbad), fun h1 h2 h3 h4 => ?_,
    fun hz => answered (serveZoneCool_of_still hz),
    fun hz => answered (serveZoneCool_of_heats ((ZoneState.heats_iff _).mpr hz))⟩
  have accepted {e : Option Int} (hz : z.state ≠ .safe)
      (he : z.state = .idle ∧ z.lastValid = e ∧ e ≠ none ∨ z.state ≠ .idle ∧ z.effective = e) :
      set = taken e := by
    refine answered ((serveZoneSetpoint_taken (s := received s) hz ⟨h1, h2⟩ ⟨h3, h4⟩ he).trans ?_)
    rw [reply, setpointStatus_bytes, Zone.enterRamp_eq]
    rfl
  exact ⟨fun hz hn => answered (serveZoneSetpoint_unread (s := received s) hz hn ⟨h1, h2⟩ ⟨h3, h4⟩),
    fun e hz hv => accepted (by rw [hz]; decide) (.inl ⟨hz, hv, Option.some_ne_none e⟩),
    fun hz hsafe => accepted hsafe (.inr ⟨hz, rfl⟩)⟩

/-! ## ZONE-TUNE -/

section
variable {s : State} {items : List TuneItem}

/-- R115: the zone cutoff that an item gives is below the target plus 80. -/
def TuneLow (s : State) (i : TuneItem) : Prop := i.code = 5 ∧ ∃ g, s.zone.target = some g ∧ i.value < g + 80

theorem cutoffTooLow_iff (i : TuneItem) : cutoffTooLow s.zone i = true ↔ TuneLow s i := by
  unfold cutoffTooLow TuneLow
  cases s.zone.target <;> simp

theorem all_tuneInRange_iff : items.all tuneInRange = true ↔ ∀ i ∈ items, TuneOk i := by
  simp only [List.all_eq_true, tuneInRange_iff]

theorem serveZoneTune_of_long (h : 10 < items.length) : serveZoneTune items s = answer s .refusedLength :=
  if_pos h

theorem serveZoneTune_of_outOfRange (hl : items.length ≤ 10) (h : ∃ i ∈ items, ¬ TuneOk i) :
    serveZoneTune items s = answer s .refusedRange := by
  have hbad : items.all tuneInRange = false := by
    rw [← Bool.not_eq_true, all_tuneInRange_iff]
    push Not
    exact h
  rw [serveZoneTune, if_neg (by omega), if_pos hbad]

theorem serveZoneTune_of_low (hl : items.length ≤ 10) (hok : ∀ i ∈ items, TuneOk i)
    (h : ∃ i ∈ items, TuneLow s i) :
    serveZoneTune items s = answer s .refusedState := by
  have hlow : items.any (cutoffTooLow s.zone) = true := by simpa only [List.any_eq_true, cutoffTooLow_iff] using h
  rw [serveZoneTune, if_neg (by omega), all_tuneInRange_iff.mpr hok, if_neg (by decide), if_pos hlow]

/-- R115: a list taken, with every item written in order. -/
theorem serveZoneTune_of_ok (hl : items.length ≤ 10) (hok : ∀ i ∈ items, TuneOk i)
    (h : ∀ i ∈ items, ¬ TuneLow s i) :
    serveZoneTune items s = reply { s with zone.tuning := items.foldl tunePut s.zone.tuning } .ok
      (tuningBytes (items.foldl tunePut s.zone.tuning)) := by
  have hlow : ¬ items.any (cutoffTooLow s.zone) = true := by
    simp only [List.any_eq_true, cutoffTooLow_iff]
    push Not
    exact h
  have hput : tuneItem = tunePut := funext fun t => funext fun i => tuneItem_eq t i
  rw [serveZoneTune, if_neg (by omega), all_tuneInRange_iff.mpr hok, if_neg (by decide), if_neg hlow, hput]

end

/-- Settles O45: the clauses on lists of named items are cases of those on every list. -/
theorem zoneTuneWritesEveryItemOrNone : Obligations.ZoneTuneWritesEveryItemOrNone := by
  intro s h t tune taken
  have answered {items : List TuneItem} {v : State} {payload : List Byte}
      (e : serveZoneTune items (received s) = ⟨received v, payload⟩) : tune items = .next (replied 0x04 payload v) :=
    congrArg _ (takeRequest_replied _ _ s v payload h e)
  have written {items : List TuneItem} (hl : items.length ≤ 10) (hok : ∀ i ∈ items, TuneOk i)
      (hlow : ∀ i ∈ items, ¬ TuneLow s i) : tune items = taken (items.foldl tunePut t) :=
    answered (serveZoneTune_of_ok (s := received s) hl hok hlow)
  have low {items : List TuneItem} (hl : items.length ≤ 10) (hok : ∀ i ∈ items, TuneOk i)
      (hlow : ∃ i ∈ items, TuneLow s i) : tune items = .next (replied 0x04 [3] s) :=
    answered (serveZoneTune_of_low (s := received s) hl hok hlow)
  have outOfRange {items : List TuneItem} (hl : items.length ≤ 10) (hbad : ∃ i ∈ items, ¬ TuneOk i) :
      tune items = .next (replied 0x04 [4] s) :=
    answered (serveZoneTune_of_outOfRange hl hbad)
  refine ⟨written (by simp) (by simp) (by simp), fun p i h1 h2 h3 h4 => ?_, fun b n h1 h2 h3 h4 => ?_,
    fun f y h1 h2 h3 h4 => ?_, fun x w g h1 h2 h3 h4 h5 h6 => ?_, fun z h1 h2 hg => ?_, fun z g h1 h2 hg hz => ?_,
    fun p i hp => ?_, fun items hl => answered (serveZoneTune_of_long hl),
    fun items hl => ⟨written hl, low hl, outOfRange hl⟩⟩
  iterate 4 exact written (by simp) (by simp [TuneOk, *]) (by simp [TuneLow])
  · exact written (by simp) (by simp [TuneOk, *]) (by simpa [TuneLow] using hg)
  · exact low (by simp) (by simp [TuneOk, *]) (by simp [TuneLow, hg, hz])
  · refine outOfRange (by simp) ⟨⟨0, p⟩, by simp, ?_⟩
    simp only [TuneOk]
    omega

end Sys2Proof.Machine
end


section
/-!
PROOFS. SAFE entry (R106, R109, R123 to R125): what it leaves of each slot and of the blocks that the slots share, and the
requests and readings that cause it.
-/

namespace Sys2Proof.Machine

open Safety

/-! ## SAFE entry -/

/-- R124: what SAFE entry leaves of slot `k`. -/
def LockedOut (k : Slot) (s t : State) : Prop :=
  ((s.slot k).board.live = true →
      (t.slot k).board = .present ∧ HardOff (t.slot k) ∧ (t.channel k).state = .idle
        ∧ t.throttle k = ⟨0, none, none⟩)
    ∧ ((s.slot k).board.live = false → t.slot k = s.slot k ∧ t.channel k = s.channel k)

theorem lockOut_lockedOut (k : Slot) (s : State) : LockedOut k s (lockOut false k s) := by
  obtain ⟨hl, e⟩ | ⟨hl, e⟩ := lockOut_cases false k s <;> rw [LockedOut, e, hl]
  · obtain ⟨hboard, hoff, hstate, _, _, _, _, hthrottle⟩ := takeDown_spec k .present false s rfl
    exact ⟨fun _ => ⟨hboard, hoff, hstate, hthrottle⟩, fun hf => by cases hf⟩
  · exact ⟨fun hf => (by cases hf), fun _ => ⟨rfl, rfl⟩⟩

theorem forSlots_lockedOut (s : State) (k : Slot) : LockedOut k s (forSlots (lockOut false) s) := by
  obtain ⟨u, _, hu, ht⟩ := forSlots_slotView (lockOut false) (lockOut_slotFrame false) (fun _ => True)
    (fun _ _ _ => trivial) s trivial k
  have h := lockOut_lockedOut k u
  obtain ⟨huslot, _, huchan, _, _⟩ := slotView_eq.mp hu
  obtain ⟨htslot, _, htchan, _, htthrottle⟩ := slotView_eq.mp ht
  rwa [LockedOut, huslot, huchan, ← htslot, ← htchan, ← htthrottle] at h

theorem Zone.enterSafe_eq (z : Zone) (c : SafeCause) : z.enterSafe c =
    { z with state := .safe, safeCause := some c, integ := 0, settleCount := 0, excCount := 0, output := 0,
             safeLine := true, heater := 0, fan := 1000, heatEn := false } := by
  rw [enterSafe, drive_safe rfl]

theorem safeEntry_zone (c : SafeCause) (d : List Byte) (s : State) : (safeEntry c d s).zone =
    { s.zone.enterSafe c with throttle := (safeEntry c d s).zone.throttle } := by
  obtain ⟨_, _, _, _, _, _, hzone⟩ :=
    forSlots_sharedKept (lockOut false) (lockOut_slotFrame false) { s with zone := s.zone.enterSafe c }
  simpa [safeEntry, appendZone] using hzone

theorem safeEntry_link (c : SafeCause) (d : List Byte) (s : State) : (safeEntry c d s).link = s.link := by
  have h := forSlots_keeps State.link (lockOut false) (fun k u => by simp) { s with zone := s.zone.enterSafe c }
  simpa [safeEntry, appendZone] using h

/-- R123, R124: what SAFE entry leaves. -/
theorem safeEntry_entered (c : SafeCause) (d : List Byte) (s : State) : SafeEntered c d s (safeEntry c d s) := by
  have hz := safeEntry_zone c d s
  obtain ⟨hpart, hlines, hstore, hclock, hret, _, _⟩ :=
    forSlots_sharedKept (lockOut false) (lockOut_slotFrame false) { s with zone := s.zone.enterSafe c }
  have hslots := forSlots_lockedOut { s with zone := s.zone.enterSafe c }
  rw [SafeEntered, hz, Zone.enterSafe, Zone.drive_safe rfl]
  refine ⟨rfl, rfl, rfl, rfl, rfl, rfl, rfl, rfl, fun k => ?_, ?_, ?_, ?_⟩
  · simpa [safeEntry, appendZone, LockedOut] using hslots k
  · exact newestIs_of_eq (appendEntry_newest none none .zoneSafe _ _) rfl rfl rfl
  · simp [safeEntry, sourceBit, Source.number]
  · simp [safeEntry, appendZone, hpart, hlines, hstore, hclock, hret]

/-! ## Sensors -/

/-- A valid reading (section 1.5). -/
def ValidTemp (a : Int) : Prop := -640 ≤ a ∧ a ≤ 3200

section
variable {r p q : SensorRecord} {a : Int} {s : State}

theorem SensorRecord.read_valid (h : ValidTemp a) : r.read (some a) = ⟨a, true, 0⟩ :=
  if_pos ((tempInRange_iff a).mpr h)

/-- R106: a reading out of range, or none. -/
def Lost (x : Option Int) : Prop := ∀ a, x = some a → a < -640 ∨ 3200 < a

theorem lost_none : Lost none := fun _ h => by cases h

/-- R106: what a lost reading leaves: the clamped reading where there is one, and a fault. -/
def SensorRecord.missed (r : SensorRecord) (x : Option Int) : SensorRecord :=
  ⟨x.elim r.temp clampTemp, false, min 3 (r.faults + 1)⟩

theorem SensorRecord.read_lost {x : Option Int} (h : Lost x) : r.read x = r.missed x := by
  rw [missed, ← satInc_eq_min]
  cases x with
  | none => rfl
  | some a =>
    refine if_neg ?_
    rw [tempInRange_iff]
    have := h a rfl
    omega

/-! ## The causes of an interval -/

theorem Zone.safeCheck_primary {z : Zone} (hp : z.primary = ⟨a, true, 0⟩) (h : z.tuning.zoneCutoff ≤ a) :
    z.safeCheck = some (.airOvertemp, 0 :: s16 a) := by
  rw [safeCheck, SensorRecord.atCutoff, hp, decide_eq_true h]
  rfl

theorem Zone.safeCheck_secondary {z : Zone} (hp : z.primary.valid = false) (hq : z.secondary = ⟨a, true, 0⟩)
    (h : z.tuning.zoneCutoff ≤ a) : z.safeCheck = some (.airOvertemp, 1 :: s16 a) := by
  rw [safeCheck, SensorRecord.atCutoff, SensorRecord.atCutoff, hp, hq, decide_eq_true h]
  rfl

theorem Zone.safeCheck_lost {z : Zone} (hp : z.primary.valid = false) (hq : z.secondary.valid = false)
    (h : z.primary.faults = 3 ∧ z.secondary.faults = 3) : z.safeCheck = some (.sensorsLost, []) := by
  rw [safeCheck, SensorRecord.atCutoff, SensorRecord.atCutoff, hp, hq, if_pos h]
  rfl

/-! ## A control interval -/

/-- R106, R107: the zone once the readings of an interval are taken and its timer runs again. -/
def Zone.sensed (z : Zone) (p q : Option Int) : Zone := { z.readSensors p q with interval := some 1 }

theorem exec_controlInterval (hr : s.part.phase = .running) (p q : Option Int) :
    exec (.controlInterval p q) s = .next (controlInterval p q s) :=
  congrArg _ (whenRunning_of_running _ s hr)

section
variable {p q : Option Int} {c : SafeCause} {d : List Byte} (hd : s.zone.interval = some 0)

include hd

/-- R109: an interval with a SAFE condition, outside SAFE. -/
theorem controlInterval_enters (hz : s.zone.state ≠ .safe) (h : (s.zone.sensed p q).safeCheck = some (c, d)) :
    controlInterval p q s = safeEntry c d { s with zone := s.zone.sensed p q } := by
  rw [controlInterval, if_pos ((Timer.due_iff _).mpr hd)]
  dsimp only
  split
  · next e => exact absurd e hz
  · next e _ => rw [Option.some.inj (e.symm.trans h)]; rfl
  · next e _ => cases e.symm.trans h

/-- R109: an interval in SAFE, or one without a SAFE condition. -/
theorem controlInterval_works (h : s.zone.state = .safe ∨ (s.zone.sensed p q).safeCheck = none) :
    controlInterval p q s = zoneWork { s with zone := s.zone.sensed p q } := by
  rw [controlInterval, if_pos ((Timer.due_iff _).mpr hd)]
  dsimp only
  split
  · rfl
  · next e hn =>
    obtain hz | hnone := h
    · exact absurd hz hn
    · cases e.symm.trans hnone
  · rfl

/-- R109, R123: what an interval with a SAFE condition leaves. -/
theorem controlInterval_entered (hr : s.part.phase = .running) (hz : s.zone.state ≠ .safe)
    (h : (s.zone.sensed p q).safeCheck = some (c, d)) :
    ∃ t : State, exec (.controlInterval p q) s = .next t ∧ SafeEntered c d s t ∧ t.zone.interval = some 1
      ∧ t.link = s.link ∧ t.zone.lastValid = (s.zone.sensed p q).lastValid := by
  have hzone := safeEntry_zone c d { s with zone := s.zone.sensed p q }
  rw [Zone.enterSafe_eq] at hzone
  exact ⟨_, (exec_controlInterval hr p q).trans (congrArg _ (controlInterval_enters hd hz h)),
    safeEntry_entered c d { s with zone := s.zone.sensed p q }, by rw [hzone]; rfl, safeEntry_link _ _ _,
    by rw [hzone]⟩

end

end

/-- Settles O46: ZONE-ABORT and each condition of an interval enter SAFE, and `safeEntry_entered` says what that leaves. -/
theorem safeEntryLocksTheZoneOut : Obligations.SafeEntryLocksTheZoneOut := by
  intro s
  refine ⟨fun h hz => ?_, fun h hz => ?_, fun hr hd hz =>
    ⟨fun a q h1 h2 hc => ?_, fun a h1 h2 hc => ?_, fun hp hq => ?_⟩⟩
  · have hserve : serveZoneAbort (received s) = answer (safeEntry .hostAbort [] (received s)) .ok := if_neg hz
    have hlink := safeEntry_link .hostAbort [] (received s)
    refine ⟨safeEntry .hostAbort [] (received s), ?_, safeEntry_entered .hostAbort [] (received s), ?_⟩
    · have := takeRequest_next 0x06 serveZoneAbort s h (by rw [hserve]; exact hlink)
      rw [hserve] at this
      exact congrArg _ this
    · rw [received_link, hlink]
      rfl
  · exact congrArg _ (takeRequest_replied _ _ s s _ h (if_pos hz))
  · obtain ⟨t, he, hs, hi, hl, _⟩ := controlInterval_entered hd hr hz (p := some a) (q := q)
      (Zone.safeCheck_primary (SensorRecord.read_valid ⟨h1, h2⟩) hc)
    exact ⟨t, he, hs, hi, hl⟩
  · obtain ⟨t, he, hs, hi, hl, _⟩ := controlInterval_entered hd hr hz (p := none) (q := some a)
      (Zone.safeCheck_secondary rfl (SensorRecord.read_valid ⟨h1, h2⟩) hc)
    exact ⟨t, he, hs, hi, hl⟩
  · have lost (r : SensorRecord) (h : 2 ≤ r.faults) : (r.read none).faults = 3 :=
      (congrArg SensorRecord.faults (SensorRecord.read_lost lost_none)).trans (Nat.min_eq_left (by omega))
    exact controlInterval_entered hd hr hz (p := none) (q := none)
      (Zone.safeCheck_lost rfl rfl ⟨lost _ hp, lost _ hq⟩)

end Sys2Proof.Machine
end


section
/-!
PROOFS. A control interval without a SAFE condition (R106 to R108, R111 to R118): the sensors and their comparison, the ramp
step, the loop, and the counts that follow it, each said once; then the interval, as these four in their order.
-/

namespace Sys2Proof.Machine

open Safety

section
variable {z : Zone} {p q : Option Int} {a b e g x : Int} {c : ControlTemp}

/-! ## Sensors -/

/-- R106, R107: the zone once both readings of an interval are valid, with the outcome of their comparison (R108). -/
def Zone.both (z : Zone) (a b : Int) (n : Nat) (note : Bool) : Zone :=
  { z with primary := ⟨a, true, 0⟩, secondary := ⟨b, true, 0⟩, control := some ⟨a, .primary⟩, lastValid := some a
           interval := some 1, discCount := n, discNote := note }

/-- R106 to R108: the zone once the secondary reading alone is valid. -/
def Zone.secondOnly (z : Zone) (p : Option Int) (b : Int) : Zone :=
  { z with primary := z.primary.missed p, secondary := ⟨b, true, 0⟩, control := some ⟨b, .secondary⟩
           lastValid := some b, interval := some 1, discCount := 0 }

/-- R106 to R108: the zone once neither reading is valid. -/
def Zone.neither (z : Zone) (p q : Option Int) : Zone :=
  { z with primary := z.primary.missed p, secondary := z.secondary.missed q, control := none, interval := some 1
           discCount := 0 }

theorem Zone.sensed_both (ha : ValidTemp a) (hb : ValidTemp b) :
    z.sensed (some a) (some b) = z.both a b z.discCount z.discNote := by
  rw [sensed, readSensors, SensorRecord.read_valid ha, SensorRecord.read_valid hb]
  rfl

theorem Zone.sensed_second (hp : Lost p) (hb : ValidTemp b) :
    z.sensed p (some b) = { z.secondOnly p b with discCount := z.discCount } := by
  rw [sensed, readSensors, SensorRecord.read_lost hp, SensorRecord.read_valid hb]
  rfl

theorem Zone.sensed_neither (hp : Lost p) (hq : Lost q) :
    z.sensed p q = { z.neither p q with discCount := z.discCount } := by
  rw [sensed, readSensors, SensorRecord.read_lost hp, SensorRecord.read_lost hq]
  rfl

/-! ## SAFE conditions -/

theorem SensorRecord.atCutoff_below {n : Nat} (h : a < x) : SensorRecord.atCutoff ⟨a, true, n⟩ x = false := by
  rw [atCutoff, decide_eq_false (Int.not_le.mpr h)]
  rfl

theorem Zone.safeCheck_none (hp : z.primary.atCutoff z.tuning.zoneCutoff = false)
    (hq : z.secondary.atCutoff z.tuning.zoneCutoff = false) (hf : ¬ (z.primary.faults = 3 ∧ z.secondary.faults = 3)) :
    z.safeCheck = none := by
  rw [safeCheck, hp, hq, if_neg hf]
  rfl

/-! ## Comparison of the sensors -/

theorem Zone.compareSensors_near {n : Nat} {note : Bool} (h : (a - b).natAbs ≤ 80) :
    (z.both a b n note).compareSensors = (z.both a b 0 false, false) :=
  if_neg (Nat.not_lt.mpr h)

theorem Zone.compareSensors_apart {n : Nat} {note : Bool} (h : 80 < (a - b).natAbs) :
    (z.both a b n note).compareSensors = (z.both a b (min 10 (n + 1)) (note || decide (min 10 (n + 1) = 10)),
      decide (min 10 (n + 1) = 10) && !note) := by
  rw [← satInc_eq_min]
  exact if_pos h

theorem Zone.compareSensors_both (z : Zone) (a b : Int) (n : Nat) (note : Bool) :
    ∃ m k f, (z.both a b n note).compareSensors = (z.both a b m k, f) := by
  by_cases h : 80 < (a - b).natAbs
  · exact ⟨_, _, _, compareSensors_apart h⟩
  · exact ⟨_, _, _, compareSensors_near (Nat.not_lt.mp h)⟩

theorem Zone.compareSensors_alone (h : z.primary.valid = false) :
    z.compareSensors = ({ z with discCount := 0 }, false) := by
  rw [compareSensors, h]
  rfl

/-! ## Ramp step -/

theorem approach_lands {r : Int} (h : (g - e).natAbs ≤ r.toNat) : approach r e g = g := if_pos h

theorem approach_up {r : Int} (h : e + r < g) (hr : 0 ≤ r) : approach r e g = e + r := by
  rw [approach, if_neg (by omega), if_pos (by omega)]

theorem approach_down {r : Int} (h : g < e - r) (he : g < e) : approach r e g = e - r := by
  rw [approach, if_neg (by omega), if_neg (by omega)]

theorem Zone.rampStep_lands (hst : z.state = .ramp) (he : z.effective = some e) (hg : z.target = some g)
    (h : approach z.rampRate e g = g) :
    z.rampStep = { z with effective := some g, state := .settle, settleCount := 0 } := by
  simp only [rampStep, hst, he, hg, h, if_pos]

theorem Zone.rampStep_moves (hst : z.state = .ramp) (he : z.effective = some e) (hg : z.target = some g)
    (h : approach z.rampRate e g = x) (hx : x ≠ g) : z.rampStep = { z with effective := some x } := by
  simp only [rampStep, hst, he, hg, h, if_neg hx]

theorem Zone.rampStep_cools (hst : z.state = .cool) (he : z.effective = some e) (h : z.tuning.coolTarget < e) :
    z.rampStep = { z with effective := some (approach z.rampRate e z.tuning.coolTarget) } := by
  simp only [rampStep, hst, he, if_pos h]

theorem Zone.rampStep_cooled (hst : z.state = .cool) (he : z.effective = some e) (h : e ≤ z.tuning.coolTarget) :
    z.rampStep = z := by
  simp only [rampStep, hst, he, if_neg (show ¬ z.tuning.coolTarget < e by omega)]

/-- R111, R114: outside RAMP and COOL the effective setpoint stays. -/
theorem Zone.rampStep_still (hr : z.state ≠ .ramp) (hc : z.state ≠ .cool) : z.rampStep = z := by
  unfold rampStep
  split
  · next h _ _ => exact absurd h hr
  · next h _ => exact absurd h hc
  · rfl

theorem Zone.rampStep_state (z : Zone) :
    z.rampStep.state = z.state ∨ z.state = .ramp ∧ z.rampStep.state = .settle := by
  obtain ⟨_, _, _, e, h⟩ := z.rampStep_frame
  rwa [e]

@[simp] theorem Zone.rampStep_kept (z : Zone) : z.rampStep.integ = z.integ ∧ z.rampStep.output = z.output
    ∧ z.rampStep.control = z.control ∧ z.rampStep.target = z.target ∧ z.rampStep.tuning = z.tuning := by
  obtain ⟨_, _, _, e, _⟩ := z.rampStep_frame
  rw [e]
  exact ⟨rfl, rfl, rfl, rfl, rfl⟩

@[simp] theorem Zone.rampStep_cool_iff : z.rampStep.state = .cool ↔ z.state = .cool := by
  obtain e | ⟨hz, e⟩ := z.rampStep_state
  · rw [e]
  · simp [hz, e]

@[simp] theorem Zone.rampStep_heats : z.rampStep.state.heats = z.state.heats := by
  obtain e | ⟨hz, e⟩ := z.rampStep_state
  · rw [e]
  · rw [hz, e]; rfl

/-! ## Loop -/

/-- R116: the loop's answer `y` to a control temperature `a` and an effective setpoint `x`, from the zone `z`. -/
def LoopAnswer (z : Zone) (a x : Int) (y : Zone) : Prop :=
  let err := max (-4000) (min 4000 (x - a))
  let u := (z.tuning.kp * err).tdiv 256 + (z.integ + z.tuning.ki * err).tdiv 4096
  y.output = max (-1000) (min 1000 u)
    ∧ ((1000 < u ∧ 0 < err) ∨ (u < -1000 ∧ err < 0) → y.integ = z.integ)
    ∧ (¬ ((1000 < u ∧ 0 < err) ∨ (u < -1000 ∧ err < 0)) → y.integ = z.integ + z.tuning.ki * err)

theorem loopAnswer_of_loopStep {y : Zone}
    (h : (y.integ, y.output) = loopStep z.tuning z.integ (clampInt (-4000) 4000 (x - a))) : LoopAnswer z a x y := by
  obtain ⟨hi, ho⟩ := Prod.mk.inj h
  exact ⟨ho, fun hd => hi.trans (if_pos hd), fun hd => hi.trans (if_neg hd)⟩

/-- R116: the loop outside IDLE and SAFE, with a control temperature. -/
theorem Zone.loop_controls (hi : z.state ≠ .idle) (hs : z.state ≠ .safe) (hc : z.control = some c)
    (he : z.effective = some x) :
    let r := loopStep z.tuning z.integ (clampInt (-4000) 4000 (x - c.temp))
    z.loop = ({ z with integ := r.1, output := r.2 } : Zone).drive := by
  unfold loop
  split
  · next h => exact absurd h hi
  · next h => exact absurd h hs
  all_goals simp only [hc, he]

/-- R116: the loop outside IDLE and SAFE, without a control temperature (log entry 17). -/
theorem Zone.loop_absent (hi : z.state ≠ .idle) (hs : z.state ≠ .safe) (hc : z.control = none) :
    z.loop = ({ z with output := 0 } : Zone).drive := by
  unfold loop
  split
  · next h => exact absurd h hi
  · next h => exact absurd h hs
  all_goals simp only [hc]

theorem Zone.loop_still (h : z.state = .idle ∨ z.state = .safe) : z.loop = z.drive := by
  obtain h | h := h <;> simp only [loop, h]

/-- R116, R117: the loop sets its own values, and the outputs follow. -/
theorem Zone.loop_eq_drive (z : Zone) : ∃ i o, z.loop = ({ z with integ := i, output := o } : Zone).drive := by
  unfold loop
  split
  iterate 2 exact ⟨_, _, rfl⟩
  all_goals
    split
    · exact ⟨_, _, rfl⟩
    · exact ⟨_, _, rfl⟩

theorem Zone.loop_frame (z : Zone) :
    ∃ i o h f n, z.loop = { z with integ := i, output := o, heater := h, fan := f, heatEn := n } := by
  obtain ⟨_, _, e⟩ := z.loop_eq_drive
  exact ⟨_, _, _, _, _, e.trans (drive_eq _)⟩

/-- R116: outside IDLE and SAFE the loop answers the control temperature. -/
theorem Zone.loop_answers (hi : z.state ≠ .idle) (hs : z.state ≠ .safe) (hc : z.control = some c)
    (he : z.effective = some x) : LoopAnswer z c.temp x z.loop := by
  refine loopAnswer_of_loopStep ?_
  rw [loop_controls hi hs hc he, drive_eq]

theorem Zone.loop_outputs_heats (h : z.state.heats = true) : z.loop.heater = max z.loop.output 0
    ∧ z.loop.fan = max z.tuning.fanFloor (-z.loop.output) ∧ z.loop.heatEn = true := by
  obtain ⟨i, o, e⟩ := z.loop_eq_drive
  rw [e, drive_heats (z := { z with integ := i, output := o }) h]
  exact ⟨rfl, rfl, rfl⟩

theorem Zone.loop_outputs_cool (h : z.state = .cool) : z.loop.heater = 0
    ∧ z.loop.fan = max z.tuning.fanFloor (-z.loop.output) ∧ z.loop.heatEn = false := by
  obtain ⟨i, o, e⟩ := z.loop_eq_drive
  rw [e, drive_cool (z := { z with integ := i, output := o }) h]
  exact ⟨rfl, rfl, rfl⟩

/-- What the counts after the loop go by. -/
@[simp] theorem Zone.loop_kept (z : Zone) : z.loop.state = z.state ∧ z.loop.effective = z.effective
    ∧ z.loop.control = z.control ∧ z.loop.target = z.target ∧ z.loop.tuning = z.tuning
    ∧ z.loop.settleCount = z.settleCount ∧ z.loop.excCount = z.excCount ∧ z.loop.inBand = z.inBand := by
  obtain ⟨_, _, _, _, _, e⟩ := z.loop_frame
  rw [e]
  exact ⟨rfl, rfl, rfl, rfl, rfl, rfl, rfl, rfl⟩

/-! ## The counts of SETTLE and SOAK, and the end of COOL -/

theorem Zone.inBand_iff (hc : z.control = some c) (hg : z.target = some g) :
    z.inBand = true ↔ (c.temp - g).natAbs ≤ z.tuning.band.toNat := by
  simp only [inBand, hc, hg, decide_eq_true_iff]

theorem Zone.inBand_absent (hc : z.control = none) : z.inBand = false := by
  simp only [inBand, hc]

theorem Zone.settle_counts (hb : z.inBand = true) (hn : z.settleCount < 3600)
    (h : (z.settleCount : Int) + 1 < z.tuning.settleTime) :
    z.settle = ({ z with settleCount := z.settleCount + 1 }, false) := by
  rw [settle, if_pos hb, satInc, if_pos hn]
  exact if_neg (by omega)

theorem Zone.settle_done (hb : z.inBand = true) (hn : z.settleCount < 3600)
    (h : z.tuning.settleTime ≤ (z.settleCount : Int) + 1) :
    z.settle = ({ z with settleCount := z.settleCount + 1, state := .soak, excCount := 0 }, true) := by
  rw [settle, if_pos hb, satInc, if_pos hn]
  exact if_pos (by omega)

theorem Zone.settle_restarts (hb : z.inBand = false) : z.settle = ({ z with settleCount := 0 }, false) := by
  rw [settle, hb]
  rfl

theorem Zone.soak_absent (hc : z.control = none) : z.soak = (z, false) := by
  simp only [soak, hc]

theorem Zone.soak_inBand (hc : z.control = some c) (hb : z.inBand = true) :
    z.soak = ({ z with excCount := 0 }, false) := by
  simp only [soak, hc, hb, if_pos]

theorem Zone.soak_counts (hc : z.control = some c) (hb : z.inBand = false) (hn : z.excCount < 29) :
    z.soak = ({ z with excCount := z.excCount + 1 }, false) := by
  simp only [soak, hc, hb, satInc, if_pos (show z.excCount < 30 by omega), Bool.false_eq_true, if_false]
  exact if_neg (by omega)

theorem Zone.soak_ends (hc : z.control = some c) (hb : z.inBand = false) (hn : z.excCount = 29) :
    z.soak = ({ z with excCount := 30, state := .settle, settleCount := 0, excNote := true }, true) := by
  simp only [soak, hc, hb, satInc, hn]
  rfl

theorem Zone.coolEnd_reached (hc : z.control = some c) (h : c.temp ≤ z.tuning.coolTarget) :
    z.coolEnd = { z with state := .idle, integ := 0, output := 0, heater := 0, fan := z.tuning.fanFloor
                         heatEn := false } := by
  simp only [coolEnd, hc, if_pos h]
  exact drive_idle rfl

theorem Zone.coolEnd_goesOn (h : ∀ c, z.control = some c → z.tuning.coolTarget < c.temp) : z.coolEnd = z := by
  unfold coolEnd
  split
  · next hc => exact if_neg (by have := h _ hc; omega)
  · rfl

/-! ## What follows the loop -/

theorem Zone.afterLoop_settle (h : z.state = .settle) : z.afterLoop = z.settle := by
  simp only [afterLoop, h]

theorem Zone.afterLoop_soak (h : z.state = .soak) : z.afterLoop = z.soak := by
  simp only [afterLoop, h]

theorem Zone.afterLoop_cool (h : z.state = .cool) : z.afterLoop = (z.coolEnd, false) := by
  simp only [afterLoop, h]

theorem Zone.afterLoop_still (h : z.state = .idle ∨ z.state = .ramp ∨ z.state = .safe) : z.afterLoop = (z, false) := by
  obtain h | h | h := h <;> simp only [afterLoop, h]

/-- R112, R113: outside COOL, and in it without a control temperature, nothing but the state and the counts changes after
the loop. -/
theorem Zone.afterLoop_steady (h : z.state = .cool → z.control = none) : ∃ st n m k,
    z.afterLoop.1 = { z with state := st, settleCount := n, excCount := m, excNote := k } := by
  cases hst : z.state with
  | settle =>
    obtain ⟨_, _, _, _, e⟩ := settle_frame hst
    exact ⟨_, _, _, _, (congrArg Prod.fst (afterLoop_settle hst)).trans e⟩
  | soak =>
    obtain ⟨_, _, _, _, _, e⟩ := soak_frame hst
    exact ⟨_, _, _, _, (congrArg Prod.fst (afterLoop_soak hst)).trans e⟩
  | cool =>
    have hend : z.coolEnd = z := coolEnd_goesOn fun _ hc => by cases (h hst).symm.trans hc
    exact ⟨_, _, _, _, (congrArg Prod.fst (afterLoop_cool hst)).trans hend⟩
  | idle | ramp | safe => exact ⟨_, _, _, _, congrArg Prod.fst (afterLoop_still (by simp [hst]))⟩

theorem Zone.coolEnd_frame (z : Zone) : ∃ st i o h f n,
    z.coolEnd = { z with state := st, integ := i, output := o, heater := h, fan := f, heatEn := n } := by
  unfold coolEnd
  split
  · split
    · exact ⟨_, _, _, _, _, _, drive_eq _⟩
    · exact ⟨_, _, _, _, _, _, rfl⟩
  · exact ⟨_, _, _, _, _, _, rfl⟩

/-! ## The work of an interval -/

/-- R111 to R118: the work of an interval once the sensors are compared; the truth value tells whether ZONE is raised. -/
def Zone.work (z : Zone) : Zone × Bool := z.rampStep.loop.afterLoop

/-- What the work leaves: the sensors, the tuning, the target, the throttle states and the timer. -/
@[simp] theorem Zone.work_kept (z : Zone) : z.work.1.primary = z.primary ∧ z.work.1.secondary = z.secondary
    ∧ z.work.1.control = z.control ∧ z.work.1.lastValid = z.lastValid ∧ z.work.1.interval = z.interval
    ∧ z.work.1.discCount = z.discCount ∧ z.work.1.discNote = z.discNote ∧ z.work.1.tuning = z.tuning
    ∧ z.work.1.target = z.target ∧ z.work.1.throttle = z.throttle ∧ z.work.1.effective = z.rampStep.effective := by
  obtain ⟨_, _, _, hramp, _⟩ := z.rampStep_frame
  obtain ⟨_, _, _, _, _, hloop⟩ := z.rampStep.loop_frame
  by_cases hst : z.rampStep.loop.state = .cool
  · obtain ⟨_, _, _, _, _, _, hend⟩ := z.rampStep.loop.coolEnd_frame
    rw [work, afterLoop_cool hst, hend, hloop, hramp]
    exact ⟨rfl, rfl, rfl, rfl, rfl, rfl, rfl, rfl, rfl, rfl, rfl⟩
  · obtain ⟨_, _, _, _, hend⟩ := afterLoop_steady fun h => absurd h hst
    rw [work, hend, hloop, hramp]
    exact ⟨rfl, rfl, rfl, rfl, rfl, rfl, rfl, rfl, rfl, rfl, rfl⟩

/-- R117: outside COOL, and in it without a control temperature, the loop's values and the outputs are those that the loop
left. -/
theorem Zone.work_outputs (h : z.state = .cool → z.control = none) : z.work.1.integ = z.rampStep.loop.integ
    ∧ z.work.1.output = z.rampStep.loop.output ∧ z.work.1.heater = z.rampStep.loop.heater
    ∧ z.work.1.fan = z.rampStep.loop.fan ∧ z.work.1.heatEn = z.rampStep.loop.heatEn := by
  obtain ⟨_, _, _, _, e⟩ := afterLoop_steady (z := z.rampStep.loop) (by simpa using h)
  rw [work, e]
  exact ⟨rfl, rfl, rfl, rfl, rfl⟩

/-- A loop's answer speaks of the gains, the integrator and the output alone. -/
theorem LoopAnswer.of_eq {y z' y' : Zone} (h : LoopAnswer z a x y) (hz : z'.tuning = z.tuning ∧ z'.integ = z.integ)
    (hy : y'.integ = y.integ ∧ y'.output = y.output) : LoopAnswer z' a x y' := by
  obtain ⟨hzt, hzi⟩ := hz
  obtain ⟨hyi, hyo⟩ := hy
  rwa [LoopAnswer, hzt, hzi, hyi, hyo]

/-- R116: outside COOL, IDLE and SAFE the work answers the control temperature with the setpoint it leaves. -/
theorem Zone.work_heats (h : z.state.heats = true) (hc : z.control = some c) (hx : z.work.1.effective = some x) :
    LoopAnswer z c.temp x z.work.1 ∧ z.work.1.heater = max z.work.1.output 0
      ∧ z.work.1.fan = max z.tuning.fanFloor (-z.work.1.output) ∧ z.work.1.heatEn = true := by
  have hy : z.rampStep.state.heats = true := by simpa using h
  have hne {st : ZoneState} (hst : st.heats = false) : z.rampStep.state ≠ st := fun e => by simp [e, hst] at hy
  obtain ⟨hinteg, hout, hheater, hfan, hen⟩ := work_outputs (z := z) (fun e => by simp [e, ZoneState.heats] at h)
  have hans : LoopAnswer z.rampStep c.temp x z.rampStep.loop :=
    loop_answers (hne rfl) (hne rfl) (by simpa using hc) (by simpa using hx)
  have hdrive := loop_outputs_heats hy
  rw [hheater, hfan, hen, hout]
  exact ⟨hans.of_eq (by simp) ⟨hinteg, hout⟩, by simpa using hdrive⟩

/-- R114: an interval of COOL above the cool target. -/
theorem Zone.work_cool (h : z.state = .cool) (hc : z.control = some c) (ht : z.tuning.coolTarget < c.temp) :
    z.work.1.state = .cool ∧ z.work.1.heater = 0 ∧ z.work.1.fan = max z.tuning.fanFloor (-z.work.1.output)
      ∧ z.work.1.heatEn = false ∧ ∀ x, z.work.1.effective = some x → LoopAnswer z c.temp x z.work.1 := by
  have hy : z.rampStep.state = .cool := by simpa using h
  have hend : z.work.1 = z.rampStep.loop := by
    rw [work, afterLoop_cool (by simpa using h)]
    refine coolEnd_goesOn fun d hd => ?_
    rw [show d = c by simpa [hc, eq_comm] using hd]
    simpa using ht
  obtain ⟨hheater, hfan, hen⟩ := loop_outputs_cool hy
  rw [hend]
  refine ⟨by simpa using h, hheater, by simpa using hfan, hen, fun x hx => ?_⟩
  exact (loop_answers (by simp [hy]) (by simp [hy]) (by simpa using hc) (by simpa using hx)).of_eq (by simp) ⟨rfl, rfl⟩

/-- R114: the interval that ends COOL. -/
theorem Zone.work_cool_ends (h : z.state = .cool) (hc : z.control = some c) (ht : c.temp ≤ z.tuning.coolTarget) :
    z.work.1.state = .idle ∧ z.work.1.integ = 0 ∧ z.work.1.output = 0 ∧ z.work.1.heater = 0
      ∧ z.work.1.fan = z.tuning.fanFloor ∧ z.work.1.heatEn = false := by
  rw [work, afterLoop_cool (by simpa using h), coolEnd_reached (c := c) (by simpa using hc) (by simpa using ht)]
  exact ⟨rfl, rfl, rfl, rfl, by simp, rfl⟩

theorem Zone.work_cool_off (h : z.state = .cool) (hc : z.control = some c) :
    z.work.1.heater = 0 ∧ z.work.1.heatEn = false := by
  obtain ht | ht := le_or_gt c.temp z.tuning.coolTarget
  · obtain ⟨-, -, -, hheater, -, hen⟩ := work_cool_ends h hc ht
    exact ⟨hheater, hen⟩
  · obtain ⟨-, hheater, -, hen, -⟩ := work_cool h hc ht
    exact ⟨hheater, hen⟩

/-- R114: the effective setpoint of COOL. -/
theorem Zone.work_cool_effective (h : z.state = .cool) (he : z.effective = some e) :
    (z.tuning.coolTarget < e → e - z.tuning.coolTarget ≤ z.rampRate →
        z.work.1.effective = some z.tuning.coolTarget)
      ∧ (z.tuning.coolTarget < e → z.rampRate < e - z.tuning.coolTarget →
        z.work.1.effective = some (e - z.rampRate))
      ∧ (e ≤ z.tuning.coolTarget → z.work.1.effective = some e) := by
  refine ⟨fun hlt hr => ?_, fun hlt hr => ?_, fun hle => ?_⟩
  · simp [rampStep_cools h he hlt, approach_lands (r := z.rampRate) (g := z.tuning.coolTarget) (e := e) (by omega)]
  · simp [rampStep_cools h he hlt, approach_down (r := z.rampRate) (g := z.tuning.coolTarget) (e := e) (by omega) hlt]
  · simp [rampStep_cooled h he hle, he]

/-! ### RAMP -/

theorem Zone.work_ramp (h : z.rampStep.state = .ramp) : z.work.1.state = .ramp := by
  rw [work, afterLoop_still (by simp [h])]
  simpa using h

/-- R111: the effective setpoint still on its way. -/
theorem Zone.work_ramps (h : z.state = .ramp) (he : z.effective = some e) (hg : z.target = some g)
    (hr : 1 ≤ z.rampRate) :
    (e + z.rampRate < g → z.work.1.effective = some (e + z.rampRate) ∧ z.work.1.state = .ramp)
      ∧ (g < e - z.rampRate → z.work.1.effective = some (e - z.rampRate) ∧ z.work.1.state = .ramp) := by
  refine ⟨fun hlt => ?_, fun hlt => ?_⟩
  · have hm := rampStep_moves h he hg (approach_up hlt (by omega)) (by omega)
    exact ⟨by simp [hm], work_ramp (by rw [hm, h])⟩
  · have hm := rampStep_moves h he hg (approach_down hlt (by omega)) (by omega)
    exact ⟨by simp [hm], work_ramp (by rw [hm, h])⟩

/-! ### SETTLE and SOAK -/

theorem Zone.work_settle (h : z.state = .settle) : z.work = z.loop.settle := by
  rw [work, rampStep_still (by simp [h]) (by simp [h]), afterLoop_settle (by simpa using h)]

theorem Zone.work_soak (h : z.state = .soak) : z.work = z.loop.soak := by
  rw [work, rampStep_still (by simp [h]) (by simp [h]), afterLoop_soak (by simpa using h)]

/-- R111, R112: the interval that lands counts in SETTLE (log entry 15), and does not end it. -/
theorem Zone.work_lands (h : z.state = .ramp) (he : z.effective = some e) (hg : z.target = some g)
    (hr : 1 ≤ z.rampRate) (hl : (g - e).natAbs ≤ z.rampRate.natAbs)
    (hn : z.control = none ∨ 10 ≤ z.tuning.settleTime) :
    z.work.1.effective = some g ∧ z.work.1.state = .settle ∧ (z.control = none → z.work.1.settleCount = 0) := by
  have hm := rampStep_lands h he hg (approach_lands (by omega))
  have hw : z.work = z.rampStep.loop.settle := by rw [work, afterLoop_settle (by simp [hm])]
  refine ⟨by simp [hm], ?_⟩
  rw [hw]
  obtain hb | hb := Bool.eq_false_or_eq_true z.rampStep.loop.inBand
  · have hcontrol : z.control ≠ none := fun hc => by simp [inBand_absent (z := z.rampStep) (by simpa using hc)] at hb
    have htime := hn.resolve_left hcontrol
    rw [settle_counts hb (by simp [hm]) (by simp [hm]; omega)]
    exact ⟨by simp [hm], fun hc => absurd hc hcontrol⟩
  · rw [settle_restarts hb]
    exact ⟨by simp [hm], fun _ => rfl⟩

/-- R112: the settle count. -/
theorem Zone.work_settles (h : z.state = .settle) (hc : z.control = some c) (hg : z.target = some g) :
    ((c.temp - g).natAbs ≤ z.tuning.band.toNat → z.settleCount < 3600 →
        (z.settleCount : Int) + 1 < z.tuning.settleTime →
        z.work.1.state = .settle ∧ z.work.1.settleCount = z.settleCount + 1)
      ∧ ((c.temp - g).natAbs ≤ z.tuning.band.toNat → z.settleCount < 3600 →
        z.tuning.settleTime ≤ (z.settleCount : Int) + 1 →
        z.work.1.state = .soak ∧ z.work.1.excCount = 0 ∧ z.work.2 = true)
      ∧ (z.tuning.band.toNat < (c.temp - g).natAbs → z.work.1.state = .settle ∧ z.work.1.settleCount = 0) := by
  have hb := inBand_iff hc hg
  rw [work_settle h]
  refine ⟨fun hnear hn ht => ?_, fun hnear hn ht => ?_, fun hfar => ?_⟩
  · rw [settle_counts (by simpa [hb] using hnear) (by simpa using hn) (by simpa using ht)]
    simp [h]
  · rw [settle_done (by simpa [hb] using hnear) (by simpa using hn) (by simpa using ht)]
    exact ⟨rfl, rfl, rfl⟩
  · rw [settle_restarts (by rw [← Bool.not_eq_true]; simpa [hb] using hfar)]
    simp [h]

/-- R113: the excursion count. -/
theorem Zone.work_soaks (h : z.state = .soak) (hc : z.control = some c) (hg : z.target = some g) :
    (z.tuning.band.toNat < (c.temp - g).natAbs → z.excCount < 29 →
        z.work.1.state = .soak ∧ z.work.1.excCount = z.excCount + 1)
      ∧ (z.tuning.band.toNat < (c.temp - g).natAbs → z.excCount = 29 →
        z.work.1.state = .settle ∧ z.work.1.settleCount = 0 ∧ z.work.1.excNote = true ∧ z.work.2 = true)
      ∧ ((c.temp - g).natAbs ≤ z.tuning.band.toNat → z.work.1.state = .soak ∧ z.work.1.excCount = 0) := by
  have hb := inBand_iff hc hg
  have hlc : z.loop.control = some c := by simpa using hc
  rw [work_soak h]
  have hout (hfar : z.tuning.band.toNat < (c.temp - g).natAbs) : z.loop.inBand = false := by
    rw [← Bool.not_eq_true]
    simpa [hb] using hfar
  refine ⟨fun hfar hn => ?_, fun hfar hn => ?_, fun hnear => ?_⟩
  · rw [soak_counts hlc (hout hfar) (by simpa using hn)]
    simp [h]
  · rw [soak_ends hlc (hout hfar) (by simpa using hn)]
    exact ⟨rfl, rfl, rfl, rfl⟩
  · rw [soak_inBand hlc (by simpa [hb] using hnear)]
    simp [h]

/-! ### IDLE and SAFE, and no control temperature -/

theorem Zone.work_still (h : z.state = .idle ∨ z.state = .safe) : z.work = (z.drive, false) := by
  have hramp : z.rampStep = z := by obtain h | h := h <;> exact rampStep_still (by simp [h]) (by simp [h])
  have hafter : z.loop.afterLoop = (z.loop, false) := afterLoop_still (by obtain h | h := h <;> simp [h])
  rw [work, hramp, hafter, loop_still h]

/-- R117: without a control temperature the heater is off and the fan at its floor. -/
theorem Zone.loop_absent_outputs (hs : z.state ≠ .safe) (hc : z.control = none) (hf : 0 ≤ z.tuning.fanFloor) :
    z.loop.integ = z.integ ∧ z.loop.heater = 0 ∧ z.loop.fan = z.tuning.fanFloor
      ∧ z.loop.heatEn = z.state.heats := by
  have hmax : max z.tuning.fanFloor (-0) = z.tuning.fanFloor := max_eq_left (by simpa using hf)
  by_cases hi : z.state = .idle
  · rw [loop_still (.inl hi), drive_idle hi, hi]
    exact ⟨rfl, rfl, rfl, rfl⟩
  · rw [loop_absent hi hs hc]
    by_cases hk : z.state = .cool
    · rw [drive_cool (z := { z with output := 0 }) hk, hk]
      exact ⟨rfl, rfl, hmax, rfl⟩
    · have hh : z.state.heats = true := by
        rw [← Bool.not_eq_false, ZoneState.not_heats_iff]
        simp [hi, hk, hs]
      rw [drive_heats (z := { z with output := 0 }) hh, hh]
      exact ⟨rfl, rfl, hmax, rfl⟩

theorem Zone.work_absent_outputs (hs : z.state ≠ .safe) (hc : z.control = none) (hf : 0 ≤ z.tuning.fanFloor) :
    z.work.1.integ = z.integ ∧ z.work.1.heater = 0 ∧ z.work.1.fan = z.tuning.fanFloor
      ∧ z.work.1.heatEn = z.state.heats := by
  have hys : z.rampStep.state ≠ .safe := by
    obtain e | ⟨_, e⟩ := z.rampStep_state <;> simp [e, hs]
  obtain ⟨hinteg, _, hheater, hfan, hen⟩ := work_outputs (z := z) fun _ => hc
  rw [hinteg, hheater, hfan, hen]
  simpa using loop_absent_outputs hys (by simpa using hc) (by simpa using hf)

theorem Zone.work_settle_absent (h : z.state = .settle) (hc : z.control = none) :
    z.work.1.state = .settle ∧ z.work.1.settleCount = 0 ∧ z.work.1.effective = z.effective := by
  rw [work_settle h, settle_restarts (by simpa using inBand_absent hc)]
  simp [h]

theorem Zone.work_soak_absent (h : z.state = .soak) (hc : z.control = none) :
    z.work.1.state = .soak ∧ z.work.1.excCount = z.excCount ∧ z.work.1.effective = z.effective := by
  rw [work_soak h, soak_absent (by simpa using hc)]
  simp [h]

theorem Zone.work_cool_absent (h : z.state = .cool) (hc : z.control = none) : z.work.1.state = .cool := by
  have hend : z.rampStep.loop.coolEnd = z.rampStep.loop := coolEnd_goesOn fun d hd => by simp [hc] at hd
  rw [work, afterLoop_cool (by simpa using h), hend]
  simpa using h

/-- Without a control temperature nothing raises ZONE. -/
theorem Zone.afterLoop_absent_quiet (hc : z.control = none) : z.afterLoop.2 = false := by
  cases hst : z.state with
  | settle => rw [afterLoop_settle hst, settle_restarts (inBand_absent hc)]
  | soak => rw [afterLoop_soak hst, soak_absent hc]
  | cool => rw [afterLoop_cool hst]
  | idle | ramp | safe => rw [afterLoop_still (by simp [hst])]

theorem Zone.work_absent_quiet (hc : z.control = none) : z.work.2 = false :=
  afterLoop_absent_quiet (by simpa using hc)

end

/-! ## The interval -/

section
variable {s : State} {p q : Option Int} {a b : Int} {y : Zone} {f : Bool}

/-- What an interval without a SAFE condition leaves, for the zone `y` and the raise `f` that the comparison of its sensors
gives. -/
structure Worked (s : State) (y : Zone) (f : Bool) (t : State) : Prop where
  frame : t = { s with zone := t.zone, alert := { s.alert with raised := t.alert.raised } }
  zone : t.zone = y.work.1
  raised : (f || y.work.2) = true → t.alert.raised.getLsbD 0 = true
  quiet : (f || y.work.2) = false → t = { s with zone := t.zone }

theorem Worked.alert {t : State} (h : Worked s y f t) (hq : (f || y.work.2) = false) : t.alert = s.alert := by
  rw [h.quiet hq]

theorem raiseIf_worked : Worked s y f (raiseIf (f || y.work.2) { s with zone := y.work.1 }) := by
  cases hf : f || y.work.2 with
  | true => exact ⟨rfl, rfl, fun _ => by simp [raiseIf, sourceBit, Source.number], fun h => by simp [hf] at h⟩
  | false => exact ⟨rfl, rfl, fun h => by simp [hf] at h, fun _ => rfl⟩

/-- R106 to R109: an interval in SAFE, or without a SAFE condition. -/
theorem controlInterval_worked (hr : s.part.phase = .running) (hd : s.zone.interval = some 0)
    (h : s.zone.state = .safe ∨ (s.zone.sensed p q).safeCheck = none)
    (hy : (s.zone.sensed p q).compareSensors = (y, f)) :
    ∃ t : State, exec (.controlInterval p q) s = .next t ∧ Worked s y f t := by
  refine ⟨_, (exec_controlInterval hr p q).trans (congrArg _ (controlInterval_works hd h)), ?_⟩
  rw [zoneWork, hy]
  exact raiseIf_worked

theorem controlInterval_both (hr : s.part.phase = .running) (hd : s.zone.interval = some 0) (ha : ValidTemp a)
    (hac : a < s.zone.tuning.zoneCutoff) (hb : ValidTemp b) (hbc : b < s.zone.tuning.zoneCutoff)
    (hy : (s.zone.both a b s.zone.discCount s.zone.discNote).compareSensors = (y, f)) :
    ∃ t : State, exec (.controlInterval (some a) (some b)) s = .next t ∧ Worked s y f t := by
  rw [← Zone.sensed_both ha hb] at hy
  refine controlInterval_worked hr hd (.inr ?_) hy
  rw [Zone.sensed_both ha hb]
  exact Zone.safeCheck_none (SensorRecord.atCutoff_below hac) (SensorRecord.atCutoff_below hbc) (by simp [Zone.both])

theorem controlInterval_second (hr : s.part.phase = .running) (hd : s.zone.interval = some 0) (hp : Lost p)
    (hb : ValidTemp b) (hbc : b < s.zone.tuning.zoneCutoff) :
    ∃ t : State, exec (.controlInterval p (some b)) s = .next t ∧ Worked s (s.zone.secondOnly p b) false t := by
  refine controlInterval_worked hr hd (.inr ?_) ?_ <;> rw [Zone.sensed_second hp hb]
  · exact Zone.safeCheck_none rfl (SensorRecord.atCutoff_below hbc) (by simp [Zone.secondOnly])
  · exact Zone.compareSensors_alone rfl

theorem controlInterval_neither (hr : s.part.phase = .running) (hd : s.zone.interval = some 0) (hp : Lost p)
    (hq : Lost q) (hf : s.zone.primary.faults < 2 ∨ s.zone.secondary.faults < 2) :
    ∃ t : State, exec (.controlInterval p q) s = .next t ∧ Worked s (s.zone.neither p q) false t := by
  refine controlInterval_worked hr hd (.inr ?_) ?_ <;> rw [Zone.sensed_neither hp hq]
  · refine Zone.safeCheck_none rfl rfl ?_
    simp only [Zone.neither, SensorRecord.missed]
    omega
  · exact Zone.compareSensors_alone rfl

end

/-- Settles O47: each clause is an interval of `controlInterval_worked` (`Worked`) for the zone `y` that its readings and
their comparison give, and the lemmas about `y.work` say what the rest of the interval makes of `y`: both readings near each
other, COOL, readings apart, the secondary reading alone, and neither. -/
theorem controlIntervalRunsTheLoop : Obligations.ControlIntervalRunsTheLoop := by
  refine ⟨fun s a b hr hd ha1 ha2 hac hb1 hb2 hbc h1 h2 htime => ?_, fun s hr hd => ⟨?_, ?_, ?_, ?_⟩⟩
  · let y := s.zone.both a b 0 false
    obtain ⟨t, he, hw⟩ := controlInterval_both (y := y) hr hd ⟨ha1, ha2⟩ hac ⟨hb1, hb2⟩ hbc
      (Zone.compareSensors_near (by omega))
    obtain ⟨hp, hq, hc, hl, hi, hn, hnote, hu, hg, hth, -⟩ := y.work_kept
    refine ⟨t, he, hw.frame, ?_⟩
    rw [hw.zone]
    refine ⟨hp, hq, hc, hl, hi, hn, hnote, hu, hg, hth, fun hz => ?_, fun hz => ?_, fun e hx hz => ?_,
      fun e g hz he' hg' hrate => ?_, fun g hg' => ?_⟩
    · have hstill := Zone.work_still (z := y) (.inl hz)
      have hquiet : t.alert = s.alert := hw.alert (by rw [hstill]; rfl)
      rw [hstill, Zone.drive_idle (z := y) hz]
      exact ⟨hz, rfl, rfl, rfl, hquiet⟩
    · rw [Zone.work_still (z := y) (.inr hz), Zone.drive_safe (z := y) hz]
      exact ⟨hz, rfl, rfl, rfl⟩
    · have hheats : y.state.heats = true := by obtain h | h | h := hz <;> exact (congrArg _ h).trans rfl
      obtain ⟨⟨hout, hdrop, hkeep⟩, houtputs⟩ := Zone.work_heats (z := y) hheats rfl hx
      exact ⟨hout, hdrop, hkeep, houtputs⟩
    · refine ⟨fun hl => ?_, Zone.work_ramps (z := y) hz he' hg' hrate⟩
      obtain ⟨heff, hst, -⟩ := Zone.work_lands (z := y) hz he' hg' hrate hl (.inr htime)
      exact ⟨heff, hst⟩
    · have hset (h : y.state = .settle) := Zone.work_settles (z := y) h rfl hg'
      have hsoak (h : y.state = .soak) := Zone.work_soaks (z := y) h rfl hg'
      have hraise (h : y.work.2 = true) : t.alert.raised.getLsbD 0 = true := hw.raised (by rw [h]; rfl)
      refine ⟨fun hz hb ⟨ht, hn⟩ => ?_, fun hz hb ht hn => ?_, fun hz => ?_, fun hz => ?_, fun hz hb hn => ?_,
        fun hz => ?_⟩
      · obtain ⟨hcounts, -, -⟩ := hset hz
        exact hcounts hb hn ht
      · obtain ⟨-, hdone, -⟩ := hset hz
        obtain ⟨hst, hexc, hr⟩ := hdone hb hn ht
        exact ⟨hst, hexc, hraise hr⟩
      · obtain ⟨-, -, hrestarts⟩ := hset hz
        exact hrestarts
      · obtain ⟨hcounts, -, -⟩ := hsoak hz
        exact hcounts
      · obtain ⟨-, hends, -⟩ := hsoak hz
        obtain ⟨hst, hcount, hexc, hr⟩ := hends hb hn
        exact ⟨hst, hcount, hexc, hraise hr⟩
      · obtain ⟨-, -, hreturns⟩ := hsoak hz
        exact hreturns
  · intro a b e ⟨ha1, ha2, hac⟩ ⟨hb1, hb2, hbc⟩ hz he'
    obtain ⟨n, note, f, hcmp⟩ := s.zone.compareSensors_both a b s.zone.discCount s.zone.discNote
    let y := s.zone.both a b n note
    obtain ⟨t, he, hw⟩ := controlInterval_both (y := y) hr hd ⟨ha1, ha2⟩ hac ⟨hb1, hb2⟩ hbc hcmp
    obtain ⟨-, -, hc, hl, -, -, -, -, hg, -, -⟩ := y.work_kept
    have hends := Zone.work_cool_ends (z := y) hz rfl
    have hgoes := Zone.work_cool (z := y) hz rfl
    obtain ⟨hlands, hfalls, hstays⟩ := Zone.work_cool_effective (z := y) hz he'
    obtain ⟨hheater, hen⟩ := Zone.work_cool_off (z := y) hz rfl
    refine ⟨t, he, hw.frame, ?_⟩
    rw [hw.zone]
    refine ⟨hc, hl, hg, hheater, hen, hlands, hfalls, hstays, fun h => ?_, fun h => ?_⟩
    · obtain ⟨hst, hinteg, hout, -, hfan, -⟩ := hends h
      exact ⟨hst, hinteg, hout, hfan⟩
    · obtain ⟨hst, -, hfan, -, hans⟩ := hgoes h
      exact ⟨hst, hfan, fun x hx => hans x hx⟩
  · intro a b ⟨ha1, ha2, hac⟩ ⟨hb1, hb2, hbc⟩ hfar
    let y := s.zone.both a b (min 10 (s.zone.discCount + 1))
      (s.zone.discNote || decide (min 10 (s.zone.discCount + 1) = 10))
    obtain ⟨t, he, hw⟩ := controlInterval_both (y := y) hr hd ⟨ha1, ha2⟩ hac ⟨hb1, hb2⟩ hbc
      (Zone.compareSensors_apart hfar)
    obtain ⟨hp, hq, hc, hl, -, hn, hnote, -⟩ := y.work_kept
    have hfew (h : s.zone.discCount < 9) : decide (min 10 (s.zone.discCount + 1) = 10) = false :=
      decide_eq_false (by omega)
    have htenth (h : 9 ≤ s.zone.discCount) : decide (min 10 (s.zone.discCount + 1) = 10) = true :=
      decide_eq_true (by omega)
    refine ⟨t, he, ?_⟩
    rw [hw.zone]
    refine ⟨hp, hq, hc, hl, hn, fun h => hnote.trans ?_, fun h => ⟨hnote.trans ?_, fun hf => hw.raised ?_⟩,
      fun h hz => ?_⟩
    · exact (congrArg (s.zone.discNote || ·) (hfew h)).trans (Bool.or_false _)
    · exact (congrArg (s.zone.discNote || ·) (htenth h)).trans (Bool.or_true _)
    · rw [htenth h, hf]
      rfl
    · refine hw.alert ?_
      rw [Zone.work_still (z := y) (.inl hz), Bool.or_false]
      obtain h | h := h
      · rw [hfew h]
        rfl
      · rw [h]
        exact Bool.and_false _
  · intro q b hq ⟨hb1, hb2, hbc⟩
    obtain ⟨t, he, hw⟩ := controlInterval_second hr hd hq ⟨hb1, hb2⟩ hbc
    obtain ⟨hp, hs, hc, hl, -, hn, hnote, -⟩ := Zone.work_kept (s.zone.secondOnly q b)
    refine ⟨t, he, ?_⟩
    rw [hw.zone]
    refine ⟨hp.trans ?_, hs, hc, hl, hn, hnote⟩
    cases q <;> rfl
  · intro q r hq hr' hfaults hz hfloor
    let y := s.zone.neither q r
    have hnone : y.control = none := rfl
    obtain ⟨t, he, hw⟩ := controlInterval_neither hr hd hq hr' hfaults
    obtain ⟨hp, hs, hc, hl, hi, hn, hnote, hu, hg, -⟩ := y.work_kept
    obtain ⟨hinteg, hheater, hfan, hen⟩ := Zone.work_absent_outputs (z := y) hz hnone hfloor
    refine ⟨t, he, hw.quiet (Zone.work_absent_quiet (z := y) hnone), ?_⟩
    rw [hw.zone]
    refine ⟨hp.trans ?_, hs.trans ?_, hc, hl, hi, hn, hnote, hg, hu, hinteg, hheater, hfan, ?_, ?_,
      fun hst => Zone.work_settle_absent (z := y) hst hnone, fun hst => Zone.work_soak_absent (z := y) hst hnone,
      fun e g hst he' hg' hrate => ⟨fun hl => ?_, Zone.work_ramps (z := y) hst he' hg' hrate⟩,
      fun e hst he' => Zone.work_cool_effective (z := y) hst he'⟩
    · cases q <;> rfl
    · cases r <;> rfl
    · rw [hen]
      exact ZoneState.heats_iff _
    · rintro (hst | hst)
      · rw [Zone.work_still (z := y) (.inl hst), Zone.drive_eq]
        rfl
      · exact (Zone.work_cool_absent (z := y) hst hnone).trans hst.symm
    · obtain ⟨h1, h2, h3⟩ := Zone.work_lands (z := y) hst he' hg' hrate hl (.inl hnone)
      exact ⟨h1, h2, h3 hnone⟩

end Sys2Proof.Machine
end


section
/-!
PROOFS. The account interval (R132 to R136, R144): what an expiry makes of a record, of a set and of the account unit.
-/

namespace Sys2Proof.Machine

open Safety

/-! ## One record -/

/-- R133: the temperature that a socket accrues at. -/
theorem stressTemp_temp (r : SampleRecord) (air : Option Int) (accel : List Breakpoint) :
    (stressTemp r air accel).1 = match r.fresh, air with
      | some x, _ => x
      | none, some x => x
      | none, none => (accel.head?.map Breakpoint.temp).getD 0 := by
  unfold stressTemp
  cases r.fresh <;> cases air <;> rfl

/-- R133: it is an estimate where no fresh sample gives it. -/
theorem stressTemp_estimated (r : SampleRecord) (air : Option Int) (accel : List Breakpoint) :
    (stressTemp r air accel).2 = true ↔ r.fresh = none := by
  unfold stressTemp
  cases r.fresh <;> cases air <;> simp

theorem stressWeight_eq (wEx wSt step : Nat) (c : OpenCount) :
    stressWeight wEx wSt step c = ((wEx >>> step) * c.ex + wSt * (c.on - c.ex)) / 1000 := by
  rw [Nat.shiftRight_eq_div_pow]
  rfl

/-- R135, R136: what an increment of `n` makes of a record. -/
structure AcctRecord.Accrued (r : AcctRecord) (n : Nat) (c : OpenCount) (estimated holdover : Prop) (t : AcctRecord) :
    Prop where
  stress : t.stress = min (2 ^ 40 - 1) (r.stress + n / 256)
  residue : t.residue = n % 256
  saturated : t.saturated = true ↔ r.saturated = true ∨ 2 ^ 40 - 1 < r.stress + n / 256
  powered : t.powered = min (2 ^ 40 - 1) (r.powered + c.on)
  exercised : t.exercised = min (2 ^ 40 - 1) (r.exercised + c.ex)
  estimated : t.estimated = true ↔ r.estimated = true ∨ (estimated ∧ 0 < c.on)
  untimed : t.untimed = true ↔ r.untimed = true ∨ (holdover ∧ 0 < c.on)

theorem AcctRecord.accrue_accrued (r : AcctRecord) (n : Nat) (c : OpenCount) (e h : Bool) :
    r.Accrued n c (e = true) (h = true) (r.accrue n c e h) := by
  constructor
  case saturated => exact Bool.or_eq_true_iff.trans (or_congr_right decide_eq_true_iff)
  case estimated | untimed => simp [accrue]
  all_goals rfl

/-! ## One set -/

theorem accrueSet_tag (s : State) (k : Slot) : (accrueSet s k).tag = (s.acct.sets.get k).tag := by
  unfold accrueSet
  dsimp only
  split <;> rfl

/-- R133: the set of an EMPTY slot and one without a tag accrue nothing. -/
theorem accrueSet_of_idle {s : State} {k : Slot} (h : (s.slot k).board = .empty ∨ (s.acct.sets.get k).tag = none) :
    accrueSet s k = s.acct.sets.get k := by
  unfold accrueSet
  refine if_neg fun ⟨htag, hboard⟩ => ?_
  obtain e | e := h
  · exact hboard e
  · rw [e] at htag
    cases htag

theorem accrueSet_of_live {s : State} {k : Slot} (hb : (s.slot k).board ≠ .empty) (ht : (s.acct.sets.get k).tag ≠ none)
    (i : Socket) : (accrueSet s k).recs.get i = accrueSocket s k i (s.record k i) := by
  unfold accrueSet
  dsimp only
  rw [if_pos ⟨Option.isSome_iff_ne_none.mpr ht, hb⟩, Table.get_mapIdx, State.get_recs]

/-! ## The account unit -/

/-- R132 to R136: the sets and counters of an interval that ends. -/
def accrued (s : State) : State :=
  { s with acct.sets := perSlot (accrueSet s), acct.counts := PerSlot.fill (Table.fill 32 ⟨0, 0⟩) }

/-- R144: a capture changes the snapshot alone. -/
theorem captureSnapshot_eq (s : State) :
    captureSnapshot s = { s with acct.snapshot := (captureSnapshot s).acct.snapshot } := by
  unfold captureSnapshot
  split <;> rfl

theorem captureSnapshot_of_waiting {s : State} (h : s.acct.snapshot = .waiting) :
    (captureSnapshot s).acct.snapshot = .held (snapshotNow s) := by
  unfold captureSnapshot
  rw [h]

theorem captureSnapshot_of_not_waiting {s : State} (h : s.acct.snapshot ≠ .waiting) :
    (captureSnapshot s).acct.snapshot = s.acct.snapshot := by
  unfold captureSnapshot
  split
  · next e => exact absurd e h
  · rfl
  · rfl

theorem accountInterval_of_due {s : State} (h : s.acct.interval = some 0) :
    accountInterval s = { accrued s with
      acct := { (accrued s).acct with snapshot := (captureSnapshot (accrued s)).acct.snapshot, interval := some 1
                                      holdover := decide (s.clock.live = .holdover) } } := by
  have e := captureSnapshot_eq (accrued s)
  unfold accountInterval
  unfold accrued at e ⊢
  rw [if_pos ((Timer.due_iff _).mpr h)]
  dsimp only
  rw [e]

theorem accountInterval_of_not_due {s : State} (h : s.acct.interval ≠ some 0) : accountInterval s = s :=
  if_neg fun hd => h ((Timer.due_iff _).mp hd)

/-- Settles O17: the expiry accrues the sets slot by slot (`accrueSet`), each socket by `AcctRecord.accrue`, and captures a
snapshot that is asked for from the sets so reached. -/
theorem accountIntervalAccruesStress : Obligations.AccountIntervalAccruesStress := by
  intro s hr hd
  refine ⟨accountInterval s, congrArg Host.Outcome.next (whenRunning_of_running _ s hr), ?_⟩
  rw [accountInterval_of_due hd]
  have hset (k : Slot) : (accrued s).acct.sets.get k = accrueSet s k := get_perSlot _ k
  refine ⟨rfl, fun k i => ?_, fun k => ?_, fun k hidle => ?_, fun k i hb ht => ?_, fun hw => ?_, fun hw => ?_⟩
  · simp [accrued]
  · exact (congrArg AcctSet.tag (hset k)).trans (accrueSet_tag s k)
  · exact (hset k).trans (accrueSet_of_idle hidle)
  · intro c r r' fresh T W N
    obtain ⟨x, hx⟩ : ∃ x, x = stressTemp ((s.scanner k).records.get i) s.zone.lastValid s.acct.accel := ⟨_, rfl⟩
    have hT : x.1 = T := hx ▸ stressTemp_temp _ _ _
    have hfresh : x.2 = true ↔ fresh = none := hx ▸ stressTemp_estimated _ _ _
    have hW : stressWeight s.acct.wEx s.acct.wSt (s.throttle k).step c = W := stressWeight_eq _ _ _ _
    have hlive : r' = accrueSocket s k i r :=
      (congrArg (fun a => a.recs.get i) (hset k)).trans (accrueSet_of_live hb ht i)
    have hsocket : accrueSocket s k i r = r.accrue N c x.2 s.acct.holdover := by
      rw [accrueSocket, ← hx, hT, hW]
    obtain ⟨hstress, hresidue, hsaturated, hpowered, hexercised, hestimated, huntimed⟩ :=
      r.accrue_accrued N c x.2 s.acct.holdover
    rw [hfresh] at hestimated
    rw [hlive, hsocket]
    exact ⟨hstress, hresidue, hsaturated, hpowered, hexercised, hestimated, huntimed, rfl, rfl, rfl, rfl, rfl, rfl, rfl⟩
  · refine ⟨_, captureSnapshot_of_waiting hw, rfl, rfl, rfl, fun k => ?_, fun i => ?_⟩
    · simp [snapshotNow, accrued]
    · simp [snapshotNow]
  · exact captureSnapshot_of_not_waiting hw

end Sys2Proof.Machine
end


section
/-!
PROOFS. The table, the weights and the snapshot (R130, R131, R134, R142, R144 to R146): interpolation in a table that
ACCEL-TABLE-LOAD accepts, and the requests of the account unit.
-/

namespace Sys2Proof.Machine

open Safety

/-! ## Tables in order -/

theorem tempRange_iff (p : Breakpoint) :
    decide (Config.tempMin ≤ p.temp ∧ p.temp ≤ Config.tempMax) = true ↔ -640 ≤ p.temp ∧ p.temp ≤ 3200 :=
  decide_eq_true_iff

theorem accelOk_cons_cons (p q : Breakpoint) (l : List Breakpoint) :
    accelOk (p :: q :: l) = true
      ↔ (-640 ≤ p.temp ∧ p.temp ≤ 3200) ∧ p.temp < q.temp ∧ accelOk (q :: l) = true := by
  rw [accelOk, Bool.and_eq_true, Bool.and_eq_true, tempRange_iff, decide_eq_true_iff, and_assoc]

/-- R130: the temperatures of an accepted table are in range and strictly increasing. -/
theorem accelOk_iff (l : List Breakpoint) :
    accelOk l = true ↔ (∀ p ∈ l, -640 ≤ p.temp ∧ p.temp ≤ 3200) ∧ l.Pairwise (fun p q => p.temp < q.temp) := by
  induction l with
  | nil => simp [accelOk]
  | cons p l ih =>
    cases l with
    | nil => simpa [accelOk] using tempRange_iff p
    | cons q l =>
      rw [accelOk_cons_cons, ih, List.forall_mem_cons (l := q :: l), List.pairwise_cons (l := q :: l)]
      constructor
      · rintro ⟨hp, hlt, hrange, hsorted⟩
        obtain ⟨hq, _⟩ := List.pairwise_cons.mp hsorted
        refine ⟨⟨hp, hrange⟩, fun x hx => ?_, hsorted⟩
        obtain rfl | hx := List.mem_cons.mp hx
        · exact hlt
        · exact hlt.trans (hq x hx)
      · rintro ⟨⟨hp, hrange⟩, hlt, hsorted⟩
        exact ⟨hp, hlt q List.mem_cons_self, hrange, hsorted⟩

/-- The part of an accepted table after its first breakpoint is one. -/
theorem accelOk_tail {p : Breakpoint} {l : List Breakpoint} (h : accelOk (p :: l) = true) : accelOk l = true := by
  rw [accelOk_iff] at h ⊢
  obtain ⟨hrange, hsorted⟩ := h
  exact ⟨fun x hx => hrange x (.tail _ hx), hsorted.of_cons⟩

/-- R130: no temperature of an accepted table is below the first. -/
theorem accelOk_head_le {p : Breakpoint} {l : List Breakpoint} (h : accelOk (p :: l) = true) {k : Nat}
    (hk : k < (p :: l).length) : p.temp ≤ ((p :: l).getD k ⟨0, 0⟩).temp := by
  cases k with
  | zero => exact le_rfl
  | succ k =>
    obtain ⟨hlt, _⟩ := List.pairwise_cons.mp ((accelOk_iff _).mp h).2
    have hk : k < l.length := Nat.lt_of_succ_lt_succ hk
    rw [List.getD_cons_succ, List.getD_eq_getElem l _ hk]
    exact (hlt _ (List.getElem_mem hk)).le

/-! ## Interpolation -/

/-- R134: the value between two breakpoints. -/
def interpolate (p q : Breakpoint) (x : Int) : Int :=
  p.factor + (((q.factor : Int) - p.factor) * (x - p.temp)).tdiv (q.temp - p.temp)

/-- A truncated part of a difference lies between 0 and the difference. -/
theorem tdiv_mul_between {c x d : Int} (hx : 0 ≤ x) (hd : x < d) :
    min 0 c ≤ (c * x).tdiv d ∧ (c * x).tdiv d ≤ max 0 c := by
  have part {e : Int} (he : 0 ≤ e) : 0 ≤ (e * x).tdiv d ∧ (e * x).tdiv d ≤ e := by
    have hex : 0 ≤ e * x := Int.mul_nonneg he hx
    refine ⟨Int.tdiv_nonneg hex (by omega), ?_⟩
    rw [Int.tdiv_eq_ediv_of_nonneg hex]
    exact Int.ediv_le_of_le_mul (by omega) (Int.mul_le_mul_of_nonneg_left hd.le he)
  by_cases hc : 0 ≤ c
  · have := part hc
    omega
  · have := part (e := -c) (by omega)
    rw [Int.neg_mul, Int.neg_tdiv] at this
    omega

/-- R134: an interpolated value lies between the two factors. -/
theorem interpolate_between {p q : Breakpoint} {x : Int} (hp : p.temp ≤ x) (hq : x < q.temp) :
    (min p.factor q.factor : Int) ≤ interpolate p q x ∧ interpolate p q x ≤ max p.factor q.factor := by
  have := tdiv_mul_between (c := (q.factor : Int) - p.factor) (x := x - p.temp) (d := q.temp - p.temp) (by omega)
    (by omega)
  unfold interpolate
  omega

theorem interpolate_at_first (p q : Breakpoint) : interpolate p q p.temp = p.factor := by
  simp [interpolate]

/-! ## The factor -/

theorem accelFactor_below {p : Breakpoint} {l : List Breakpoint} {x : Int} (h : x ≤ p.temp) :
    accelFactor (p :: l) x = p.factor := by
  cases l with
  | nil => rfl
  | cons q l => rw [accelFactor, if_pos h]

theorem accelFactor_between {p q : Breakpoint} {l : List Breakpoint} {x : Int} (hp : p.temp ≤ x) (hq : x < q.temp) :
    accelFactor (p :: q :: l) x = (interpolate p q x).toNat := by
  obtain rfl | hp := hp.eq_or_lt
  · rw [accelFactor_below le_rfl, interpolate_at_first, Int.toNat_natCast]
  · rw [accelFactor, if_neg (by omega), if_pos hq]
    rfl

theorem accelFactor_above {p q : Breakpoint} {l : List Breakpoint} {x : Int} (hpq : p.temp < q.temp) (hq : q.temp ≤ x) :
    accelFactor (p :: q :: l) x = accelFactor (q :: l) x := by
  rw [accelFactor, if_neg (by omega), if_neg (by omega)]

theorem accelOk_second {p q : Breakpoint} {l : List Breakpoint} (h : accelOk (p :: q :: l) = true) :
    p.temp < q.temp := by
  obtain ⟨_, hlt, _⟩ := (accelOk_cons_cons p q l).mp h
  exact hlt

/-- R134: at or above the last temperature the factor is the last. -/
theorem accelFactor_last {l : List Breakpoint} {n : Nat} {x : Int} (hl : l.length = n + 1) (hok : accelOk l = true)
    (h : (l.getD n ⟨0, 0⟩).temp ≤ x) : accelFactor l x = (l.getD n ⟨0, 0⟩).factor := by
  induction l generalizing n with
  | nil => cases hl
  | cons p l ih =>
    cases l with
    | nil =>
      obtain rfl : n = 0 := by simpa using hl.symm
      rfl
    | cons q l =>
      obtain ⟨n, rfl⟩ : ∃ m, n = m + 1 := ⟨l.length, by simpa using hl.symm⟩
      rw [List.getD_cons_succ] at h ⊢
      have hl : (q :: l).length = n + 1 := by simpa using hl
      have hq := accelOk_head_le (accelOk_tail hok) (k := n) (by omega)
      rw [accelFactor_above (accelOk_second hok) (hq.trans h)]
      exact ih hl (accelOk_tail hok) h

/-- R134: between the breakpoints `k` and `k + 1` the factor is interpolated. -/
theorem accelFactor_interpolates {l : List Breakpoint} {k : Nat} {x : Int} (hk : k + 1 < l.length)
    (hok : accelOk l = true) (h1 : (l.getD k ⟨0, 0⟩).temp ≤ x) (h2 : x < (l.getD (k + 1) ⟨0, 0⟩).temp) :
    accelFactor l x = (interpolate (l.getD k ⟨0, 0⟩) (l.getD (k + 1) ⟨0, 0⟩) x).toNat := by
  induction l generalizing k with
  | nil => cases hk
  | cons p l ih =>
    cases l with
    | nil => simp at hk
    | cons q l =>
      cases k with
      | zero => exact accelFactor_between h1 h2
      | succ k =>
        rw [List.getD_cons_succ] at h1 h2 ⊢
        rw [List.getD_cons_succ]
        have hk : k + 1 < (q :: l).length := Nat.lt_of_succ_lt_succ hk
        have hq := accelOk_head_le (accelOk_tail hok) (k := k) (by omega)
        rw [accelFactor_above (accelOk_second hok) (hq.trans h1)]
        exact ih hk (accelOk_tail hok) h1 h2

/-- Settles O15, by induction along the table: a temperature at or above the second breakpoint drops the first. -/
theorem factorInterpolatesTheTable : Obligations.FactorInterpolatesTheTable := by
  intro t n T hl hok
  refine ⟨fun h => ?_, accelFactor_last hl hok, fun k hk h1 h2 => ?_⟩
  · cases t with
    | nil => cases hl
    | cons p l => exact accelFactor_below h
  · intro p q
    have hf : accelFactor t T = (interpolate p q T).toNat := accelFactor_interpolates (by omega) hok h1 h2
    have hbetween : (min p.factor q.factor : Int) ≤ interpolate p q T ∧ interpolate p q T ≤ max p.factor q.factor :=
      interpolate_between h1 h2
    have hcast : (accelFactor t T : Int) = interpolate p q T := by rw [hf]; omega
    exact ⟨hcast, by omega, by omega⟩

/-! ## Requests -/

/-- R188: a command that takes a request of a part that is ready is replied to. -/
theorem exec_replied {i : Instr} {kind : Byte} {serve : State → Served} {s u : State} {payload : List Byte} (h : Ready s)
    (he : exec i s = .next (takeRequest kind serve s)) (hs : serve (received s) = ⟨received u, payload⟩) :
    exec i s = .next (replied kind payload u) :=
  he.trans (congrArg Host.Outcome.next (takeRequest_replied kind serve s u payload h hs))

/-- R130: a table in order replaces the one in force. -/
theorem serveAccelTableLoad_of_ok {l : List Breakpoint} {s : State} (h1 : l ≠ []) (h16 : l.length ≤ 16)
    (hok : accelOk l = true) : serveAccelTableLoad l s = reply { s with acct.accel := l } .ok (accelBytes l) := by
  unfold serveAccelTableLoad
  rw [if_neg (by omega), if_neg (by rw [hok]; decide), if_neg h1]

/-- Settles O14: the two requests written out, with the order of a table said by `accelOk_iff`. -/
theorem tableAndWeightsAreWritten : Obligations.TableAndWeightsAreWritten := by
  intro s hr
  refine ⟨fun t h1 h16 hrange hsorted => ?_, exec_replied hr rfl rfl, fun a b => exec_replied hr rfl ?_⟩
  · have hok := (accelOk_iff t).mpr ⟨hrange, hsorted⟩
    exact exec_replied hr rfl (serveAccelTableLoad_of_ok (by rintro rfl; simp at h1) h16 hok)
  · unfold serveWeightsSet
    split <;> rfl

/-- R145, R146: reading the last page that was not read releases the snapshot. -/
theorem SnapCopy.afterRead_eq (c : SnapCopy) (q : Nat) :
    c.afterRead q = if ∀ i : Fin 32, (c.pages.set (socketOf q) true).get i = true then .absent
      else .held { c with pages := c.pages.set (socketOf q) true } := by
  have hall (t : Table 32 Bool) : t.toList.all id = true ↔ ∀ i : Fin 32, t.get i = true := by
    simp [Table.mem_toList]
  unfold afterRead
  simp only [hall]

theorem serveAccountRead_of_held {c : SnapCopy} {q : Nat} {s : State} (h : s.acct.snapshot = .held c) (hq : q ≤ 31) :
    serveAccountRead q s = reply { s with acct.snapshot := c.afterRead q } .ok (pageReply c q) := by
  unfold serveAccountRead
  rw [if_neg (by omega), h]

theorem serveAccountRead_of_none {q : Nat} {s : State} (h : s.acct.snapshot = .absent ∨ s.acct.snapshot = .waiting)
    (hq : q ≤ 31) : serveAccountRead q s = answer s .refusedState := by
  unfold serveAccountRead
  rw [if_neg (by omega)]
  obtain e | e := h <;> rw [e]

theorem serveAccountSnapshot_of_absent {s : State} (h : s.acct.snapshot = .absent) :
    serveAccountSnapshot s = answer { s with acct.snapshot := .waiting } .ok := by
  unfold serveAccountSnapshot
  rw [h]

theorem serveAccountSnapshot_of_taken {s : State} (h : s.acct.snapshot ≠ .absent) :
    serveAccountSnapshot s = answer s .refusedHeld := by
  unfold serveAccountSnapshot
  split
  · next e => exact absurd e h
  · rfl
  · rfl

theorem serveAccountClear_of_board {k : Slot} {s : State} (h : (s.slot k).board ≠ .empty) :
    serveAccountClear k.code s = answer (clearDevStrikes k (zeroRecords k s)) .ok := by
  rw [serveAccountClear, withSlot_code, if_neg h]

theorem serveAccountClear_of_empty {k : Slot} {s : State} (h : (s.slot k).board = .empty) :
    serveAccountClear k.code s = answer s .noBoard := by
  rw [serveAccountClear, withSlot_code, if_pos h]

/-- Settles O16: the four requests in each state of the snapshot and of the board. -/
theorem snapshotRequestsAndAccountClear : Obligations.SnapshotRequestsAndAccountClear := by
  intro s hr
  refine ⟨fun h => ?_, fun h => ?_, fun c q hc hq => ?_, fun q hq h => ?_, exec_replied hr rfl rfl, fun k hb => ?_,
    fun k hb => ?_, exec_replied hr rfl rfl⟩
  · exact exec_replied hr rfl (serveAccountSnapshot_of_absent (s := received s) h)
  · exact exec_replied hr rfl (serveAccountSnapshot_of_taken (s := received s) h)
  · rw [← c.afterRead_eq]
    exact exec_replied hr rfl (serveAccountRead_of_held (s := received s) hc hq)
  · exact exec_replied hr rfl (serveAccountRead_of_none (s := received s) h hq)
  · exact exec_replied hr rfl (serveAccountClear_of_board (s := received s) hb)
  · exact exec_replied hr rfl (serveAccountClear_of_empty (s := received s) hb)

end Sys2Proof.Machine
end


section
/-!
PROOFS. The clock monitor (R132, R164, R175, R176, R180).
-/

namespace Sys2Proof.Machine

open Safety

/-- R180: raises are taken while the part runs. -/
theorem raiseClock_of_running {s : State} (h : s.part.phase = .running) : raiseClock s = raiseSource .clock s :=
  if_pos (by rw [h]; rfl)

theorem raiseClock_of_quiet {s : State} (h : s.part.phase.raises = false) : raiseClock s = s :=
  if_neg (by rw [h]; decide)

theorem running_of_running {s : State} (h : s.part.phase = .running) : s.running = true := by
  rw [State.running, h]
  rfl

/-- R132, R175: what a detection sets, before its raise. -/
def heldOver (s : State) : State :=
  { s with clock.live := .holdover, clock.source := .internal, clock.sticky := true, clock.qualifying := false
           acct.holdover := s.acct.holdover || s.running }

/-- R176: what a qualification that succeeds sets, before its raise. -/
def relocked (s : State) : State :=
  { s with clock.live := .locked, clock.source := .refclk, clock.qualifying := false }

theorem holdoverDetected_of_locked {s : State} (hw : s.part.phase.watches = true) (h : s.clock.live = .locked) :
    holdoverDetected s = raiseClock (heldOver s) := if_pos ⟨hw, h⟩

theorem holdoverDetected_of_holdover {s : State} (h : s.clock.live = .holdover) : holdoverDetected s = s :=
  if_neg fun ⟨_, e⟩ => by rw [h] at e; cases e

theorem whileHoldover_of_locked (f : State → State) {s : State} (h : s.clock.live = .locked) : whileHoldover f s = s :=
  if_neg fun ⟨_, e⟩ => by rw [h] at e; cases e

theorem whileHoldover_of_holdover (f : State → State) {s : State} (hr : s.part.phase = .running)
    (h : s.clock.live = .holdover) : whileHoldover f s = f s :=
  if_pos ⟨by rw [hr]; rfl, h⟩

theorem qualified_of_qualifying {s : State} (h : s.clock.qualifying = true) : qualified s = raiseClock (relocked s) :=
  if_pos h

theorem qualified_of_idle {s : State} (h : s.clock.qualifying = false) : qualified s = s := if_neg (by rw [h]; decide)

/-- Settles O50: the monitor's events by its state, and a detection by what the phase takes of it. -/
theorem clockMonitorFollowsTheReference : Obligations.ClockMonitorFollowsTheReference := by
  intro s c
  refine ⟨fun hl => ⟨fun hr => ?_, fun hp => ?_, ?_, ?_, ?_⟩,
      fun hh => ⟨?_, fun hr => ⟨?_, ?_, fun hq => ?_, fun hq => ?_⟩⟩⟩
    <;> refine congrArg Host.Outcome.next ?_
  · rw [holdoverDetected_of_locked (by rw [hr]; rfl) hl, raiseClock_of_running (s := heldOver s) hr, heldOver,
      running_of_running hr, Bool.or_true]
    rfl
  · have hquiet : s.part.phase.watches = true ∧ s.part.phase.raises = false ∧ s.running = false := by
      obtain e | e := hp <;> simp [State.running, e, Phase.watches, Phase.raises]
    obtain ⟨hwatches, hraises, hstill⟩ := hquiet
    rw [holdoverDetected_of_locked hwatches hl, raiseClock_of_quiet (s := heldOver s) hraises, heldOver, hstill,
      Bool.or_false]
  iterate 3 exact whileHoldover_of_locked _ hl
  · exact holdoverDetected_of_holdover hh
  · exact whileHoldover_of_holdover _ hr hh
  · exact whileHoldover_of_holdover _ hr hh
  · rw [whileHoldover_of_holdover _ hr hh, qualified_of_qualifying hq, raiseClock_of_running (s := relocked s) hr]
    rfl
  · rw [whileHoldover_of_holdover _ hr hh, qualified_of_idle hq]

end Sys2Proof.Machine
end


section
/-!
PROOFS. `VerdictsAgree` (R129, R139 to R141, R181), said of one record at a time, and that the operations of the slots keep it.
The only operations that touch a verdict are the failure report (R139), REINSTATE (R141) and the zeroing of a set (R129).
-/

namespace Sys2Proof.Machine

open Safety

/-! ## The property of one record -/

/-- R129, R140: a first failure is recorded exactly while the verdict is FAILED. -/
def AcctRecord.Agrees (r : AcctRecord) : Prop := r.first.isSome = decide (r.verdict = .failed)

/-- R128, R129: every record of the four sets agrees. -/
def SetsAgree (p : PerSlot AcctSet) : Prop := ∀ (k : Slot) (i : Socket), ((p.get k).recs.get i).Agrees

/-- R129, R181: the records in the sets and in their retained copy agree. Since it speaks of these two alone, what holds
of a state holds by definition of every update of its other blocks. -/
def RecordsAgree (s : State) : Prop := SetsAgree s.acct.sets ∧ SetsAgree s.ret.image.sets

theorem verdictsAgree_iff (s : State) : VerdictsAgree s ↔ RecordsAgree s :=
  ⟨fun h => ⟨fun k i => (h k (Slot.mem_all k) i).1, fun k i => (h k (Slot.mem_all k) i).2⟩,
    fun ⟨hlive, hkept⟩ k _ i => ⟨hlive k i, hkept k i⟩⟩

theorem zeroRecord_agrees : Config.zeroRecord.Agrees := rfl

theorem AcctRecord.Agrees.reported {r : AcctRecord} (h : r.Agrees) (c : FailCause) :
    ((r.countReport c).markLogged c).Agrees := by
  cases c <;> exact h

section
variable {k : Slot} {i : Socket} {n : Nat} {s t : State}

/-! ## Updates of the state -/

theorem RecordsAgree.of_eq (h : RecordsAgree s) (ha : t.acct = s.acct) (hr : t.ret = s.ret) : RecordsAgree t := by
  unfold RecordsAgree
  rw [ha, hr]
  exact h

/-- R152: an append reads the accounts and leaves them. -/
theorem appendEntry_agrees {a : Option Slot} {o : Option Socket} {c : LogCause} {d : List Byte} (h : RecordsAgree s) :
    RecordsAgree (appendEntry a o c d s) := h.of_eq (by simp) (by simp)

theorem setPower_agrees {p : PowerState} {w : Timer} (h : RecordsAgree s) : RecordsAgree (setPower k i p w s) :=
  h.of_eq (by simp) (by simp)

theorem SetsAgree.set {p : PerSlot AcctSet} {a : AcctSet} (h : SetsAgree p) (ha : ∀ i : Socket, (a.recs.get i).Agrees) :
    SetsAgree (p.set k a) := by
  intro j i
  rw [PerSlot.get_set]
  split
  · exact ha i
  · exact h j i

theorem setRecord_agrees {r : AcctRecord} (h : RecordsAgree s) (hr : r.Agrees) : RecordsAgree (s.setRecord k i r) := by
  obtain ⟨hlive, hkept⟩ := h
  refine ⟨hlive.set fun n => ?_, hkept⟩
  rw [Table.get_set]
  split
  · exact hr
  · exact hlive k n

theorem RecordsAgree.record (h : RecordsAgree s) (k : Slot) (i : Socket) : (s.record k i).Agrees := h.1 k i

/-- R129: a set zeroed holds GOOD verdicts and no first failure. -/
theorem zeroRecords_agrees (h : RecordsAgree s) : RecordsAgree (zeroRecords k s) := by
  obtain ⟨hlive, hkept⟩ := h
  refine ⟨hlive.set fun n => ?_, hkept⟩
  rw [Table.get_fill]
  exact zeroRecord_agrees

theorem setTag_agrees {a : Identity} (h : RecordsAgree s) : RecordsAgree (setTag k a s) := by
  obtain ⟨hlive, hkept⟩ := h
  exact ⟨hlive.set (hlive k), hkept⟩

theorem forSockets_agrees {f : Socket → State → State} (hf : ∀ i u, RecordsAgree u → RecordsAgree (f i u))
    (l : List Socket) (h : RecordsAgree s) : RecordsAgree (forSockets l f s) :=
  forSockets_invariant RecordsAgree f hf l s h

/-! ## Reports and trips -/

/-- R139, R140: the report that turns a socket FAILED writes its first-failure record, and no other report touches
either. -/
theorem reportFailure_agrees {c : FailCause} {d : List Byte} (h : RecordsAgree s) :
    RecordsAgree (reportFailure k i c d s) := by
  obtain ⟨hlive, hkept⟩ := h
  refine ⟨fun j n => ?_, by simpa using hkept⟩
  rw [State.get_recs]
  by_cases hn : j = k ∧ n = i
  · obtain ⟨rfl, rfl⟩ := hn
    rw [reportFailure_record_same]
    dsimp only
    split
    · rfl
    · exact AcctRecord.Agrees.reported (hlive j n) c
  · rw [reportFailure_record_ne k i c d s hn]
    exact hlive j n

/-- R139: bursts and the scanner reach the accounts by reports alone. -/
theorem Reporting.agrees (h : Reporting k s t) (hs : RecordsAgree s) : RecordsAgree t := by
  induction h with
  | refl => exact hs
  | report i c d _ ih => exact reportFailure_agrees ih
  | scanner _ _ ih | channel _ _ ih | compare _ _ ih | throttle _ _ ih | raise _ _ ih => exact ih

theorem tripSocket_agrees {c : LogCause} {d : List Byte} (h : RecordsAgree s) :
    RecordsAgree (tripSocket k i c d s) := by
  by_cases hp : (s.socket k i).power = .on
  · obtain ⟨q, s2, s4, _, e2, e4, e⟩ := tripSocket_of_on k i c d s hp
    have h2 : RecordsAgree s2 := e2 ▸ setPower_agrees h
    have h4 : RecordsAgree (s4.setSlot k { s4.slot k with socketTrip := true }) :=
      e4 ▸ appendEntry_agrees (setRecord_agrees h2 (h2.record k i))
    rw [e]
    cases q
    · exact h4
    · exact reportFailure_agrees h4
  · rw [tripSocket_of_not_on k i c d s hp]
    exact h

theorem switchOn_agrees (h : RecordsAgree s) : RecordsAgree (switchOn k i s) := by
  obtain ⟨_, e⟩ | ⟨_, ⟨_, e⟩ | ⟨_, e⟩⟩ := switchOn_cases k i s <;> rw [e]
  · exact h
  · exact setPower_agrees h
  · exact tripSocket_agrees (setPower_agrees h)

theorem tripEither_agrees {a b : Option (LogCause × List Byte)} (h : RecordsAgree s) :
    RecordsAgree (tripEither k i a b s) := by
  obtain ⟨_, _, e⟩ | ⟨c, d, n, _, _, e⟩ := tripEither_cases k i a b s <;> rw [e]
  · exact h
  · exact tripSocket_agrees h

/-! ## Sockets -/

/-- R31: a socket made OFF goes ON again where its board is POWERED. -/
theorem switchOn_powered_agrees (h : RecordsAgree s) :
    RecordsAgree (if (s.slot k).board = .powered then switchOn k i s else s) := by
  split
  · exact switchOn_agrees h
  · exact h

theorem maskSocket_agrees (h : RecordsAgree s) : RecordsAgree (maskSocket k i s) := by
  obtain e | e := maskSocket_cases k i s <;> rw [e]
  · exact h
  · exact setPower_agrees h

theorem unmaskSocket_agrees (h : RecordsAgree s) : RecordsAgree (unmaskSocket k i s) := by
  unfold unmaskSocket
  split
  · exact switchOn_powered_agrees (setPower_agrees h)
  · exact h

theorem retryExpired_agrees (h : RecordsAgree s) : RecordsAgree (retryExpired k i s) := by
  unfold retryExpired
  split
  · exact switchOn_powered_agrees (setPower_agrees h)
  · exact h

/-- R141: REINSTATE makes the verdict GOOD and removes the first-failure record. -/
theorem reinstateSocket_agrees (h : RecordsAgree s) : RecordsAgree (reinstateSocket k i s) := by
  have h1 (d : List Byte) : RecordsAgree (appendSocket k i .reinstated d (s.setRecord k i (s.record k i).reinstate)) :=
    appendEntry_agrees (setRecord_agrees h rfl)
  unfold reinstateSocket
  refine switchOn_powered_agrees ?_
  dsimp only
  split
  iterate 2 exact setPower_agrees (h1 _)
  all_goals exact h1 _

/-! ## Applies -/

theorem takeApply_agrees (h : RecordsAgree s) : RecordsAgree (takeApply k s) := by
  have hlimit (m : Nat) : RecordsAgree (applyLimit k m (copyStaged k s)) := by
    unfold applyLimit
    dsimp only
    split
    · refine forSockets_agrees (fun i u hu => ?_) _ h
      obtain ⟨_, e⟩ | ⟨_, u1, e1, ⟨_, e⟩ | ⟨_, e⟩⟩ := lowerLimit_cases k _ i u <;> rw [e]
      · exact hu
      · exact e1 ▸ hu
      · exact reportFailure_agrees (setPower_agrees (e1 ▸ hu))
    · exact h
  unfold takeApply applyPolicy
  dsimp only
  split
  · split
    · exact forSockets_agrees (fun _ _ => switchOn_agrees) _ (hlimit _)
    · exact hlimit _
  · exact forSockets_agrees (fun i u hu => hu.of_eq (by simp) (by simp)) _ (hlimit _)
  · exact hlimit _

theorem endDeferred_agrees {cancel : Bool} (h : RecordsAgree s) : RecordsAgree (endDeferred k cancel s) := by
  obtain ⟨_, e⟩ | ⟨_, _, e⟩ | ⟨_, _, e⟩ := endDeferred_cases k cancel s <;> rw [e]
  · exact h
  · exact h
  · exact takeApply_agrees h

/-! ## Bursts, channels and boards taken down -/

theorem abandonBurst_agrees {cancel : Bool} (h : RecordsAgree s) : RecordsAgree (abandonBurst k cancel s) := by
  obtain ⟨_, e⟩ | ⟨_, e⟩ := abandonBurst_cases k cancel s <;> rw [e]
  · exact h
  · exact endDeferred_agrees h

theorem stopChannel_agrees {cancel : Bool} (h : RecordsAgree s) : RecordsAgree (stopChannel k cancel s) :=
  abandonBurst_agrees (k := k) (cancel := cancel) h

theorem takeDown_agrees {b : BoardState} {cancel : Bool} (h : RecordsAgree s) : RecordsAgree (takeDown k b cancel s) :=
  stopChannel_agrees (k := k) (cancel := cancel) (s := s.setSlot k { (s.slot k).hardOff with board := b }) h

theorem lockOut_agrees {cancel : Bool} (h : RecordsAgree s) : RecordsAgree (lockOut cancel k s) := by
  obtain ⟨_, e⟩ | ⟨_, e⟩ := lockOut_cases cancel k s <;> rw [e]
  · exact takeDown_agrees h
  · exact h

theorem tripBoard_agrees {r : Rail} {c : TripCause} (h : RecordsAgree s) : RecordsAgree (tripBoard k r c s) := by
  cases hb : (s.slot k).board.checked with
  | false => rw [tripBoard_of_not k r c s hb]; exact h
  | true =>
    obtain ⟨u, hu, e⟩ := tripBoard_of k r c s hb
    have h1 : RecordsAgree u := hu ▸ appendEntry_agrees (takeDown_agrees h)
    exact e ▸ h1

theorem burstEnd_agrees (h : RecordsAgree s) : RecordsAgree (burstEnd k s) := by
  obtain e | ⟨p, b, _, _, _, e⟩ := burstEnd_cases k s <;> rw [e]
  · exact h
  · have h1 : RecordsAgree (endDeferred k false (burstVerdicts k p.record b s)) :=
      endDeferred_agrees ((burstVerdicts_reporting k _ _ s).agrees h)
    obtain ⟨_, x, _, e⟩ | ⟨_, x, _, e⟩ | ⟨_, m, rec, x, _, _, e⟩ := afterBurst_cases k b
      (endDeferred k false (burstVerdicts k p.record b s)) <;> rw [e]
    · exact h1
    · exact h1
    · exact (startBurst_reporting k _).agrees h1

theorem removeBoard_agrees (h : RecordsAgree s) : RecordsAgree (removeBoard k s) := by
  have h1 : RecordsAgree (emptied k s) := takeDown_agrees (k := k) (b := .empty) (cancel := false) h
  rw [removeBoard_eq]
  split
  · exact appendEntry_agrees h1
  · exact h1

/-! ## Ramps and drains -/

theorem settleCheck_agrees {r : Rail} {inside : Bool} (h : RecordsAgree s) : RecordsAgree (settleCheck k r inside s) := by
  obtain ⟨_, e⟩ | ⟨_, e⟩ := settleCheck_cases k r inside s <;> rw [e]
  · exact h
  · obtain e | ⟨m, _, _, _, e⟩ | ⟨m, _, _, _, _, e⟩ := rampAdvance_cases k (s.setSlot k ((s.slot k).setRail r
        { r.of (s.slot k) with cond := .held, settle := none, windowMiss := 0 })) <;> rw [e]
    · exact h
    · exact h
    · exact forSockets_agrees (fun _ _ => switchOn_agrees) _ h

theorem railSample_agrees {r : Rail} {v c : Nat} (h : RecordsAgree s) : RecordsAgree (railSample k r v c s) := by
  obtain ⟨_, e⟩ | ⟨_, e⟩ | e := railSample_cases k r v c s <;> rw [e]
  · obtain ⟨d, m, _, e⟩ | ⟨_, _, e⟩ := checkRail_cases k r v c s <;> rw [e]
    · exact tripBoard_agrees h
    · exact settleCheck_agrees h
  · exact h.of_eq (by simp) (by simp)
  · exact h

theorem startDrain_agrees (h : RecordsAgree s) : RecordsAgree (startDrain k s) :=
  stopChannel_agrees (k := k) (cancel := false) h

theorem settleExpired_agrees {r : Rail} (h : RecordsAgree s) : RecordsAgree (settleExpired k r s) := by
  unfold settleExpired
  dsimp only
  split
  · exact tripBoard_agrees h
  · exact h

theorem dwellExpired_agrees (h : RecordsAgree s) : RecordsAgree (dwellExpired k s) := by
  unfold dwellExpired
  dsimp only
  split
  · split
    · split
      · exact forSockets_agrees (fun _ _ => switchOn_agrees) _ h
      · exact forSockets_agrees (fun _ _ => switchOn_agrees) _ h
    · exact h
  · exact h

theorem drainExpired_agrees (h : RecordsAgree s) : RecordsAgree (drainExpired k s) := by
  unfold drainExpired
  dsimp only
  split
  · split
    · exact h.of_eq (by simp) (by simp)
    · exact h
  · exact h

/-! ## Conversions -/

/-- R137: a sample moves the peak temperature of an ON socket alone, and may trip it. -/
theorem socketArrival_agrees {v : Option Int} (h : RecordsAgree s) : RecordsAgree (socketArrival k i v s) := by
  unfold socketArrival
  split
  · unfold socketSample
    dsimp only
    split
    · unfold sampleOn
      refine tripEither_agrees ?_
      split
      · exact setRecord_agrees (s := s.setScanner k _) h (h.record k i)
      · exact h
    · exact h
  · exact h

theorem routineResult_agrees {p m : Nat} {v : Option Int} (h : RecordsAgree s) :
    RecordsAgree (routineResult k p m v s) := by
  have rail (r : Rail) : RecordsAgree (railArrival k r v s) := by
    unfold railArrival
    split
    · exact railSample_agrees h
    · exact h
  unfold routineResult
  split
  iterate 2 exact h
  iterate 2 exact rail _
  split
  · exact h
  · exact socketArrival_agrees (k := k) h

theorem conversionEnd_agrees {v : Option Int} (h : RecordsAgree s) : RecordsAgree (conversionEnd k v s) := by
  obtain e | ⟨c, _, ⟨w, _, e⟩ | ⟨_, e⟩⟩ := conversionEnd_cases k v s <;> rw [e]
  · exact h
  · exact ((captureResult_reporting _ _ _ _ _).trans
      ((advanceSet_reporting _ _ _).trans (chooseNext_reporting k _))).agrees h
  · refine (chooseNext_reporting k _).agrees ?_
    unfold routineEnd
    split
    · exact h
    · exact (advanceRound_reporting k _).agrees (routineResult_agrees h)

/-! ## Presence and identity -/

theorem enterIdent_agrees (h : RecordsAgree s) : RecordsAgree (enterIdent k s) := h.of_eq (by simp) (by simp)

/-- R5, R6: the tagging of a set leaves its records or, where the board is another one, zeroes them. -/
theorem tagBoard_agrees {a : Identity} (h : RecordsAgree s) : RecordsAgree (tagBoard k a s) := by
  obtain ⟨_, e⟩ | ⟨_, e⟩ | ⟨old, _, _, e⟩ := tagBoard_cases k a s <;> rw [e]
  · exact setTag_agrees h
  · exact h
  · exact appendEntry_agrees (s := clearDevStrikes k (setTag k a (zeroRecords k s))) (setTag_agrees (zeroRecords_agrees h))

theorem identityAnswer_agrees {a : Identity} {d : Descriptor} (h : RecordsAgree s) :
    RecordsAgree (identityAnswer k a d s) := by
  unfold identityAnswer
  dsimp only
  split
  · split
    · exact tagBoard_agrees (k := k) (a := a) (s := recordAnswer k a d s) h
    · exact h
  · exact h

end

end Sys2Proof.Machine
end


section
/-!
PROOFS. Every step keeps `VerdictsAgree` (R129, R139 to R141, R181): the requests, the events that are not of one slot, and
the way of the sets to retention memory and back.
-/

namespace Sys2Proof.Machine

open Safety

section
variable {k : Slot} {n : Nat} {s t : State}

/-! ## All four slots -/

theorem safeEntry_agrees {c : SafeCause} {d : List Byte} (h : RecordsAgree s) : RecordsAgree (safeEntry c d s) :=
  appendEntry_agrees (s := forSlots (lockOut false) { s with zone := s.zone.enterSafe c })
    (forSlots_invariant RecordsAgree _ (fun _ _ => lockOut_agrees) _ h)

/-- R16: ZONE-RESET leaves the accounts. -/
theorem serveZoneReset_agrees (h : RecordsAgree s) : RecordsAgree (serveZoneReset s).state := by
  by_cases hz : s.zone.state = .safe
  · rw [serveZoneReset_of_safe hz]
    exact h
  · rw [serveZoneReset_of_not_safe hz]
    have h1 : RecordsAgree (forSlots zoneResetSlot s) := by
      obtain ⟨_, hacct, _⟩ := forSlots_recordsKept zoneResetSlot zoneResetSlot_recordsKept s
      obtain ⟨_, _, _, _, hret, _⟩ := forSlots_sharedKept zoneResetSlot zoneResetSlot_slotFrame s
      exact h.of_eq hacct hret
    generalize forSlots zoneResetSlot s = u at h1 ⊢
    have h2 : RecordsAgree (zoneResetShared u) := h1
    exact h2.of_eq (by simp [answer, reply]) (by simp [answer, reply])

/-- R181: a commit copies sets whose records agree. -/
theorem commitStart_agrees {kept : Bool} (h : RecordsAgree s) : RecordsAgree (commitStart kept s) := by
  obtain ⟨_, hacct, _⟩ := forSlots_recordsKept commitBlocks commitBlocks_recordsKept s
  rw [commitStart_eq]
  generalize forSlots commitBlocks s = u at hacct
  have hsets : SetsAgree u.acct.sets := hacct ▸ h.1
  exact ⟨hsets, hsets⟩

/-! ## Requests -/

theorem withSlot_agrees {f : Slot → Served} (h : RecordsAgree s) (hf : ∀ k, RecordsAgree (f k).state) :
    RecordsAgree (withSlot s n f).state := by
  unfold withSlot
  split
  · exact hf _
  · exact h

theorem withRecord_agrees {f : Fin 32 → Served} (h : RecordsAgree s) (hf : ∀ r, RecordsAgree (f r).state) :
    RecordsAgree (withRecord s n f).state := by
  unfold withRecord
  split
  · exact h
  · exact hf _

theorem serveBoardPowerDown_agrees (h : RecordsAgree s) : RecordsAgree (serveBoardPowerDown n s).state := by
  refine withSlot_agrees h fun k => ?_
  split
  iterate 4 exact h
  all_goals exact startDrain_agrees h

theorem serveBoardApply_agrees (h : RecordsAgree s) : RecordsAgree (serveBoardApply n s).state := by
  have applied (k : Slot) : RecordsAgree (applyBoard k s).state := by
    unfold applyBoard
    dsimp only
    split
    · exact h
    · split
      · exact h
      · split
        · exact h
        · exact takeApply_agrees h
  refine withSlot_agrees h fun k => ?_
  split
  iterate 2 exact h
  all_goals exact applied k

theorem socketSetChecks_agrees {l : List Nat} {f : Slot → Served} (h : RecordsAgree s)
    (hf : ∀ k, RecordsAgree (f k).state) : RecordsAgree (socketSetChecks n l s f).state := by
  unfold socketSetChecks
  split
  · exact h
  · refine withSlot_agrees h fun k => ?_
    split
    iterate 2 exact h
    all_goals exact hf k

theorem serveSocketSet_agrees {act : Slot → Socket → State → State} {l : List Nat}
    (ha : ∀ k i u, RecordsAgree u → RecordsAgree (act k i u)) (h : RecordsAgree s) :
    RecordsAgree (serveSocketSet act n l s).state := by
  refine socketSetChecks_agrees h fun k => ?_
  split
  · exact h
  · exact forSockets_agrees (ha k) _ h

theorem serveBurstConfigSet_agrees {p m c g : Nat} (h : RecordsAgree s) :
    RecordsAgree (serveBurstConfigSet n p m c g s).state := by
  refine withSlot_agrees h fun k => ?_
  split
  · exact h
  · split
    · exact h
    · exact (setBurstConfig_reporting _ _ _).agrees h

theorem serveExerciseStart_agrees (h : RecordsAgree s) : RecordsAgree (serveExerciseStart n s).state := by
  refine withSlot_agrees h fun k => ?_
  dsimp only
  split
  · exact h
  · split
    · exact h
    · split
      · exact h
      · split
        iterate 3 exact h
        iterate 2
          split
          · exact h
          · exact (burstPoint_reporting k s).agrees h

theorem serveExerciseStop_agrees (h : RecordsAgree s) : RecordsAgree (serveExerciseStop n s).state := by
  refine withSlot_agrees h fun k => ?_
  split
  · exact h
  · exact stopChannel_agrees h

theorem serveBurstTrigger_agrees (h : RecordsAgree s) : RecordsAgree (serveBurstTrigger n s).state := by
  refine withSlot_agrees h fun k => ?_
  dsimp only
  split
  · exact h
  · split
    · exact h
    · split
      · exact ((dropUndefined_reporting k s).trans (startBurst_reporting _ _)).agrees h
      · split
        · split
          · exact (startBurst_reporting _ _).agrees (abandonBurst_agrees h)
          · exact h
        · exact h
      all_goals exact h

/-- R142: ACCOUNT-CLEAR zeroes a set. -/
theorem serveAccountClear_agrees (h : RecordsAgree s) : RecordsAgree (serveAccountClear n s).state := by
  refine withSlot_agrees h fun k => ?_
  split
  · exact h
  · exact zeroRecords_agrees (k := k) h

/-- Every request of the catalogue keeps the property: those that switch, apply, burst or clear, as above, and the others
because they write neither the sets nor their retained copy. -/
theorem Request.agrees {f : State → Served} (hf : Request f) (s : State) (h : RecordsAgree s) :
    RecordsAgree (f s).state := by
  cases hf with
  | zoneReset => exact serveZoneReset_agrees h
  | zoneAbort =>
    unfold serveZoneAbort
    split
    · exact h
    · exact safeEntry_agrees h
  | boardPowerDown => exact serveBoardPowerDown_agrees h
  | boardApply => exact serveBoardApply_agrees h
  | socketSetMask => exact serveSocketSet_agrees (fun _ _ _ => maskSocket_agrees) h
  | socketSetUnmask => exact serveSocketSet_agrees (fun _ _ _ => unmaskSocket_agrees) h
  | socketSetReinstate => exact serveSocketSet_agrees (fun _ _ _ => reinstateSocket_agrees) h
  | socketSetOther => exact socketSetChecks_agrees h fun _ => h
  | burstConfigSet => exact serveBurstConfigSet_agrees h
  | exerciseStart => exact serveExerciseStart_agrees h
  | exerciseStop => exact serveExerciseStop_agrees h
  | burstTrigger => exact serveBurstTrigger_agrees h
  | accountClear => exact serveAccountClear_agrees h
  | identify | logStatus | clockStatus | refused | zoneStatus | weightsSet | snapshotRelease | clockClear => exact h
  | zoneSetpoint =>
    unfold serveZoneSetpoint
    dsimp only
    repeat' split
    all_goals exact h
  | zoneTune =>
    unfold serveZoneTune
    repeat' split
    all_goals exact h
  | zoneCool =>
    unfold serveZoneCool
    split <;> exact h
  | boardPowerUp =>
    refine withSlot_agrees h fun k => ?_
    dsimp only
    repeat' split
    all_goals exact h
  | boardStage =>
    unfold serveBoardStage
    dsimp only
    split
    · exact h
    · split
      · exact h
      · refine withSlot_agrees h fun k => ?_
        unfold stageItems
        dsimp only
        repeat' split
        all_goals exact h
  | boardStatus => exact withSlot_agrees h fun k => by split <;> exact h
  | socketStatus =>
    unfold serveSocketStatus
    split
    · exact h
    · refine withSlot_agrees h fun k => ?_
      repeat' split
      all_goals exact h
  | patternLoad =>
    unfold servePatternLoad
    dsimp only
    repeat' split
    all_goals exact h
  | patternDefineWrite =>
    refine withRecord_agrees h fun r => ?_
    repeat' split
    all_goals exact h
  | patternDefineClear => exact withRecord_agrees h fun r => by split <;> exact h
  | patternDefineQuery => exact withRecord_agrees h fun _ => h
  | burstConfigQuery | burstConfigOther => exact withSlot_agrees h fun k => by split <;> exact h
  | accelTableLoad =>
    unfold serveAccelTableLoad
    repeat' split
    all_goals exact h
  | accountSnapshot =>
    unfold serveAccountSnapshot
    split <;> exact h
  | accountRead =>
    unfold serveAccountRead
    repeat' split
    all_goals exact h
  | logRead =>
    unfold serveLogRead
    split <;> exact h
  | logRetire =>
    unfold serveLogRetire
    dsimp only
    split <;> exact h
  | alertMask =>
    unfold serveAlertMask
    split <;> exact h
  | alertConfig =>
    unfold serveAlertConfig
    split <;> exact h
  | alertPoll =>
    unfold serveAlertPoll
    split <;> exact h
  | alertDone =>
    unfold serveAlertDone
    repeat' split
    all_goals exact h

theorem takeRequest_agrees {kind : Byte} {serve : State → Served} (hf : Request serve) (h : RecordsAgree s) :
    RecordsAgree (takeRequest kind serve s) := by
  obtain ⟨_, e⟩ | ⟨_, _, e⟩ | ⟨_, l, e⟩ := takeRequest_cases kind serve s <;> rw [e]
  · exact h
  · exact h
  · exact hf.agrees (received s) h

/-! ## Events -/

theorem whenRunning_agrees {f : State → State} (h : RecordsAgree s) (hf : RecordsAgree (f s)) :
    RecordsAgree (whenRunning f s) := by
  unfold whenRunning
  split
  · exact hf
  · exact h

theorem takeFrame_agrees {kind : Byte} {p : List Byte} (h : RecordsAgree s) : RecordsAgree (takeFrame kind p s) := by
  obtain ⟨serve, hr, e⟩ := takeFrame_request kind p s
  rw [e]
  exact takeRequest_agrees hr h

theorem byteArrived_agrees {b : Byte} {stop : Bool} (h : RecordsAgree s) : RecordsAgree (byteArrived b stop s) := by
  have received (l : List Byte) : RecordsAgree (receiveByte l s) := by
    unfold receiveByte
    dsimp only
    split
    · exact h
    · split
      · exact h
      · split
        · unfold frameArrived
          dsimp only
          split
          · exact takeFrame_agrees h
          · exact h
        · exact h
  unfold byteArrived
  split
  · split <;> exact h
  · split
    · exact received _
    · exact h

theorem beginAlert_agrees (h : RecordsAgree s) : RecordsAgree (beginAlert s) := by
  unfold beginAlert
  split <;> exact h

theorem frameSent_agrees (h : RecordsAgree s) : RecordsAgree (frameSent s) := by
  unfold frameSent
  split
  · exact h
  · refine whenRunning_agrees h ?_
    unfold sendNext
    split
    · exact h
    · exact beginAlert_agrees h

theorem controlInterval_agrees {p q : Option Int} (h : RecordsAgree s) : RecordsAgree (controlInterval p q s) := by
  have work (z : Zone) : RecordsAgree (zoneWork { s with zone := z }) := by
    unfold zoneWork raiseIf
    dsimp only
    split <;> exact h
  unfold controlInterval
  split
  · dsimp only
    split
    · exact work _
    · exact safeEntry_agrees h
    · exact work _
  · exact h

/-- R133 to R136: what a socket accrues leaves its verdict and its first failure. -/
theorem accrueSet_agrees (h : RecordsAgree s) (k : Slot) (i : Socket) : ((accrueSet s k).recs.get i).Agrees := by
  by_cases hidle : (s.slot k).board = .empty ∨ (s.acct.sets.get k).tag = none
  · rw [accrueSet_of_idle hidle]
    exact h.record k i
  · obtain ⟨hboard, htag⟩ := not_or.mp hidle
    rw [accrueSet_of_live hboard htag]
    exact h.record k i

theorem accountInterval_agrees (h : RecordsAgree s) : RecordsAgree (accountInterval s) := by
  by_cases hd : s.acct.interval = some 0
  · rw [accountInterval_of_due hd]
    refine ⟨fun k i => ?_, h.2⟩
    dsimp only [accrued]
    rw [get_perSlot]
    exact accrueSet_agrees h k i
  · rw [accountInterval_of_not_due hd]
    exact h

theorem raiseClock_agrees (h : RecordsAgree s) : RecordsAgree (raiseClock s) := by
  unfold raiseClock
  split <;> exact h

theorem holdoverDetected_agrees (h : RecordsAgree s) : RecordsAgree (holdoverDetected s) := by
  unfold holdoverDetected
  split
  · exact raiseClock_agrees h
  · exact h

theorem whileHoldover_agrees {f : State → State} (h : RecordsAgree s) (hf : RecordsAgree (f s)) :
    RecordsAgree (whileHoldover f s) := by
  unfold whileHoldover
  split
  · exact hf
  · exact h

theorem qualified_agrees (h : RecordsAgree s) : RecordsAgree (qualified s) := by
  unfold qualified
  split
  · exact raiseClock_agrees h
  · exact h

/-! ## Power and retention -/

/-- R148: at a start the sets are zeroed; the retained copy stays. -/
theorem blank_agrees {p : Phase} (h : RecordsAgree s) : RecordsAgree (blank p s) := by
  refine ⟨fun k i => ?_, h.2⟩
  simp only [blank, State.reset, accountReset, Config.blankSet, PerSlot.get_fill, Table.get_fill]
  exact zeroRecord_agrees

theorem powerFail_agrees (h : RecordsAgree s) : RecordsAgree (powerFail s) := by
  unfold powerFail
  split
  · exact commitStart_agrees h
  all_goals exact h

theorem resetAsserted_agrees (h : RecordsAgree s) : RecordsAgree (resetAsserted s) := by
  unfold resetAsserted
  split
  · exact commitStart_agrees h
  all_goals exact h

theorem resetReleased_agrees (h : RecordsAgree s) : RecordsAgree (resetReleased s) := by
  unfold resetReleased
  split
  iterate 2 exact blank_agrees h
  all_goals exact h

theorem commitComplete_agrees (h : RecordsAgree s) : RecordsAgree (commitComplete s) := by
  unfold commitComplete
  split
  · dsimp only
    split
    · exact blank_agrees h
    · exact h
  · exact h

/-- R143, R183: the check restores the retained sets, with INTERRUPTED marked, or zeroes them. -/
theorem checkOutcome_agrees (h : RecordsAgree s) : RecordsAgree (checkOutcome s) := by
  have hrestored : RecordsAgree (restoreImage s.ret.image s) := by
    refine ⟨fun k i => ?_, h.2⟩
    simp only [restoreImage, PerSlot.get_map, AcctSet.interrupt_recs]
    exact h.2 k i
  have hlost : RecordsAgree (loseImage s) := by
    refine ⟨fun k i => ?_, h.2⟩
    simp only [loseImage, Config.blankSet, PerSlot.get_fill, Table.get_fill]
    exact zeroRecord_agrees
  have closed {u : State} (hu : RecordsAgree u) : RecordsAgree (closeCheck u) :=
    RecordsAgree.of_eq (s := { u with ret := { u.ret with checksum := none } }) hu (by simp [closeCheck])
      (by simp [closeCheck])
  by_cases hv : s.ret.valid = true
  · rw [checkOutcome_valid_eq hv]
    exact closed (appendEntry_agrees hrestored)
  · rw [checkOutcome_lost_eq hv]
    exact closed (appendEntry_agrees hlost)

theorem findBoard_agrees (h : RecordsAgree s) : RecordsAgree (findBoard k s) := by
  unfold findBoard
  split
  · exact enterIdent_agrees h
  · exact h

theorem retentionCheckEnd_agrees (h : RecordsAgree s) : RecordsAgree (retentionCheckEnd s) := by
  have hrun : RecordsAgree (runningStart (checkOutcome s)) :=
    forSlots_invariant RecordsAgree findBoard (fun _ _ => findBoard_agrees) (runningShared (checkOutcome s))
      (checkOutcome_agrees h)
  unfold retentionCheckEnd
  dsimp only
  split
  · split
    · exact commitStart_agrees hrun
    · exact hrun
  · exact h

/-! ## Every step -/

/-- Every command keeps the property. -/
theorem exec_agrees {i : Instr} (h : RecordsAgree s) (ht : exec i s = .next t) : RecordsAgree t := by
  cases hf : requestFrame i with
  | some f =>
    obtain e | ⟨kind, serve, hr, e⟩ := exec_request i f hf s
    · rw [e] at ht
      injection ht with ht
      exact ht ▸ whenRunning_agrees h h
    · rw [e] at ht
      injection ht with ht
      exact ht ▸ takeRequest_agrees hr h
  | none =>
    have running {f : State → State} (hk : RecordsAgree (f s)) : RecordsAgree (whenRunning f s) := whenRunning_agrees h hk
    cases i
    all_goals simp only [requestFrame, reduceCtorEq] at hf
    all_goals
      injection ht with ht
      subst ht
    case frameDiscarded => exact running h
    case receiveTimeout => exact running (by split <;> exact h)
    case frameSent => exact frameSent_agrees h
    case alertFrame => exact running (beginAlert_agrees h)
    case boardInserted k =>
      refine whenRunning_agrees h ?_
      unfold boardInserted
      split
      · exact enterIdent_agrees h
      · exact h
    case boardRemoved k =>
      refine whenRunning_agrees h ?_
      unfold boardRemoved
      split
      · exact h
      · exact removeBoard_agrees h
    case identityAnswer k a d => exact running (identityAnswer_agrees h)
    case identityTimeout k => exact running (by unfold identityTimeout; dsimp only; split <;> exact h)
    case settleLimitExpiry k r => exact running (settleExpired_agrees h)
    case inrushDwellExpiry k => exact running (dwellExpired_agrees h)
    case drainLimitExpiry k => exact running (drainExpired_agrees h)
    case switchFault k n a =>
      split
      · exact whenRunning_agrees h (tripSocket_agrees h)
      · exact h
    case retryExpiry k n => exact running (retryExpired_agrees h)
    case conversionEnd k v => exact running (conversionEnd_agrees h)
    case riseHoldExpiry k => exact running ((riseHoldExpired_reporting k s).agrees h)
    case throttleFallExpiry k => exact running ((fallExpired_reporting k s).agrees h)
    case vectorBoundary k => exact running ((vectorBoundary_reporting k s).agrees h)
    case burstEnd k => exact running (burstEnd_agrees h)
    case gapExpiry k => exact running ((gapExpired_reporting k s).agrees h)
    case sampleInstant k g b => exact running ((sampleInstant_reporting k g b s).agrees h)
    case controlInterval p q => exact running (controlInterval_agrees h)
    case accountIntervalExpiry => exact running (accountInterval_agrees h)
    case reference1ms => exact running h
    case reference1s => exact running (by unfold tickSec; split <;> exact h)
    case holdoverDetection => exact holdoverDetected_agrees h
    case qualificationStart | qualificationFail => exact whileHoldover_agrees h h
    case qualificationSuccess => exact whileHoldover_agrees h (qualified_agrees h)
    case powerFailAssert level =>
      dsimp only
      split
      · exact powerFail_agrees h
      · exact h
    case resetAssert => exact resetAsserted_agrees h
    case commitComplete => exact commitComplete_agrees h
    case resetRelease =>
      split
      · exact resetReleased_agrees h
      · exact h
    case powerOnReset | powerLoss => exact blank_agrees h
    case backupSupplyLoss => exact h
    case retentionCheckEnd => exact retentionCheckEnd_agrees h
    case byteArrival b stop => exact running (byteArrived_agrees h)

end

/-- Settles O58: a step is the front command on the state with the queue's rest. A verdict turns FAILED by a failure report,
which writes the first-failure record with it, and GOOD by REINSTATE and by the zeroing of a set, which remove it; commits
and the check move whole sets to retention memory and back. -/
theorem everyStepKeepsVerdictsAgree : Obligations.EveryStepKeepsVerdictsAgree := by
  intro s t hs h
  rw [verdictsAgree_iff] at hs ⊢
  unfold step at h
  split at h
  · injection h with h
    exact h ▸ hs
  · refine exec_agrees ?_ h
    exact hs

end Sys2Proof.Machine
end


section
/-!
PROOFS. The three requests of the failure log (R156 to R158, R160).
-/

namespace Sys2Proof.Machine

open Safety

/-! ## LOG-READ -/

/-- R157: a position and a count in range are answered from the log. -/
theorem serveLogRead_of_range {p n : Nat} {s : State} (hp : p ≤ 255) (h1 : 1 ≤ n) (h8 : n ≤ 8) :
    serveLogRead p n s = reply s .ok (logReadReply s.log p n) := if_neg (by omega)

theorem serveLogRead_refused {p n : Nat} {s : State} (h : 255 < p ∨ n = 0 ∨ 8 < n) :
    serveLogRead p n s = answer s .refusedRange := if_pos (by omega)

/-! ## LOG-RETIRE -/

/-- R158, R156: the oldest entries go, and the arm is read from the number that stays. -/
theorem FailLog.retire_eq (l : FailLog) (n : Nat) :
    l.retire n = { l with entries := l.entries.drop n, armed := l.armed || decide (l.entries.length - n < 128) } := by
  rw [retire, List.length_drop]
  rfl

/-- R158: up to 256 entries are removed, and the reply tells what went, what stays and what was discarded. -/
theorem serveLogRetire_of_range {n : Nat} {s : State} (h : n ≤ 256) :
    serveLogRetire n s = reply { s with log := s.log.retire n } (if s.log.entries.length < n then .clamped else .ok)
      (u16 (min n s.log.entries.length) ++ u16 (s.log.entries.length - n) ++ u16 s.log.discarded) := by
  rw [serveLogRetire, if_neg (by omega)]
  simp only [FailLog.retire_eq, List.length_drop]

/-- R187, R158: the status byte of LOG-RETIRE, CLAMPED (2) where the log holds fewer entries than it names. -/
theorem u8_retireStatus (held n : Nat) :
    u8 (if held < n then Status.clamped else .ok).code = [if held < n then 2 else 0] := by
  split <;> rfl

theorem serveLogRetire_refused {n : Nat} {s : State} (h : 256 < n) : serveLogRetire n s = answer s .refusedRange :=
  if_pos h

/-! ## The settled statements -/

/-- Settles O9: each request by whether its position and count are in range. -/
theorem logRequestsReadAndRetireTheOldest : Obligations.LogRequestsReadAndRetireTheOldest := by
  intro s hr
  refine ⟨fun p n hp h1 h8 => ?_, fun p n h => ?_, fun n h => ?_, fun n h => ?_⟩
  · exact exec_replied hr rfl (serveLogRead_of_range hp h1 h8)
  · exact exec_replied hr rfl (serveLogRead_refused h)
  · rw [← FailLog.retire_eq, ← u8_retireStatus]
    exact exec_replied hr rfl (serveLogRetire_of_range (s := received s) h)
  · exact exec_replied hr rfl (serveLogRetire_refused h)

/-- Settles O8: LOG-STATUS has no check of its own, so its reply is the readout of the log in every zone state. -/
theorem logStatusCarriesOccupancyAndArm : Obligations.LogStatusCarriesOccupancyAndArm :=
  fun _ hr => exec_replied hr rfl rfl

end Sys2Proof.Machine
end


section
/-!
PROOFS. The alert unit (R165 to R172, R180, R182) and the transmitter that carries its frames (R186, R188).
-/

namespace Sys2Proof.Machine

open Safety

/-! ## Ranks -/

theorem AlertUnit.baseInForce_eq (a : AlertUnit) :
    a.baseInForce = if a.priority = .fixed then 0 else a.base := by
  unfold baseInForce
  cases a.priority <;> rfl

theorem AlertUnit.baseInForce_lt {a : AlertUnit} (h : a.base < 8) : a.baseInForce < 8 := by
  rw [baseInForce_eq]
  split
  · decide
  · exact h

/-- R165: the model's rank, in natural numbers, is the manual's residue of a difference. -/
theorem sourceRank_cast {b : Nat} (hb : b < 8) (n : Nat) : (sourceRank b n : Int) = ((n : Int) - b) % 8 := by
  unfold sourceRank
  omega

theorem sourceRank_lt (b n : Nat) : sourceRank b n < 8 := Nat.mod_lt _ (by decide)

theorem sourceRank_base (b : Nat) : sourceRank b b = 0 := by
  unfold sourceRank
  omega

/-- R166: under the base that its ALERT-DONE leaves, a source comes last. -/
theorem sourceRank_next {n : Nat} (h : n ≤ 7) : sourceRank ((n + 1) % 8) n = 7 := by
  unfold sourceRank
  omega

/-- The source that has a rank, the inverse of `sourceRank`. -/
def sourceAt (b r : Nat) : Nat := (b + r) % 8

theorem sourceAt_lt (b r : Nat) : sourceAt b r < 8 := Nat.mod_lt _ (by decide)

theorem sourceAt_sourceRank {b n : Nat} (hb : b < 8) (hn : n < 8) : sourceAt b (sourceRank b n) = n := by
  unfold sourceAt sourceRank
  omega

theorem sourceRank_sourceAt {b r : Nat} (hb : b < 8) (hr : r < 8) : sourceRank b (sourceAt b r) = r := by
  unfold sourceAt sourceRank
  omega

/-- Every source has a rank, whatever the base. -/
theorem exists_sourceAt (b : Nat) {n : Nat} (hn : n < 8) : ∃ r < 8, sourceAt b r = n := by
  refine ⟨(n + 7 * b) % 8, Nat.mod_lt _ (by decide), ?_⟩
  unfold sourceAt
  omega

/-! ## Eligibility and the choice -/

/-- R165: the four conditions, with ranks under the base in force. -/
theorem AlertUnit.eligible_iff (a : AlertUnit) (n : Nat) :
    a.eligible n = true ↔
      a.raised.getLsbD n = true ∧ a.mask.getLsbD n = false ∧ a.inService.getLsbD n = false
        ∧ ∀ m < 8, a.inService.getLsbD m = true → sourceRank a.baseInForce n < sourceRank a.baseInForce m := by
  simp only [eligible, Bool.and_eq_true, Bool.not_eq_true', List.all_eq_true, List.mem_range, Bool.and_eq_false_imp,
    decide_eq_false_iff_not, Nat.not_le, and_assoc]

/-- The choice is a search through the ranks in rising order. -/
theorem AlertUnit.choose_eq_find? (a : AlertUnit) :
    a.choose = ((List.range 8).find? fun r => a.eligible (sourceAt a.baseInForce r)).map (sourceAt a.baseInForce) := by
  have hsearch := List.find?_map (f := sourceAt a.baseInForce) (p := a.eligible) (l := List.range 8)
  rw [List.find?_eq_findSome?_guard, List.findSome?_map] at hsearch
  exact hsearch

/-- R167: the source chosen is eligible, and of the lowest rank. -/
theorem AlertUnit.choose_eq_some_iff {a : AlertUnit} {n : Nat} (hb : a.baseInForce < 8) (hn : n < 8) :
    a.choose = some n ↔ a.eligible n = true ∧ ∀ m < 8, a.eligible m = true →
      sourceRank a.baseInForce n ≤ sourceRank a.baseInForce m := by
  simp only [choose_eq_find?, Option.map_eq_some_iff, List.find?_range_eq_some, List.mem_range, Bool.not_eq_true']
  constructor
  · rintro ⟨r, ⟨hel, hr, hfirst⟩, rfl⟩
    refine ⟨hel, fun m hm hem => ?_⟩
    rw [sourceRank_sourceAt hb hr]
    by_contra hlt
    have hnot := hfirst _ (Nat.lt_of_not_le hlt)
    rw [sourceAt_sourceRank hb hm, hem] at hnot
    cases hnot
  · rintro ⟨hel, hmin⟩
    refine ⟨sourceRank a.baseInForce n, ⟨?_, sourceRank_lt _ _, fun q hq => ?_⟩, sourceAt_sourceRank hb hn⟩
    · rwa [sourceAt_sourceRank hb hn]
    · by_contra hne
      have hle := hmin _ (sourceAt_lt _ q) (Bool.eq_true_of_not_eq_false hne)
      rw [sourceRank_sourceAt hb (hq.trans (sourceRank_lt _ _))] at hle
      omega

/-- R172: a source is chosen exactly while one is eligible, whatever the base. -/
theorem AlertUnit.choose_isSome_iff (a : AlertUnit) : a.choose.isSome = true ↔ ∃ n < 8, a.eligible n = true := by
  simp only [choose_eq_find?, Option.isSome_map, List.find?_isSome, List.mem_range]
  constructor
  · rintro ⟨r, _, hel⟩
    exact ⟨_, sourceAt_lt _ r, hel⟩
  · rintro ⟨n, hn, hel⟩
    obtain ⟨r, hr, rfl⟩ := exists_sourceAt a.baseInForce hn
    exact ⟨r, hr, hel⟩

/-! ## ALERT# -/

theorem State.alertLow_of_live {s : State} (h : s.part.phase = .checking ∨ s.part.phase = .running) :
    s.alertLow = s.alert.choose.isSome := by
  unfold State.alertLow
  obtain e | e := h <;> rw [e]

/-- R180, R182: from a commit on, and without power, the line is released. -/
theorem State.alertLow_of_quiet {s : State} (hc : s.part.phase ≠ .checking) (hr : s.part.phase ≠ .running) :
    s.alertLow = false := by
  unfold State.alertLow
  cases e : s.part.phase with
  | checking => exact absurd e hc
  | running => exact absurd e hr
  | unpowered | resetHeld | commit | retained => rfl

/-! ## Requests of the alert unit -/

@[simp] theorem PriorityMode.ofCode_code (p : PriorityMode) : PriorityMode.ofCode p.code = some p := by
  cases p <;> rfl

@[simp] theorem DeliveryMode.ofCode_code (d : DeliveryMode) : DeliveryMode.ofCode d.code = some d := by
  cases d <;> rfl

theorem PriorityMode.ofCode_unknown : ∀ {n : Nat}, 1 < n → PriorityMode.ofCode n = none
  | _ + 2, _ => rfl

theorem DeliveryMode.ofCode_unknown : ∀ {n : Nat}, 1 < n → DeliveryMode.ofCode n = none
  | _ + 2, _ => rfl

/-- R170: two disjoint sets are masked and unmasked. -/
theorem serveAlertMask_of_disjoint {m u : Byte} {s : State} (h : m &&& u = 0) :
    serveAlertMask m u s =
      let a := { s.alert with mask := (s.alert.mask ||| m) &&& ~~~u }
      reply { s with alert := a } .ok (alertReply a) := if_neg (not_not_intro h)

theorem serveAlertMask_of_overlap {m u : Byte} {s : State} (h : m &&& u ≠ 0) :
    serveAlertMask m u s = answer s .refusedRange := if_pos h

/-- R171: two codes in range are the modes they name. -/
theorem serveAlertConfig_of_modes (p : PriorityMode) (d : DeliveryMode) (s : State) :
    serveAlertConfig p.code d.code s =
      reply { s with alert := s.alert.configure p d } .ok (alertReply (s.alert.configure p d)) := by
  simp [serveAlertConfig]

theorem serveAlertConfig_of_unknown {p d : Nat} {s : State} (h : 1 < p ∨ 1 < d) :
    serveAlertConfig p d s = answer s .refusedRange := by
  unfold serveAlertConfig
  obtain h | h := h
  · rw [PriorityMode.ofCode_unknown h]
  · rw [DeliveryMode.ofCode_unknown h]
    cases PriorityMode.ofCode p <;> rfl

/-- R168: in POLLED mode a poll delivers the source chosen, and in FRAME mode none. -/
theorem AlertUnit.pollSource_of_polled {a : AlertUnit} (h : a.delivery = .polled) : a.pollSource = a.choose := by
  rw [pollSource, h]

theorem AlertUnit.pollSource_eq_none {a : AlertUnit} (h : a.delivery = .frame ∨ a.choose = none) :
    a.pollSource = none := by
  unfold pollSource
  cases e : a.delivery with
  | frame => rfl
  | polled => simpa [e] using h

theorem serveAlertPoll_of_source {n : Nat} {s : State} (h : s.alert.pollSource = some n) :
    serveAlertPoll s = reply { s with alert := s.alert.deliver n } .ok (pollReply s (some n) (s.alert.deliver n)) := by
  rw [serveAlertPoll, h]

theorem serveAlertPoll_of_none {s : State} (h : s.alert.pollSource = none) :
    serveAlertPoll s = reply s .ok (pollReply s none s.alert) := by
  rw [serveAlertPoll, h]

/-- R169, R166: the service ended, with the new base written as a choice of the mode. -/
theorem AlertUnit.done_eq (a : AlertUnit) (n : Nat) :
    a.done n = { a with inService := a.inService &&& ~~~(1#8 <<< n)
                        base := if a.priority = .rotating then (n + 1) % 8 else a.base } := by
  unfold done
  cases a.priority <;> rfl

theorem serveAlertDone_of_inService {n : Nat} {s : State} (hn : n ≤ 7) (h : s.alert.inService.getLsbD n = true) :
    serveAlertDone n s = answer { s with alert := s.alert.done n } .ok := by
  rw [serveAlertDone, if_neg (by omega), if_pos h]

theorem serveAlertDone_of_not_inService {n : Nat} {s : State} (hn : n ≤ 7) (h : s.alert.inService.getLsbD n = false) :
    serveAlertDone n s = answer s .refusedState := by
  rw [serveAlertDone, if_neg (by omega), if_neg (by rw [h]; decide)]

theorem serveAlertDone_of_range {n : Nat} {s : State} (h : 7 < n) : serveAlertDone n s = answer s .refusedRange :=
  if_pos h

/-! ## The transmitter -/

/-- R186: the transmitter when the last byte of `f` has gone out; the last byte of a reply ends the reply owed. -/
def freed (f : TxFrame) (s : State) : State :=
  { s with link.sending := none, link.owed := s.link.owed && !f.isReply }

theorem frameSent_of_running {s : State} {f : TxFrame} (hr : s.part.phase = .running) (h : s.link.sending = some f) :
    frameSent s = sendNext (freed f s) := by
  rw [frameSent, h]
  exact whenRunning_of_running sendNext (freed f s) hr

/-- R188: a reply that waits goes before an alert frame. -/
theorem sendNext_of_composed {s : State} {g : Frame} (hs : s.link.sending = none) (hg : s.link.composed = some g) :
    sendNext s = { s with link.sending := some ⟨true, g⟩, link.composed := none } := by
  rw [sendNext, hs, hg]

theorem sendNext_of_no_reply {s : State} (h : s.link.composed = none) : sendNext s = beginAlert s := by
  unfold sendNext
  rw [h]
  cases s.link.sending <;> rfl

/-- R167, R188: with the transmitter free and FRAME delivery, the frame of the source chosen is begun. -/
theorem beginAlert_of_choice {s : State} {n : Nat} (hs : s.link.sending = none) (hc : s.link.composed = none)
    (hd : s.alert.delivery = .frame) (hn : s.alert.choose = some n) :
    beginAlert s = { s with
      alert := s.alert.deliver n
      link.sending := some ⟨false, ⟨alertKind, u8 n ++ u16 s.log.entries.length ++ u8 s.zone.state.code⟩⟩ } := by
  rw [beginAlert, hs, hc, hd, hn]

theorem beginAlert_of_no_choice {s : State} (h : s.alert.delivery = .polled ∨ s.alert.choose = none) :
    beginAlert s = s := by
  unfold beginAlert
  split
  · next hd hn => simp [hd, hn] at h
  · rfl

/-! ## The settled statements -/

/-- Settles O11: the ranks are the manual's residues, under which the four conditions and the search are read. -/
theorem eligibilityFollowsRank : Obligations.EligibilityFollowsRank := by
  intro a n hbase hn b rank
  have hb : a.baseInForce < 8 := AlertUnit.baseInForce_lt hbase
  have hrank (x : Nat) : rank x = sourceRank a.baseInForce x := by
    rw [sourceRank_cast hb, AlertUnit.baseInForce_eq]
  simp only [hrank, Nat.cast_lt, Nat.cast_le]
  exact ⟨a.eligible_iff n, AlertUnit.choose_eq_some_iff hb hn⟩

/-- Settles O6: the end of a frame frees the transmitter, which begins what is next: the reply composed, the frame of the
source chosen, or nothing. -/
theorem transmitterSendsRepliesThenAlerts : Obligations.TransmitterSendsRepliesThenAlerts := by
  refine ⟨fun s f hr hs => ⟨fun g hg => ?_, fun hc => ⟨fun h => ?_, fun n hd hn => ?_⟩⟩, fun s n hr hs hc hd hn => ?_⟩
    <;> refine congrArg Host.Outcome.next ?_
  · exact (frameSent_of_running hr hs).trans (sendNext_of_composed rfl hg)
  · rw [frameSent_of_running hr hs, sendNext_of_no_reply (s := freed f s) hc]
    exact beginAlert_of_no_choice h
  · rw [frameSent_of_running hr hs, sendNext_of_no_reply (s := freed f s) hc]
    exact beginAlert_of_choice rfl hc hd hn
  · exact (whenRunning_of_running beginAlert s hr).trans (beginAlert_of_choice hs hc hd hn)

/-- Settles O12: the line by the phase, and each request by its check; the link, which the answer is written to, is read
by none of them. -/
theorem alertRequestsChangeOnlyTheAlertUnit : Obligations.AlertRequestsChangeOnlyTheAlertUnit := by
  refine ⟨fun s => ⟨fun h => ?_, State.alertLow_of_quiet⟩, fun s hr => ⟨fun m u h => ?_, fun m u h => ?_, fun p d => ?_,
    fun p d h => ?_, fun n hd hn => ?_, fun h => ?_⟩⟩
  · rw [State.alertLow_of_live h, AlertUnit.choose_isSome_iff]
  · exact exec_replied hr rfl (serveAlertMask_of_disjoint h)
  · exact exec_replied hr rfl (serveAlertMask_of_overlap h)
  · exact exec_replied hr rfl (serveAlertConfig_of_modes p d (received s))
  · exact exec_replied hr rfl (serveAlertConfig_of_unknown h)
  · exact exec_replied hr rfl (serveAlertPoll_of_source (s := received s) ((AlertUnit.pollSource_of_polled hd).trans hn))
  · exact exec_replied hr rfl (serveAlertPoll_of_none (s := received s) (AlertUnit.pollSource_eq_none h))

/-- Settles O13: the request by its checks, and the two ranks under the base it leaves. -/
theorem alertDoneEndsServiceAndRotates : Obligations.AlertDoneEndsServiceAndRotates := by
  refine ⟨fun s n hr => ⟨fun hn h => ?_, fun hn h => ?_, fun h => ?_⟩,
    fun n hn => ⟨sourceRank_next hn, sourceRank_base _⟩⟩
  · rw [← AlertUnit.done_eq]
    exact exec_replied hr rfl (serveAlertDone_of_inService (s := received s) hn h)
  · exact exec_replied hr rfl (serveAlertDone_of_not_inService (s := received s) hn h)
  · exact exec_replied hr rfl (serveAlertDone_of_range h)

end Sys2Proof.Machine
end


section
/-!
PROOFS. The receiver (R185, R186): the fields of a payload, the kinds outside the catalogue, and the bytes of a frame.
-/

namespace Sys2Proof.Machine

open Safety

/-! ## Fields of a payload -/

theorem wordAt_zero (a b : Byte) (p : List Byte) : wordAt (a :: b :: p) 0 = a.toNat + 256 * b.toNat := rfl

/-- R185: a field of two bytes is read back as written. -/
theorem wordAt_u16 {n : Nat} (h : n < 65536) (p : List Byte) :
    wordAt (BitVec.ofNat 8 n :: BitVec.ofNat 8 (n / 256) :: p) 0 = n := by
  rw [wordAt_zero, BitVec.toNat_ofNat, BitVec.toNat_ofNat]
  omega

theorem byteAt_append_left {p : List Byte} {i : Nat} (h : i < p.length) (q : List Byte) :
    byteAt (p ++ q) i = byteAt p i := by
  rw [byteAt, List.getD_append _ _ _ _ h, byteAt]

theorem byteAt_append_length (p q : List Byte) (i : Nat) : byteAt (p ++ q) (p.length + i) = byteAt q i := by
  rw [byteAt, List.getD_append_right _ _ _ _ (Nat.le_add_right _ i), Nat.add_sub_cancel_left, byteAt]

theorem wordAt_append_length (p q : List Byte) : wordAt (p ++ q) p.length = wordAt q 0 :=
  congrArg₂ (fun low high => low + 256 * high) (byteAt_append_length p q 0) (byteAt_append_length p q 1)

/-! ## The receiver's state -/

/-- R186: what the receiver holds is given up when a request is taken. -/
theorem takeFrame_receiver (kind : Byte) (p : List Byte) (rx : RxState) (b : List Byte) {s : State}
    (h : s.part.phase = .running) :
    takeFrame kind p { s with link := { s.link with rx := rx, buffer := b } } = takeFrame kind p s := by
  cases ho : s.link.owed with
  | true =>
    unfold takeFrame
    rw [takeRequest_owed kind _ s h ho]
    exact takeRequest_owed kind _ _ h ho
  | false =>
    unfold takeFrame
    rw [takeRequest_ready kind _ s ⟨h, ho⟩]
    exact takeRequest_ready kind _ _ ⟨h, ho⟩

theorem discardFrame_eq_received (s : State) : discardFrame s = received s := rfl

theorem exec_byteArrival {s : State} (h : s.part.phase = .running) (b : Byte) (stop : Bool) :
    exec (.byteArrival b stop) s = .next (byteArrived b stop s) :=
  congrArg Host.Outcome.next (whenRunning_of_running (byteArrived b stop) s h)

theorem exec_receiveTimeout {s : State} (h : s.part.phase = .running) :
    exec .receiveTimeout s = .next (if s.link.rx = .receiving then received s else s) :=
  congrArg Host.Outcome.next
    (whenRunning_of_running (fun s => if s.link.rx = .receiving then discardFrame s else s) s h)

/-- R186: in HUNT only a start byte is taken. -/
theorem byteArrived_hunt {s : State} (h : s.link.rx = .hunt) (b : Byte) :
    byteArrived b true s
      = if b = 0xA5#8 then { s with link := { s.link with rx := .receiving, buffer := [b] } } else s := by
  simp [byteArrived, h]

theorem exec_startByte {s : State} (hr : s.part.phase = .running) (h : s.link.rx = .hunt) :
    exec (.byteArrival 0xA5#8 true) s
      = .next { s with link := { s.link with rx := .receiving, buffer := [0xA5#8] } } := by
  rw [exec_byteArrival hr, byteArrived_hunt h, if_pos rfl]

theorem byteArrived_receiving {s : State} (h : s.link.rx = .receiving) (b : Byte) :
    byteArrived b true s = receiveByte (s.link.buffer ++ [b]) s := by
  simp [byteArrived, h]

theorem exec_byteArrival_receiving {s : State} (hr : s.part.phase = .running) (h : s.link.rx = .receiving) (b : Byte) :
    exec (.byteArrival b true) s = .next (receiveByte (s.link.buffer ++ [b]) s) := by
  rw [exec_byteArrival hr, byteArrived_receiving h]

theorem byteArrived_noStop {s : State} (h : s.link.rx = .receiving) (b : Byte) :
    byteArrived b false s = received s := by
  simp [byteArrived, h, discardFrame_eq_received]

/-- R186: the length byte is the second of a frame. -/
theorem receiveByte_length (b : Byte) (s : State) :
    receiveByte [0xA5#8, b] s
      = if 240 < b.toNat then received s else { s with link := { s.link with buffer := [0xA5#8, b] } } := by
  have hb : byteAt [0xA5#8, b] 1 = b.toNat := rfl
  simp [receiveByte, hb, Config.maxPayload, discardFrame_eq_received, received]

/-! ## The bytes of a frame -/

/-- R185: what the CRC of a frame is taken over: its length, kind and payload. -/
def Frame.body (f : Frame) : List Byte := BitVec.ofNat 8 f.payload.length :: f.kind :: f.payload

theorem Frame.bytes_eq (f : Frame) :
    f.bytes = 0xA5#8 :: f.body
      ++ [BitVec.ofNat 8 (crc16 f.body).toNat, BitVec.ofNat 8 ((crc16 f.body).toNat / 256)] := rfl

theorem Frame.length_body (f : Frame) : f.body.length = 2 + f.payload.length := by
  rw [body, List.length_cons, List.length_cons]
  omega

theorem Frame.length_bytes (f : Frame) : f.bytes.length = 5 + f.payload.length := by
  rw [bytes_eq, List.length_append, List.length_cons, length_body, List.length_cons, List.length_cons, List.length_nil]
  omega

/-- The length byte of a frame holds its payload's length. -/
theorem toNat_lengthByte {f : Frame} (h : f.payload.length ≤ 240) :
    (BitVec.ofNat 8 f.payload.length).toNat = f.payload.length := by
  rw [BitVec.toNat_ofNat]
  omega

/-- R186: a receiver with all the bytes of a frame takes it where its CRC is good, and discards it where it differs. -/
theorem frameArrived_body {f : Frame} (hlen : f.payload.length ≤ 240) (htop : topBit f.kind = false) (low high : Byte)
    (s : State) :
    frameArrived (0xA5#8 :: f.body ++ [low, high]) s
      = if (crc16 f.body).toNat = low.toNat + 256 * high.toNat then takeFrame f.kind f.payload s else received s := by
  have hn : byteAt (0xA5#8 :: f.body ++ [low, high]) 1 = f.payload.length := toNat_lengthByte hlen
  have hbody : ((0xA5#8 :: f.body ++ [low, high]).drop 1).take (2 + f.payload.length) = f.body := by
    rw [← f.length_body]
    exact List.take_left
  have hkind : (0xA5#8 :: f.body ++ [low, high]).getD 2 0 = f.kind := rfl
  have hpayload : ((0xA5#8 :: f.body ++ [low, high]).drop 3).take f.payload.length = f.payload := List.take_left
  have hcrc : wordAt (0xA5#8 :: f.body ++ [low, high]) (3 + f.payload.length) = low.toNat + 256 * high.toNat := by
    have hl : 3 + f.payload.length = (0xA5#8 :: f.body).length := by
      rw [List.length_cons, f.length_body]
      omega
    rw [hl, wordAt_append_length, wordAt_zero]
  simp only [frameArrived, hn, hbody, hkind, hpayload, hcrc, htop, and_true, discardFrame_eq_received]

/-- R186: the last byte of a frame. -/
theorem receiveByte_last {f : Frame} (hlen : f.payload.length ≤ 240) (htop : topBit f.kind = false) (low high : Byte)
    {s : State} (hr : s.part.phase = .running) :
    receiveByte (0xA5#8 :: f.body ++ [low, high]) s
      = if (crc16 f.body).toNat = low.toNat + 256 * high.toNat then takeFrame f.kind f.payload s else received s := by
  have hsize : (0xA5#8 :: f.body ++ [low, high]).length = 5 + f.payload.length := by
    rw [← f.length_bytes, f.bytes_eq, List.length_append, List.length_append]
    rfl
  have hn : byteAt (0xA5#8 :: f.body ++ [low, high]) 1 = f.payload.length := toNat_lengthByte hlen
  unfold receiveByte
  dsimp only
  rw [if_neg (by omega), if_neg (by omega), if_pos (by omega), frameArrived_body hlen htop]
  split
  · exact takeFrame_receiver _ _ _ _ hr
  · rfl

/-- R185, R186: the CRC that a frame carries is good. -/
theorem receiveByte_bytes {f : Frame} (hlen : f.payload.length ≤ 240) (htop : topBit f.kind = false) {s : State}
    (hr : s.part.phase = .running) : receiveByte f.bytes s = takeFrame f.kind f.payload s := by
  rw [f.bytes_eq, receiveByte_last hlen htop _ _ hr, if_pos]
  rw [← wordAt_zero _ _ [], wordAt_u16 (crc16 f.body).isLt]

/-- R186: a byte before the last of a frame of at most 240 payload bytes is only buffered. -/
theorem receiveByte_partial {f : Frame} (hlen : f.payload.length ≤ 240) (htop : topBit f.kind = false)
    {heard rest : List Byte} (h : heard ++ rest = f.bytes) (hrest : rest ≠ []) (s : State) :
    receiveByte heard s = { s with link := { s.link with buffer := heard } } := by
  have hsize : heard.length < 5 + f.payload.length := by
    have hpos := List.length_pos_iff.mpr hrest
    rw [← f.length_bytes, ← h, List.length_append]
    omega
  have hn (h2 : 2 ≤ heard.length) : byteAt heard 1 = f.payload.length := by
    rw [← byteAt_append_left h2 rest, h]
    exact toNat_lengthByte hlen
  have hkind (h3 : 3 ≤ heard.length) : topBit (heard.getD 2 0) = false := by
    rw [← List.getD_append heard rest 0 2 h3, h]
    exact htop
  unfold receiveByte
  dsimp only
  rw [if_neg, if_neg, if_neg]
  · rintro ⟨h3, hend⟩
    rw [hn (by omega)] at hend
    omega
  · rintro ⟨h3, hbit, -⟩
    rw [hkind h3.ge] at hbit
    cases hbit
  · rintro ⟨h2, hmax⟩
    rw [hn h2.ge, Config.maxPayload] at hmax
    omega

/-! ## Runs of the receiver -/

/-- The state with commands put before those of its queue. -/
def queued (l : List Instr) (s : State) : State := { s with pending := l ++ s.pending }

/-- A run takes the command at the front of the queue first. -/
theorem run_queued_cons {i : Instr} {l : List Instr} {s t : State} (n : Nat) (h : exec i (queued l s) = .next t) :
    Host.Core.run core (n + 1) (queued (i :: l) s) = Host.Core.run core n t := by
  have hstep : core.step (queued (i :: l) s) = .next t := h
  simp only [Host.Core.run, hstep]

/-- The arrivals of bytes, each with its stop bit. -/
def arrivalsOf (bs : List Byte) : List Instr := bs.map fun b => .byteArrival b true

theorem queued_arrivalsOf_nil (s : State) : queued (arrivalsOf []) s = s := rfl

theorem arrivals_eq (f : Frame) : arrivals f = arrivalsOf f.bytes := rfl

/-- R185, R186: a receiver that has heard the first bytes of a frame takes its request with the last of the others. -/
theorem run_rest_of_frame {f : Frame} (hlen : f.payload.length ≤ 240) (htop : topBit f.kind = false)
    (rest : List Byte) {s : State} (h : s.link.buffer ++ rest = f.bytes) (hrest : rest ≠ [])
    (hr : s.part.phase = .running) (hrx : s.link.rx = .receiving) :
    Host.Core.run core rest.length (queued (arrivalsOf rest) s) = .next (takeFrame f.kind f.payload s) := by
  induction rest generalizing s with
  | nil => exact absurd rfl hrest
  | cons b rest ih =>
    have hnext : (s.link.buffer ++ [b]) ++ rest = f.bytes := by
      rw [← h, List.append_assoc]
      rfl
    have hbyte : exec (.byteArrival b true) (queued (arrivalsOf rest) s)
        = .next (receiveByte (s.link.buffer ++ [b]) (queued (arrivalsOf rest) s)) :=
      exec_byteArrival_receiving (s := queued (arrivalsOf rest) s) hr hrx b
    by_cases hlast : rest = []
    · subst hlast
      rw [List.append_nil] at hnext
      rw [hnext, queued_arrivalsOf_nil, receiveByte_bytes hlen htop hr] at hbyte
      exact run_queued_cons 0 hbyte
    · rw [receiveByte_partial hlen htop hnext hlast] at hbyte
      refine (run_queued_cons rest.length hbyte).trans ?_
      refine (ih (s := { s with link.buffer := s.link.buffer ++ [b] }) hnext hlast hr hrx).trans ?_
      exact congrArg Host.Outcome.next (takeFrame_receiver _ _ _ _ hr)

/-! ## Kinds outside the catalogue -/

theorem mem_catalogue_of_toNat {kind : Byte} {n : Nat} (h : kind.toNat = n) (hn : BitVec.ofNat 8 n ∈ catalogue) :
    kind ∈ catalogue := by
  rwa [← h, BitVec.ofNat_toNat, BitVec.setWidth_eq] at hn

/-- R187, check 1: a kind that the catalogue does not list is refused, whatever the payload. -/
theorem serveFrame_of_not_mem {kind : Byte} (h : kind ∉ catalogue) (p : List Byte) :
    serveFrame kind p = fun s => answer s .refusedKind := by
  unfold serveFrame
  split
  any_goals exact absurd (mem_catalogue_of_toNat ‹_› (by decide)) h
  rfl

/-! ## The settled statements -/

/-- Settles O5: the refusal is the reply of `serveFrame` to such a kind, and a kind with its top bit set never reaches
it. -/
theorem unknownKindIsRefused : Obligations.UnknownKindIsRefused := by
  refine fun kind payload s => ⟨fun h hk ht => ?_, fun hr ht => ?_⟩
  · have hserve : serveFrame kind payload (received s) = ⟨received s, [6]⟩ :=
      congrFun (serveFrame_of_not_mem hk payload) (received s)
    simp only [exec, execUnknownKindRequest, ht, Bool.false_eq_true, if_false, takeFrame]
    exact congrArg Host.Outcome.next (takeRequest_replied kind _ s s [6] h hserve)
  · simp only [exec, execUnknownKindRequest, ht, if_true]
    exact congrArg Host.Outcome.next (whenRunning_of_running discardFrame s hr)

/-- Settles O3: the start byte enters RECEIVING, from where `run_rest_of_frame` hears the rest. -/
theorem bytesOfAFrameTakeItsRequest : Obligations.BytesOfAFrameTakeItsRequest := by
  intro f s hlen htop hr hrx
  obtain ⟨rest, hbytes, hne⟩ : ∃ rest, f.bytes = 0xA5#8 :: rest ∧ rest ≠ [] := ⟨_, rfl, List.cons_ne_nil _ _⟩
  have hstart : exec (.byteArrival 0xA5#8 true) (queued (arrivalsOf rest) s)
      = .next (queued (arrivalsOf rest) { s with link := { s.link with rx := .receiving, buffer := [0xA5#8] } }) :=
    exec_startByte (s := queued (arrivalsOf rest) s) hr hrx
  have hrun := (run_queued_cons rest.length hstart).trans (run_rest_of_frame hlen htop rest hbytes.symm hne hr rfl)
  rw [takeFrame_receiver _ _ _ _ hr] at hrun
  rw [arrivals_eq, hbytes]
  exact hrun

/-- R186: a request that has a frame is discarded while a reply is owed. -/
theorem exec_request_of_owed {i : Instr} {f : Frame} (h : requestFrame i = some f) {s : State}
    (hr : s.part.phase = .running) (ho : s.link.owed = true) : exec i s = .next (received s) := by
  obtain e | ⟨kind, serve, _, e⟩ := exec_request i f h s
  · rw [e, whenRunning_of_running _ _ hr, discardFrame_eq_received]
  · rw [e, takeRequest_owed _ _ _ hr ho]

/-- Settles O4: each event by the rule of the receiver's state. -/
theorem receiverFollowsHuntAndReceiving : Obligations.ReceiverFollowsHuntAndReceiving := by
  intro s hr
  refine ⟨?_, fun hrx => ?_, fun hrx => ?_, fun hrx b hb => ?_, fun hrx => ?_, fun hrx b => ?_, fun hrx hbuf b hb => ?_,
    fun hrx hbuf b hb => ?_, fun f low high hrx hlen htop hbuf => ?_, fun ho i f hf => exec_request_of_owed hf hr ho⟩
  · exact congrArg Host.Outcome.next (whenRunning_of_running discardFrame s hr)
  · rw [exec_receiveTimeout hr, if_pos hrx]
  · rw [exec_receiveTimeout hr, if_neg (by simp [hrx])]
  · rw [exec_byteArrival hr, byteArrived_hunt hrx, if_neg hb]
  · exact exec_startByte hr hrx
  · rw [exec_byteArrival hr, byteArrived_noStop hrx]
  · rw [exec_byteArrival_receiving hr hrx, hbuf]
    exact congrArg Host.Outcome.next ((receiveByte_length b s).trans (if_neg hb.not_gt))
  · rw [exec_byteArrival_receiving hr hrx, hbuf]
    exact congrArg Host.Outcome.next ((receiveByte_length b s).trans (if_pos hb))
  · have hheard : s.link.buffer ++ [high] = 0xA5#8 :: f.body ++ [low, high] := by
      rw [hbuf, List.append_assoc]
      rfl
    have hlast := exec_byteArrival_receiving hr hrx high
    rw [hheard, receiveByte_last hlen htop low high hr] at hlast
    exact ⟨fun hgood => hlast.trans (congrArg Host.Outcome.next (if_pos hgood)),
      fun hbad => hlast.trans (congrArg Host.Outcome.next (if_neg hbad))⟩

end Sys2Proof.Machine
end


section
/-!
PROOFS. Every request written as a frame of the catalogue and read back (R185, R187, R190, section 12.3).
-/

namespace Sys2Proof.Machine

/-! ## Fields -/

theorem fits8_iff (n : Nat) : fits8 n = true ↔ n < 256 := decide_eq_true_iff

theorem fits16_iff (n : Nat) : fits16 n = true ↔ n < 65536 := decide_eq_true_iff

theorem fitsSigned_iff (t : Int) : fitsSigned t = true ↔ -32768 ≤ t ∧ t < 32768 := decide_eq_true_iff

theorem fitsPayload_iff (n : Nat) : fitsPayload n = true ↔ n ≤ 240 := decide_eq_true_iff

/-- A field of one byte is read back as written. -/
theorem byteAt_u8 {n : Nat} (h : fits8 n = true) (p : List Byte) : byteAt (BitVec.ofNat 8 n :: p) 0 = n :=
  (BitVec.toNat_ofNat n 8).trans (Nat.mod_eq_of_lt ((fits8_iff n).mp h))

/-- R185: a signed field of two bytes is read back as written. -/
theorem signedAt_s16 {t : Int} (h : fitsSigned t = true) (p : List Byte) : signedAt (s16 t ++ p) 0 = t := by
  rw [fitsSigned_iff] at h
  have hlt : (t % 65536).toNat < 65536 := by omega
  have hword : wordAt (s16 t ++ p) 0 = (t % 65536).toNat := wordAt_u16 hlt p
  rw [signedAt, hword]
  split <;> omega

/-! ## Lists of items of one size -/

section Items

variable {α : Type} {enc : α → List Byte} {n : Nat}

theorem length_items (hsize : ∀ x, (enc x).length = n) (l : List α) : (l.flatMap enc).length = n * l.length := by
  induction l with
  | nil => rfl
  | cons x l ih =>
    rw [List.flatMap_cons, List.length_append, hsize, ih, List.length_cons, Nat.mul_succ, Nat.add_comm]

/-- The bytes of an item stand at its place in the list. -/
theorem byteAt_items (hsize : ∀ x, (enc x).length = n) (l : List α) (q : List Byte) (i : Nat) (hi : i < l.length)
    {j : Nat} (hj : j < n) : byteAt (l.flatMap enc ++ q) (n * i + j) = byteAt (enc l[i]) j := by
  induction l generalizing i with
  | nil => cases hi
  | cons x l ih =>
    rw [List.flatMap_cons, List.append_assoc]
    cases i with
    | zero =>
      rw [Nat.mul_zero, Nat.zero_add]
      exact byteAt_append_left (hj.trans_eq (hsize x).symm) _
    | succ i =>
      have hplace : n * (i + 1) + j = (enc x).length + (n * i + j) := by
        rw [hsize, Nat.mul_succ]
        omega
      rw [hplace, byteAt_append_length]
      exact ih i (Nat.lt_of_succ_lt_succ hi)

/-- A list of items of `n` bytes is divided into the items. -/
theorem groups_items (hn : 0 < n) (hsize : ∀ x, (enc x).length = n) (l : List α) (fuel : Nat) (h : l.length ≤ fuel) :
    groups n fuel (l.flatMap enc) = l.map enc := by
  induction l generalizing fuel with
  | nil => cases fuel <;> rfl
  | cons x l ih =>
    cases fuel with
    | zero => cases h
    | succ fuel =>
      have hne : enc x ++ l.flatMap enc ≠ [] := fun e => by
        have hx := hsize x
        rw [(List.append_eq_nil_iff.mp e).1] at hx
        exact hn.ne hx
      rw [List.flatMap_cons, groups, if_neg hne, List.take_left' (hsize x), List.drop_left' (hsize x),
        ih fuel (Nat.le_of_succ_le_succ h), List.map_cons]

/-- A list of items of `n` bytes, divided and read, gives the items back. -/
theorem map_groups_items {dec : List Byte → α} (hn : 0 < n) (hsize : ∀ x, (enc x).length = n) {l : List α}
    (hread : ∀ x ∈ l, dec (enc x) = x) {fuel : Nat} (hfuel : (l.flatMap enc).length ≤ fuel) :
    (groups n fuel (l.flatMap enc)).map dec = l := by
  have hle : l.length ≤ fuel := by
    rw [length_items hsize] at hfuel
    exact (Nat.le_mul_of_pos_left _ hn).trans hfuel
  rw [groups_items hn hsize l fuel hle, List.map_map]
  exact (List.map_congr_left hread).trans (List.map_id' l)

end Items

theorem table_ofFn_get {n : Nat} {α : Type} (t : Table n α) : Table.ofFn t.get = t :=
  Table.ext_get (Table.get_ofFn t.get)

/-- A list of socket numbers is read back as written. -/
theorem socketNumbers_u8 {l : List Nat} (h : l.all fits8 = true) : socketNumbers (l.flatMap u8) = l := by
  induction l with
  | nil => rfl
  | cons n l ih =>
    rw [List.all_cons, Bool.and_eq_true] at h
    exact congrArg₂ List.cons (byteAt_u8 h.1 []) (ih h.2)

/-! ## Items of BOARD-STAGE -/

theorem length_laneMap (t : Table 16 (Nat × Nat)) : (t.toList.flatMap fun e => u8 e.1 ++ u8 e.2).length = 32 := by
  rw [length_items (n := 2) (fun _ => rfl), t.length_eq]

theorem length_stageItemBytes (i : StageItem) : (stageItemBytes i).length = i.size := by
  cases i
  case laneMap t => exact congrArg Nat.succ (length_laneMap t)
  all_goals rfl

theorem length_stageItems (l : List StageItem) : (l.flatMap stageItemBytes).length = (l.map StageItem.size).sum := by
  rw [List.length_flatMap, funext length_stageItemBytes]

theorem one_le_size (i : StageItem) : 1 ≤ i.size := by
  cases i <;> simp only [StageItem.size, Nat.one_le_ofNat, le_refl]

theorem laneMap_read {t : Table 16 (Nat × Nat)} (h : (t.toList.all fun e => fits8 e.1 && fits8 e.2) = true) :
    stageItemOf 11 (t.toList.flatMap fun e => u8 e.1 ++ u8 e.2) = .laneMap t := by
  refine congrArg StageItem.laneMap (Table.ext_get fun l => ?_)
  have hl : l.val < t.toList.length := t.length_eq.symm ▸ l.isLt
  have hfit := List.all_eq_true.mp h _ (List.getElem_mem hl)
  rw [Bool.and_eq_true] at hfit
  have hread (j : Nat) (hj : j < 2) :=
    byteAt_items (enc := fun e : Nat × Nat => u8 e.1 ++ u8 e.2) (fun _ => rfl) t.toList [] l.val hl hj
  simp only [List.append_nil] at hread
  rw [Table.get_ofFn]
  exact Prod.ext ((hread 0 (by decide)).trans (byteAt_u8 hfit.1 _)) ((hread 1 (by decide)).trans (byteAt_u8 hfit.2 []))

/-- Section 12.3: a known item is its code and a value of the code's width, from which it is read back. -/
theorem stageItemBytes_known {i : StageItem} (hk : stageUnknown i = false) (h : i.wellFormed = true) :
    ∃ code value, stageItemBytes i = BitVec.ofNat 8 code :: value ∧ code ≤ 14 ∧ value.length = stageWidth code
      ∧ stageItemOf code value = i := by
  have word {n : Nat} (h : fits16 n = true) : wordAt (u16 n) 0 = n := wordAt_u16 ((fits16_iff n).mp h) []
  have byte {n : Nat} (h : fits8 n = true) : byteAt (u8 n) 0 = n := byteAt_u8 h []
  cases i with
  | vcore n => exact ⟨0, u16 n, rfl, by decide, rfl, congrArg StageItem.vcore (word h)⟩
  | vio n => exact ⟨1, u16 n, rfl, by decide, rfl, congrArg StageItem.vio (word h)⟩
  | fullScale n => exact ⟨2, u16 n, rfl, by decide, rfl, congrArg StageItem.fullScale (word h)⟩
  | currentLimit n => exact ⟨3, u8 n, rfl, by decide, rfl, congrArg StageItem.currentLimit (byte h)⟩
  | strikeLimit n => exact ⟨4, u8 n, rfl, by decide, rfl, congrArg StageItem.strikeLimit (byte h)⟩
  | retryDelay n => exact ⟨5, u8 n, rfl, by decide, rfl, congrArg StageItem.retryDelay (byte h)⟩
  | policy n => exact ⟨6, u8 n, rfl, by decide, rfl, congrArg StageItem.policy (byte h)⟩
  | dwell n => exact ⟨7, u8 n, rfl, by decide, rfl, congrArg StageItem.dwell (byte h)⟩
  | window n => exact ⟨8, u8 n, rfl, by decide, rfl, congrArg StageItem.window (byte h)⟩
  | slew n => exact ⟨9, u8 n, rfl, by decide, rfl, congrArg StageItem.slew (byte h)⟩
  | order n => exact ⟨10, u8 n, rfl, by decide, rfl, congrArg StageItem.order (byte h)⟩
  | laneMap t => exact ⟨11, _, rfl, by decide, length_laneMap t, laneMap_read h⟩
  | phases n => exact ⟨12, u8 n, rfl, by decide, rfl, congrArg StageItem.phases (byte h)⟩
  | devLimit n => exact ⟨13, u8 n, rfl, by decide, rfl, congrArg StageItem.devLimit (byte h)⟩
  | readout => exact ⟨14, [], rfl, by decide, rfl, rfl⟩
  | unknown c => cases hk

theorem stageUnknown_iff (i : StageItem) : stageUnknown i = true ↔ ∃ c, i = .unknown c := by
  cases i <;> simp [stageUnknown]

/-- Section 12.3: the items of a list as its division finds them: an unknown item ends it. -/
def throughUnknown : List StageItem → List StageItem
  | [] => []
  | i :: rest => if stageUnknown i then [i] else i :: throughUnknown rest

theorem divideItems_unknown {c : Nat} (hc : 14 < c) (hf : fits8 c = true) (rest : List Byte) (fuel : Nat) :
    divideItems (fuel + 1) (BitVec.ofNat 8 c :: rest) = some [.unknown c] := by
  have hcode : (BitVec.ofNat 8 c : Byte).toNat = c := byteAt_u8 hf []
  rw [divideItems, hcode, if_pos hc]

theorem divideItems_known {i : StageItem} (hk : stageUnknown i = false) (h : i.wellFormed = true) (rest : List Byte)
    (fuel : Nat) :
    divideItems (fuel + 1) (stageItemBytes i ++ rest) = (divideItems fuel rest).map fun t => i :: t := by
  obtain ⟨code, value, hbytes, hcode, hwidth, hitem⟩ := stageItemBytes_known hk h
  have hread : (BitVec.ofNat 8 code : Byte).toNat = code := byteAt_u8 ((fits8_iff code).mpr (by omega)) []
  rw [hbytes, List.cons_append, divideItems, hread, ← hwidth, List.length_append, if_neg (by omega), if_neg (by omega),
    List.take_left, List.drop_left, hitem]

/-- Section 12.3: the division of a written list finds its items. -/
theorem divideItems_items {l : List StageItem} (h : l.all StageItem.wellFormed = true) (fuel : Nat)
    (hf : l.length ≤ fuel) : divideItems fuel (l.flatMap stageItemBytes) = some (throughUnknown l) := by
  induction l generalizing fuel with
  | nil => cases fuel <;> rfl
  | cons i l ih =>
    rw [List.all_cons, Bool.and_eq_true] at h
    cases fuel with
    | zero => cases hf
    | succ fuel =>
      rw [List.flatMap_cons, throughUnknown]
      cases hk : stageUnknown i with
      | false =>
        rw [divideItems_known hk h.1, ih h.2 fuel (Nat.le_of_succ_le_succ hf)]
        rfl
      | true =>
        obtain ⟨c, rfl⟩ := (stageUnknown_iff i).mp hk
        have hc : 14 < c ∧ fits8 c = true := by simpa [StageItem.wellFormed] using h.1
        exact divideItems_unknown hc.1 hc.2 _ fuel

theorem throughUnknown_of_known {l : List StageItem} (h : ∀ i ∈ l, stageUnknown i = false) : throughUnknown l = l := by
  induction l with
  | nil => rfl
  | cons i l ih =>
    rw [throughUnknown, h i (by simp), ih fun j hj => h j (by simp [hj])]
    rfl

theorem takeWhile_throughUnknown (l : List StageItem) :
    (throughUnknown l).takeWhile (fun i => !stageUnknown i) = l.takeWhile fun i => !stageUnknown i := by
  induction l with
  | nil => rfl
  | cons i l ih =>
    rw [throughUnknown]
    cases hk : stageUnknown i with
    | false => simp [hk, ih]
    | true => simp [hk]

theorem unknown_mem_throughUnknown {l : List StageItem} {c : Nat} (h : .unknown c ∈ l) :
    ∃ c, .unknown c ∈ throughUnknown l := by
  induction l with
  | nil => cases h
  | cons i l ih =>
    rw [throughUnknown]
    cases hk : stageUnknown i with
    | true =>
      obtain ⟨d, rfl⟩ := (stageUnknown_iff i).mp hk
      exact ⟨d, List.mem_cons_self⟩
    | false =>
      have hne : StageItem.unknown c ≠ i := fun e => by
        rw [(stageUnknown_iff i).mpr ⟨c, e.symm⟩] at hk
        cases hk
      obtain ⟨d, hd⟩ := ih ((List.mem_cons.mp h).resolve_left hne)
      exact ⟨d, List.mem_cons_of_mem i hd⟩

/-- A list with an unknown item is refused for the items before the first of those alone. -/
theorem serveBoardStage_unknown {l : List StageItem} {c : Nat} (h : .unknown c ∈ l) (k : Nat) (s : State) :
    serveBoardStage k l s = answer s (if 15 < (l.takeWhile fun i => !stageUnknown i).length then .refusedLength
      else .refusedRange) := by
  have hpos := List.length_pos_of_mem h
  have hlt := takeWhile_unknown h
  unfold serveBoardStage
  by_cases hlong : 15 < (l.takeWhile fun i => !stageUnknown i).length
  · rw [if_pos (.inr hlong), if_pos hlong]
  · rw [if_neg (by omega), if_pos hlt, if_neg hlong]

/-- Log entry 20: what stands after an unknown item changes no answer. -/
theorem serveBoardStage_throughUnknown (k : Nat) (l : List StageItem) :
    serveBoardStage k (throughUnknown l) = serveBoardStage k l := by
  by_cases hk : ∀ i ∈ l, stageUnknown i = false
  · rw [throughUnknown_of_known hk]
  · obtain ⟨c, hc⟩ : ∃ c, .unknown c ∈ l := by
      obtain ⟨i, hi, hu⟩ : ∃ i ∈ l, stageUnknown i = true := by simpa using hk
      obtain ⟨c, rfl⟩ := (stageUnknown_iff i).mp hu
      exact ⟨c, hi⟩
    obtain ⟨d, hd⟩ := unknown_mem_throughUnknown hc
    funext s
    rw [serveBoardStage_unknown hc, serveBoardStage_unknown hd, takeWhile_throughUnknown]

theorem stageFrame_items {k : Nat} {l : List StageItem} (hk : fits8 k = true) (h : l.all StageItem.wellFormed = true) :
    stageFrame (u8 k ++ l.flatMap stageItemBytes) = serveBoardStage k l := by
  have hfuel : l.length ≤ (l.flatMap stageItemBytes).length := by
    rw [length_stageItems]
    simpa using List.length_le_sum_of_one_le (l.map StageItem.size) (by simp [one_le_size])
  rw [← serveBoardStage_throughUnknown]
  funext s
  change stageFrame (BitVec.ofNat 8 k :: l.flatMap stageItemBytes) s = _
  have hslot : (BitVec.ofNat 8 k : Byte).toNat = k := byteAt_u8 hk []
  simp only [stageFrame, divideItems_items h _ hfuel, hslot]

/-! ## PATTERN-DEFINE -/

theorem length_profileBytes (p : Profile) : (profileBytes p).length = 10 := by
  rw [profileBytes, List.length_append, length_items (n := 1) (fun _ => rfl), p.codes.length_eq]
  rfl

/-- R60, R190: the profile of a WRITE is read back from behind the first 10 bytes. -/
theorem profileOf_profileBytes {head : List Byte} (hh : head.length = 10) {prof : Option Profile}
    (h : profileFits prof = true) : profileOf (head ++ (prof.map profileBytes).getD []) = prof := by
  cases prof with
  | none => simp [profileOf, hh]
  | some p =>
    obtain ⟨hcodes, hlimit⟩ : (p.codes.toList.all fits8 = true) ∧ fits16 p.limit = true := by
      simpa [profileFits] using h
    have hlength : (head ++ profileBytes p).length = 20 := by
      rw [List.length_append, hh, length_profileBytes]
    have hcode (i : Fin 8) : byteAt (head ++ profileBytes p) (10 + i.val) = p.codes.get i := by
      have hi : i.val < p.codes.toList.length := p.codes.length_eq.symm ▸ i.isLt
      have hread := byteAt_items (n := 1) (enc := u8) (fun _ => rfl) p.codes.toList (u16 p.limit) i.val hi Nat.one_pos
      rw [Nat.one_mul, Nat.add_zero] at hread
      rw [← hh, byteAt_append_length, profileBytes, hread]
      exact byteAt_u8 (List.all_eq_true.mp hcodes _ (List.getElem_mem hi)) []
    have hword : wordAt (head ++ profileBytes p) 18 = p.limit := by
      have hfront : (head ++ p.codes.toList.flatMap u8).length = 18 := by
        rw [List.length_append, hh, length_items (n := 1) (fun _ => rfl), p.codes.length_eq]
      rw [profileBytes, ← List.append_assoc, ← hfront, wordAt_append_length]
      exact wordAt_u16 ((fits16_iff _).mp hlimit) []
    rw [Option.map_some, Option.getD_some, profileOf, if_pos hlength]
    simp only [hcode, hword]
    exact congrArg (fun codes : Table 8 Nat => some (Profile.mk codes p.limit)) (table_ofFn_get p.codes)

theorem patternDefineFrame_write {r a l p t : Nat} {prof : Option Profile} (hr : fits8 r = true) (ha : fits16 a = true)
    (hl : fits16 l = true) (hp : fits16 p = true) (ht : fits16 t = true) (hprof : profileFits prof = true) :
    patternDefineFrame (u8 r ++ u8 0 ++ u16 a ++ u16 l ++ u16 p ++ u16 t ++ (prof.map profileBytes).getD [])
      = servePatternDefineWrite r a l p t prof := by
  have word {n : Nat} (h : fits16 n = true) (q : List Byte) : wordAt (u16 n ++ q) 0 = n :=
    wordAt_u16 ((fits16_iff n).mp h) q
  have hread := profileOf_profileBytes (head := u8 r ++ u8 0 ++ u16 a ++ u16 l ++ u16 p ++ u16 t) rfl hprof
  have htail : ((prof.map profileBytes).getD []).length = 0 ∨ ((prof.map profileBytes).getD []).length = 10 := by
    cases prof with
    | none => exact .inl rfl
    | some f => exact .inr (length_profileBytes f)
  generalize (prof.map profileBytes).getD [] = tail at hread htail ⊢
  have hlength : (u8 r ++ u8 0 ++ u16 a ++ u16 l ++ u16 p ++ u16 t ++ tail).length = tail.length + 10 := rfl
  generalize hq : u8 r ++ u8 0 ++ u16 a ++ u16 l ++ u16 p ++ u16 t ++ tail = q at hread hlength ⊢
  have hrecord : byteAt q 0 = r := hq ▸ byteAt_u8 hr _
  have hform : byteAt q 1 = 0 := hq ▸ rfl
  have hstart : wordAt q 2 = a := hq ▸ word ha (u16 l ++ u16 p ++ u16 t ++ tail)
  have hlen : wordAt q 4 = l := hq ▸ word hl (u16 p ++ u16 t ++ tail)
  have hperiod : wordAt q 6 = p := hq ▸ word hp (u16 t ++ tail)
  have htol : wordAt q 8 = t := hq ▸ word ht tail
  funext s
  simp only [patternDefineFrame, if_pos (show q.length = 2 ∨ q.length = 10 ∨ q.length = 20 by omega), hform]
  rw [if_neg (by omega), hrecord, hstart, hlen, hperiod, htol, hread]

/-! ## Frames with lists -/

theorem length_zoneTune (l : List TuneItem) :
    (l.flatMap fun i => u8 i.code ++ s16 i.value).length = 3 * l.length := length_items (n := 3) (fun _ => rfl) l

theorem zoneTuneFrame_items {l : List TuneItem} (h : (l.all fun i => fits8 i.code && fitsSigned i.value) = true) :
    zoneTuneFrame (l.flatMap fun i => u8 i.code ++ s16 i.value) = serveZoneTune l := by
  have hlength := length_zoneTune l
  have hread : ∀ i ∈ l, tuneOf (u8 i.code ++ s16 i.value) = i := fun i hi => by
    have hfit := List.all_eq_true.mp h i hi
    rw [Bool.and_eq_true] at hfit
    exact congrArg₂ TuneItem.mk (byteAt_u8 hfit.1 _) (signedAt_s16 hfit.2 [])
  have hitems := map_groups_items (n := 3) (by decide) (fun _ => rfl) hread le_rfl
  funext s
  rw [zoneTuneFrame, if_neg (by omega), hitems]

theorem length_accelBytes (l : List Breakpoint) : (accelBytes l).length = 4 * l.length :=
  length_items (n := 4) (enc := fun p : Breakpoint => s16 p.temp ++ u16 p.factor) (fun _ => rfl) l

theorem accelFrame_items {l : List Breakpoint} (h : (l.all fun p => fitsSigned p.temp && fits16 p.factor) = true) :
    accelFrame (accelBytes l) = serveAccelTableLoad l := by
  have hlength := length_accelBytes l
  have hread : ∀ p ∈ l, breakpointOf (s16 p.temp ++ u16 p.factor) = p := fun p hp => by
    have hfit := List.all_eq_true.mp h p hp
    rw [Bool.and_eq_true] at hfit
    exact congrArg₂ Breakpoint.mk (signedAt_s16 hfit.1 _) (wordAt_u16 ((fits16_iff _).mp hfit.2) [])
  have hitems : (groups 4 (accelBytes l).length (accelBytes l)).map breakpointOf = l :=
    map_groups_items (n := 4) (by decide) (fun _ => rfl) hread le_rfl
  funext s
  rw [accelFrame, if_neg (by omega), hitems]

theorem length_patternLoad (start : Nat) (l : List RawVector) :
    (u16 start ++ l.flatMap fun v => u16 v.drive.toNat ++ [v.marks]).length = 2 + 3 * l.length := by
  rw [List.length_append, length_items (n := 3) fun _ => rfl]
  rfl

theorem patternLoadFrame_items {start : Nat} (h : fits16 start = true) (l : List RawVector) :
    patternLoadFrame (u16 start ++ l.flatMap fun v => u16 v.drive.toNat ++ [v.marks]) = servePatternLoad start l := by
  have hlength := length_patternLoad start l
  have hread : ∀ v ∈ l, rawVectorOf (u16 v.drive.toNat ++ [v.marks]) = v := fun v _ => by
    have hdrive : wordAt (u16 v.drive.toNat ++ [v.marks]) 0 = v.drive.toNat := wordAt_u16 v.drive.isLt _
    rw [rawVectorOf, hdrive, BitVec.ofNat_toNat, BitVec.setWidth_eq]
    rfl
  have hitems := map_groups_items (n := 3) (by decide) (fun _ => rfl) hread
    (fuel := (u16 start ++ l.flatMap fun v => u16 v.drive.toNat ++ [v.marks]).length)
    (List.length_append ▸ Nat.le_add_left _ _)
  have hword : wordAt (u16 start ++ l.flatMap fun v => u16 v.drive.toNat ++ [v.marks]) 0 = start :=
    wordAt_u16 ((fits16_iff _).mp h) _
  have hdrop : (u16 start ++ l.flatMap fun v => u16 v.drive.toNat ++ [v.marks]).drop 2
      = l.flatMap fun v => u16 v.drive.toNat ++ [v.marks] := rfl
  funext s
  rw [patternLoadFrame, if_neg (by omega), hword, hdrop, hitems]

/-! ## Frames of requests -/

theorem ofLength_eq {n : Nat} {p : List Byte} {f g : State → Served} (hp : p.length = n) (h : f = g) :
    ofLength n p f = g := by
  funext s
  rw [ofLength, if_pos hp, h]

/-- R185, R187, R190: a frame that the receiver takes, and that the link controller reads as a request's rule. -/
structure ReadAs (f : Frame) (serve : State → Served) : Prop where
  length : f.payload.length ≤ 240
  request : topBit f.kind = false
  serve : serveFrame f.kind f.payload = serve

section Frames

variable {kind : Byte} {k n form : Nat} {p : List Byte} {g serve : State → Served}

theorem readAs_frame (hkind : topBit kind = false) (hlen : p.length ≤ 240) (h : serveFrame kind p = serve) :
    ReadAs ⟨kind, p⟩ serve := ⟨hlen, hkind, h⟩

/-- A payload of the one length the catalogue gives, whose fields are read back. -/
theorem readAs_ofLength (hkind : topBit kind = false) (hserve : serveFrame kind p = ofLength n p g) (hn : n ≤ 240)
    (hp : p.length = n) (hg : g = serve) : ReadAs ⟨kind, p⟩ serve :=
  readAs_frame hkind (hp.trans_le hn) (hserve.trans (ofLength_eq hp hg))

/-- A request without operands. -/
theorem readAs_empty (hkind : topBit kind = false) (hserve : serveFrame kind [] = ofLength 0 [] serve) :
    ReadAs ⟨kind, []⟩ serve := readAs_ofLength hkind hserve (Nat.zero_le _) rfl rfl

/-- A request of one byte, as a slot. -/
theorem readAs_byte {serve : Nat → State → Served} (h : fits8 n = true) (hkind : topBit kind = false)
    (hserve : serveFrame kind (u8 n) = ofLength 1 (u8 n) (serve (byteAt (u8 n) 0))) : ReadAs ⟨kind, u8 n⟩ (serve n) :=
  readAs_ofLength hkind hserve (by decide) rfl (congrArg serve (byteAt_u8 h []))

/-- A request of one byte and its form. -/
theorem readAs_form {serve : Nat → State → Served} (h : fits8 n = true) (hkind : topBit kind = false)
    (hserve : serveFrame kind (u8 n ++ u8 form)
      = ofLength 2 (u8 n ++ u8 form) (serve (byteAt (u8 n ++ u8 form) 0))) :
    ReadAs ⟨kind, u8 n ++ u8 form⟩ (serve n) :=
  readAs_ofLength hkind hserve (by decide) rfl (congrArg serve (byteAt_u8 h _))

/-- R36: a SOCKET-SET with a list of socket numbers. -/
theorem readAs_socketSet {l : List Nat} {serve : Nat → List Nat → State → Served} (hk : fits8 k = true)
    (hl : socketsFit 2 l = true)
    (hserve : ∀ p : List Byte, serveFrame 0x15 (u8 k ++ u8 form ++ p) = serve (byteAt (u8 k) 0) (socketNumbers p)) :
    ReadAs ⟨0x15, u8 k ++ u8 form ++ l.flatMap u8⟩ (serve k l) := by
  obtain ⟨hl, hlen⟩ : l.all fits8 = true ∧ fitsPayload (2 + l.length) = true := (Bool.and_eq_true _ _).mp hl
  have hslot : byteAt (u8 k) 0 = k := byteAt_u8 hk []
  refine readAs_frame (by decide) ?_ ?_
  · rw [List.length_append, length_items (n := 1) fun _ => rfl, Nat.one_mul]
    exact (fitsPayload_iff _).mp hlen
  · rw [hserve, hslot, socketNumbers_u8 hl]

/-- R38: a SOCKET-STATUS with a list of socket numbers. -/
theorem readAs_socketStatus {l : List Nat} (hk : fits8 k = true) (hl : socketsFit 1 l = true) :
    ReadAs ⟨0x16, u8 k ++ l.flatMap u8⟩ (serveSocketStatus k l) := by
  obtain ⟨hl, hlen⟩ : l.all fits8 = true ∧ fitsPayload (1 + l.length) = true := (Bool.and_eq_true _ _).mp hl
  refine readAs_frame (by decide) ?_ ?_
  · rw [List.length_append, length_items (n := 1) fun _ => rfl, Nat.one_mul]
    exact (fitsPayload_iff _).mp hlen
  · exact congrArg₂ serveSocketStatus (byteAt_u8 hk []) (socketNumbers_u8 hl)

theorem readAs_boardStage {l : List StageItem} (hk : fits8 k = true) (hl : l.all StageItem.wellFormed = true)
    (hlen : fitsPayload (1 + (l.map StageItem.size).sum) = true) :
    ReadAs ⟨0x12, u8 k ++ l.flatMap stageItemBytes⟩ (serveBoardStage k l) := by
  refine readAs_frame (by decide) ?_ (stageFrame_items hk hl)
  rw [List.length_append, length_stageItems]
  exact (fitsPayload_iff _).mp hlen

theorem readAs_patternDefineWrite {r a l p t : Nat} {prof : Option Profile} (hr : fits8 r = true) (ha : fits16 a = true)
    (hl : fits16 l = true) (hp : fits16 p = true) (ht : fits16 t = true) (hprof : profileFits prof = true) :
    ReadAs ⟨0x21, u8 r ++ u8 0 ++ u16 a ++ u16 l ++ u16 p ++ u16 t ++ (prof.map profileBytes).getD []⟩
      (servePatternDefineWrite r a l p t prof) := by
  refine readAs_frame (by decide) ?_ (patternDefineFrame_write hr ha hl hp ht hprof)
  rw [List.length_append]
  cases prof with
  | none => exact Nat.le_add_left 10 230
  | some f => exact (congrArg (10 + ·) (length_profileBytes f)).trans_le (Nat.le_add_left 20 220)

end Frames

/-- R187, R190: a well-formed command that has a frame is a request, and its frame is read as that request's rule. -/
theorem request_readAs {i : Instr} {f : Frame} (hw : i.wellFormed = true) (hf : requestFrame i = some f) :
    ∃ serve, ReadAs f serve ∧ ∀ s, exec i s = .next (takeRequest f.kind serve s) := by
  have taken {serve : State → Served} (hread : ReadAs f serve) (e : ∀ s, exec i s = .next (takeRequest f.kind serve s)) :
      ∃ serve, ReadAs f serve ∧ ∀ s, exec i s = .next (takeRequest f.kind serve s) := ⟨serve, hread, e⟩
  have word {n : Nat} (h : fits16 n = true) (p : List Byte) : wordAt (u16 n ++ p) 0 = n :=
    wordAt_u16 ((fits16_iff n).mp h) p
  cases i <;> cases hf <;> simp only [Instr.wellFormed, Bool.and_eq_true] at hw
  case identify | zoneReset | zoneCool | zoneAbort | zoneStatus | accountSnapshot | snapshotRelease | logStatus
    | alertPoll | clockStatus | clockClear => exact taken (readAs_empty (by decide) rfl) fun _ => rfl
  case boardPowerUp | boardPowerDown | boardApply | boardStatus | exerciseStart | exerciseStop | burstTrigger
    | accountRead | accountClear | alertDone => exact taken (readAs_byte hw (by decide) rfl) fun _ => rfl
  case patternDefineClear | patternDefineQuery | burstConfigQuery =>
    exact taken (readAs_form hw (by decide) rfl) fun _ => rfl
  case socketSetMask | socketSetUnmask | socketSetReinstate =>
    exact taken (readAs_socketSet hw.1 hw.2 fun _ => rfl) fun _ => rfl
  case socketStatus => exact taken (readAs_socketStatus hw.1 hw.2) fun _ => rfl
  case zoneTune l =>
    have hlen := (length_zoneTune l).trans_le ((fitsPayload_iff _).mp hw.2)
    exact taken (readAs_frame (by decide) hlen (zoneTuneFrame_items hw.1)) fun _ => rfl
  case accelTableLoad l =>
    have hlen := (length_accelBytes l).trans_le ((fitsPayload_iff _).mp hw.2)
    exact taken (readAs_frame (by decide) hlen (accelFrame_items hw.1)) fun _ => rfl
  case patternLoad start l =>
    have hlen := (length_patternLoad start l).trans_le ((fitsPayload_iff _).mp hw.2)
    exact taken (readAs_frame (by decide) hlen (patternLoadFrame_items hw.1 l)) fun _ => rfl
  case boardStage =>
    obtain ⟨⟨hk, hl⟩, hlen⟩ := hw
    exact taken (readAs_boardStage hk hl hlen) fun _ => rfl
  case patternDefineWrite =>
    obtain ⟨⟨⟨⟨⟨hr, ha⟩, hl⟩, hp⟩, ht⟩, hprof⟩ := hw
    exact taken (readAs_patternDefineWrite hr ha hl hp ht hprof) fun _ => rfl
  case burstConfigSet k p m n g =>
    obtain ⟨⟨⟨⟨hk, hp⟩, hm⟩, hn⟩, hg⟩ := hw
    have hbytes := congr (congrArg₂ serveBurstConfigSet (byteAt_u8 hk (u8 0 ++ u8 p ++ u8 m ++ u16 n ++ u16 g))
      (byteAt_u8 hp (u8 m ++ u16 n ++ u16 g))) (byteAt_u8 hm (u16 n ++ u16 g))
    have hfields := congr (congr hbytes (word hn (u16 g))) (word hg [])
    exact taken (readAs_ofLength (n := 8) (by decide) rfl (by decide) rfl hfields) fun _ => rfl
  case zoneSetpoint t r =>
    have hfields := congrArg₂ serveZoneSetpoint (signedAt_s16 hw.1 (u8 r)) (byteAt_u8 hw.2 [])
    exact taken (readAs_ofLength (by decide) rfl (by decide) rfl hfields) fun _ => rfl
  case weightsSet a b =>
    have hfields := congrArg₂ serveWeightsSet (word hw.1 (u16 b)) (word hw.2 [])
    exact taken (readAs_ofLength (by decide) rfl (by decide) rfl hfields) fun _ => rfl
  case logRead p n =>
    have hfields := congrArg₂ serveLogRead (word hw.1 (u8 n)) (byteAt_u8 hw.2 [])
    exact taken (readAs_ofLength (by decide) rfl (by decide) rfl hfields) fun _ => rfl
  case logRetire n =>
    exact taken (readAs_ofLength (by decide) rfl (by decide) rfl (congrArg serveLogRetire (word hw []))) fun _ => rfl
  case alertMask => exact taken (readAs_ofLength (by decide) rfl (by decide) rfl rfl) fun _ => rfl
  case alertConfig p d =>
    have hfields := congrArg₂ serveAlertConfig (byteAt_u8 hw.1 (u8 d)) (byteAt_u8 hw.2 [])
    exact taken (readAs_ofLength (by decide) rfl (by decide) rfl hfields) fun _ => rfl
  case unknownKindRequest kind payload =>
    obtain ⟨⟨hkind, -⟩, hlen⟩ := hw
    have htop : topBit kind = false := (Bool.not_eq_true' _).mp hkind
    refine taken (readAs_frame htop ((fitsPayload_iff _).mp hlen) rfl) fun s => ?_
    simp only [exec, execUnknownKindRequest, htop, Bool.false_eq_true, if_false, takeFrame]

/-- Settles O2: the frame is read as the rule that the command is taken by (`request_readAs`). -/
theorem requestIsTakenFromItsFrame : Obligations.RequestIsTakenFromItsFrame := by
  intro i f hw hf
  obtain ⟨serve, hread, hexec⟩ := request_readAs hw hf
  refine ⟨hread.length, hread.request, fun s => ?_⟩
  rw [hexec, takeFrame, hread.serve]

end Sys2Proof.Machine
end


section
/-!
PROOFS. A step by the command queue (section 1.4, log entry 1).
-/

namespace Sys2Proof.Machine

/-- The command at the front of the queue runs on the state that keeps the queue's rest. -/
theorem step_of_pending_cons {s : State} {c : Instr} {rest : List Instr} (h : s.pending = c :: rest) :
    step s = exec c { s with pending := rest } := by
  rw [step, h]

/-- With no command in the queue the block idles. -/
theorem step_of_pending_nil {s : State} (h : s.pending = []) : step s = .next s := by
  rw [step, h]

/-- Settles O1, by the two forms of the queue. -/
theorem stepRunsTheFrontCommand : Obligations.StepRunsTheFrontCommand := fun _ _ _ =>
  ⟨step_of_pending_cons rfl, step_of_pending_nil rfl⟩

end Sys2Proof.Machine
end
